-- ==== Sys2Proof/Word.lean ====
section
/-! DEFINITION. The byte, the arithmetic of 0.6 of the manual (floor, ceil, clamp), and the group of four
heads. -/

namespace Sys2Proof

/-- A byte on the line or in the store. -/
abbrev Byte := BitVec 8

/-- 'Ceil means the least integer not below the exact quotient' (0.6). -/
def ceilDiv (a b : Nat) : Nat := (a + b - 1) / b

/-- 'A clamp to a range replaces a value below the range by its lower end and a value above it by its upper
end' (0.6). -/
def clamp (lo hi x : Nat) : Nat := min hi (max lo x)

/-- One value for each of the four heads a part can run (0.1, 0.4). -/
structure Four (α : Type) where
  h0 : α
  h1 : α
  h2 : α
  h3 : α
deriving DecidableEq, Repr

/-- The same value for every head. -/
def Four.all {α : Type} (x : α) : Four α := ⟨x, x, x, x⟩

/-- The value of head `k`. -/
def Four.get {α : Type} (f : Four α) (k : Fin 4) : α :=
  match k with
  | 0 => f.h0
  | 1 => f.h1
  | 2 => f.h2
  | 3 => f.h3

/-- The values with head `k`'s changed by `g`. -/
def Four.modify {α : Type} (f : Four α) (k : Fin 4) (g : α → α) : Four α :=
  match k with
  | 0 => { f with h0 := g f.h0 }
  | 1 => { f with h1 := g f.h1 }
  | 2 => { f with h2 := g f.h2 }
  | 3 => { f with h3 := g f.h3 }

/-- The values with every head's changed by `g`. -/
def Four.map {α β : Type} (f : Four α) (g : α → β) : Four β :=
  ⟨g f.h0, g f.h1, g f.h2, g f.h3⟩

/-- The head indexes in ascending order. -/
def headIndexes : List (Fin 4) := [0, 1, 2, 3]

end Sys2Proof
end

