-- ==== Sys2Proof/Config.lean ====
section
/-! DEFINITION. The free values: what the manual leaves open. Each is an opaque constant, so that nothing can be
proved of its value. -/

namespace Sys2Proof

/-- FREE VALUE (log entry 4). The code of the order in which, at the consultation numbered by the argument, several
originators offer at one queue removal ('the offers are taken in either order', R45), several heads act in one event
(R157), or one event runs the draw unit in both classes (R138, R139, R144, R146). -/
opaque Config.order : Nat → Nat

/-- FREE VALUE (log entry 5). The bytes that a record holds after its write was cut short, at the cut numbered by the
first argument and the offset given by the second ('whatever bytes it then holds', R180). -/
opaque Config.cutByte : Nat → Nat → BitVec 8

/-- FREE VALUE (log entry 6). What the held mark holds after the entry to FAULT numbered by the argument ('The held
mark, the announce stage and the learn and listen counts stop being kept', R34). -/
opaque Config.heldInFault : Nat → Fin 3

end Sys2Proof
end

