-- ==== Sys2Proof/Syntax.lean ====
section
/-! DEFINITION. The commands: one constructor per row of spec/opcode_table.json. The rows give no operands; the
operands here are what comes from outside with the event. A delivered frame comes from the receive queue, so the rows of
delivered frames take none. -/

namespace Sys2Proof

/-- The levels of the head inputs that a rise of travel can sample: CAPk at the cap check (R87), OCk at a binding
(R128) and while the channel drives (R124). -/
structure Levels where
  cap : Four Bool
  oc  : Four Bool
deriving DecidableEq, Repr

/-- Every input inactive. -/
def Levels.quiet : Levels := ⟨.all false, .all false⟩

/-- The commands. `dt` is the number of 10 µs time base steps that pass between the command before and the edge;
`pins` the levels of the head inputs at the edge; `k` a head; `counts` a reading of the torque converter; `b`, `lead` and
`stop` a byte taken from the line, its lead bit and its stop bit (true is recessive); `bit` the index, from the frame's
first start bit, of the bit that reads back different. -/
inductive Instr where
  | powerReset
  | pinReset
  | resetEnd (guardOpen : Bool)
  | loadComplete
  | pitchPulse (dt : Nat) (pins : Levels)
  | zeroPulse (dt : Nat) (pins : Levels)
  | eSaturation
  | stall
  | thresholdReached (k : Fin 4) (pins : Levels)
  | markEdge (dt : Nat)
  | noMark (dt : Nat) (pins : Levels)
  | listeningComplete (dt : Nat) (pins : Levels)
  | reAnnounceHoldOffEnd (dt : Nat) (pins : Levels)
  | position
  | jarIn
  | drawOpen
  | drawClose
  | halt
  | resume
  | guardOpens
  | guardCloses
  | framingError (b : Byte) (lead : Bool)
  | truncatedError (b : Byte)
  | lengthError (b : Byte)
  | frameComplete (b : Byte)
  | transmissionStart
  | transmissionComplete
  | collision (bit : Nat)
  | doubtEnd (dt : Nat) (pins : Levels)
  | viewEntryExpiry (dt : Nat) (pins : Levels)
  | closeCountdownEnd (dt : Nat) (pins : Levels)
  | flushTick (k : Fin 4)
  | seatSample (k : Fin 4) (seated : Bool)
  | seatWindowEnd (k : Fin 4)
  | torqueStep (k : Fin 4) (counts : BitVec 12)
  | threadFindEnd (k : Fin 4) (counts : BitVec 12)
  | gapEnd (k : Fin 4) (counts : BitVec 12)
  | torqueTimeLimit (k : Fin 4) (counts : BitVec 12)
  | overcurrentTrip (k : Fin 4)
  | forcedRunEnd
  | storeWriteCompletion
  | readState
  | readPocket
  | readView
  | readRecord
  | writeRecord
  | clearHead
  | forceOutput
  | restart
  | unknownRequest
  | byteTaken (b : Byte) (lead : Bool) (stop : Bool)
  | pwmPeriodStart
deriving DecidableEq, Repr

end Sys2Proof
end

