-- ==== Sys2Proof/WellFormed.lean ====
section
/-! DEFINITION. Which commands the surroundings can send. The head index, the byte and the torque count are in range
by their types; what remains is the bit index of a collision. -/

namespace Sys2Proof

/-- The longest frame, 72 bytes of payload, takes 825 bit-times (R39). -/
def longestFrameBits : Nat := 825

/-- A collision falls on a bit of a frame (R47): its index lies below the length of the longest frame. Every other
command is well formed. -/
def Instr.wellFormed : Instr → Bool
  | .collision bit => decide (bit < longestFrameBits)
  | .powerReset | .pinReset | .resetEnd _ | .loadComplete | .pitchPulse _ _ | .zeroPulse _ _ | .eSaturation | .stall
  | .thresholdReached _ _ | .markEdge _ | .noMark _ _ | .listeningComplete _ _ | .reAnnounceHoldOffEnd _ _
  | .position | .jarIn | .drawOpen | .drawClose | .halt | .resume | .guardOpens | .guardCloses
  | .framingError _ _ | .truncatedError _ | .lengthError _ | .frameComplete _ | .transmissionStart
  | .transmissionComplete | .doubtEnd _ _ | .viewEntryExpiry _ _ | .closeCountdownEnd _ _ | .flushTick _
  | .seatSample _ _ | .seatWindowEnd _ | .torqueStep _ _ | .threadFindEnd _ _ | .gapEnd _ _ | .torqueTimeLimit _ _
  | .overcurrentTrip _ | .forcedRunEnd | .storeWriteCompletion | .readState | .readPocket | .readView | .readRecord
  | .writeRecord | .clearHead | .forceOutput | .restart | .unknownRequest | .byteTaken _ _ _ | .pwmPeriodStart => true

end Sys2Proof
end

