-- ==== Sys2Proof/Decode.lean ====
section
/-! DEFINITION. The word reading that the host asks for. -/

namespace Sys2Proof

/-- The command that a word of `nbits` bits spells by the table's bits. No row of spec/opcode_table.json gives bits
(every row's "fields" is empty and none has "fixed"), so no word spells a command. -/
def decodeTableWord (_nbits _w : Nat) : Option Instr := none

end Sys2Proof
end

