-- ==== Sys2Proof/Machine/State.lean ====
section
/-! DEFINITION. The state of the station, block by block, as plain data, and its value after reset. A field's default
is its value after reset; the rule named in its structure's docstring gives it. -/

namespace Sys2Proof.Machine
open Sys2Proof

/-- Why a step stops. No command of the table raises one: the spec stops the station at nothing (FAULT is a mode,
R34). -/
inductive Fault where
  /-- An access to a store address above 3FFH (R172). No command makes one, since every record lies below 240H. SAFE:
  the machine would stop where the spec gives no store. -/
  | storeAddress (a : Nat)
deriving DecidableEq, Repr

/-- Why a command has no meaning. -/
inductive Refusal where
  /-- A row that exec does not model yet, by its mnemonic: raised by no arm of exec any more. SAFE: a refused command
  answers no next state. -/
  | notModelled (mnemonic : String)
deriving DecidableEq, Repr

/-! ## Names -/

/-- The station modes (R17). -/
inductive Mode where
  | start | learn | announce | run | stand | safe | fault
deriving DecidableEq, Repr

/-- The fault codes (2.1). -/
inductive FaultCode where
  | none | settings | noMark | misaligned | conflict | mismatch | duplicate | line
deriving DecidableEq, Repr

/-- The held mark (R30). -/
inductive HeldMark where
  | clear | stop | trip
deriving DecidableEq, Repr

/-- The announce stage (R17). -/
inductive AnnounceStage where
  | none | waiting | queued | retry | listening
deriving DecidableEq, Repr

/-- The kinds of reset (R36). -/
inductive ResetKind where
  | power | pin | restart
deriving DecidableEq, Repr

/-- The motion states (R9). -/
inductive Motion where
  | unknown | turning | stalled
deriving DecidableEq, Repr

/-- The eight thresholds a head's list can hold, in the order of 5.2 (R13, R84). -/
inductive Threshold where
  | intakeClose | cap | fe | fl | fx | dl | rel | discharge
deriving DecidableEq, Repr

/-- The two shared resources (R133). -/
inductive DrawClass where
  | steam | drive
deriving DecidableEq, Repr

/-- The head states (5.1). -/
inductive Phase where
  | idle | bound | steamWait | steamAnnounced | flush | seat | driveWait | driveAnnounced | torque | dwell | out
deriving DecidableEq, Repr

/-- The channel states (R109). -/
inductive ChannelState where
  | off | forward | reverse | gap | tripped
deriving DecidableEq, Repr

/-- The direction that the bridge drives in the current PWM period (R110). -/
inductive Bridge where
  | off | forward | reverse
deriving DecidableEq, Repr

/-- The steps of the torque phase (6.2). -/
inductive TorqueStep where
  | none | threadFind | gap | ramp | settle
deriving DecidableEq, Repr

/-- The slot states (4.1). -/
inductive SlotState where
  | idle | opened | bound | settled
deriving DecidableEq, Repr

/-- The condition of a jar (4.1, R70). -/
inductive Condition where
  | ok | noJar | damaged | lowFill | ungauged
deriving DecidableEq, Repr

/-- The recipe number that a record holds (4.1). -/
inductive RecipeRef where
  | absent | unusable | number (n : Nat)
deriving DecidableEq, Repr

/-- The cap present field (4.1). -/
inductive CapPresent where
  | unknown | yes | no
deriving DecidableEq, Repr

/-- The flush end kinds (R93). -/
inductive FlushEnd where
  | none | complete | limit | cut | aborted
deriving DecidableEq, Repr

/-- The seat result (4.1). -/
inductive SeatResult where
  | unknown | seated | notSeated
deriving DecidableEq, Repr

/-- The torque end kinds (R121). -/
inductive TorqueEnd where
  | none | done | time | angle | trip | aborted
deriving DecidableEq, Repr

/-- The verdicts (8.8). -/
inductive Verdict where
  | pass | reject | skipped | empty
deriving DecidableEq, Repr

/-- The verdict delivery (R78). -/
inductive Delivery where
  | none | waiting | queued | sent
deriving DecidableEq, Repr

/-- The reasons (3.1). -/
inductive Reason where
  | noCap | seat | driveTrip | halted | position | recipe | headOut | vacuumLow | torqueLow | torqueHigh | lowFill
deriving DecidableEq, Repr

/-- The draw statuses (R140). -/
inductive DrawStatus where
  | none | pending | opened | openForced
deriving DecidableEq, Repr

/-- The open frame of a draw (R140). -/
inductive OpenFrame where
  | none | inQueue | sent
deriving DecidableEq, Repr

/-- The request in progress (R182). -/
inductive Request where
  | none | write | restart
deriving DecidableEq, Repr

/-- The outputs that a forced run can drive (R188). -/
inductive Output where
  | steam | press | drive
deriving DecidableEq, Repr

/-- The causes of a trip (6.2). -/
inductive TripCause where
  | overcurrent | guard | safe
deriving DecidableEq, Repr

/-- The frame kinds (3.1): the lower four bits of the lead byte. -/
inductive Kind where
  | position | jarIn | drawOpen | drawClose | verdict | halt | resume | ask | answer
  | other (n : Nat)
deriving DecidableEq, Repr

/-! ## Blocks -/

/-- One value for each class. -/
structure PerClass (α : Type) where
  steam : α
  drive : α
deriving DecidableEq, Repr

/-- The angle tracker (table of 1.1; reset R16). `begun` is the flag of R1: pulses are taken from the entry to LEARN
until the next reset. φ and the travels are views (R5, R12). -/
structure Tracker where
  c        : Nat := 0
  valid    : Bool := false
  l        : Nat := 0
  measured : Bool := false
  stage    : Nat := 0
  e        : Nat := 0
  motion   : Motion := .unknown
  begun    : Bool := false
deriving DecidableEq, Repr

/-- The reached marks of one head, one per threshold (R13). -/
structure Marks where
  intakeClose : Bool := false
  cap         : Bool := false
  fe          : Bool := false
  fl          : Bool := false
  fx          : Bool := false
  dl          : Bool := false
  rel         : Bool := false
  discharge   : Bool := false
deriving DecidableEq, Repr

/-- What the tracker holds for one head (1.1; reset R16). -/
structure Track where
  marks    : Marks := {}
  heldBack : Bool := false
deriving DecidableEq, Repr

/-- The mode unit (R17; the start-cause record R37). -/
structure ModeUnit where
  mode       : Mode := .start
  fault      : FaultCode := .none
  held       : HeldMark := .clear
  g          : Option Nat := none
  p0         : Option Nat := none
  node       : Nat := 15
  learn      : Nat := 0
  listen     : Nat := 0
  holdOff    : Nat := 0
  causeKind  : ResetKind := .power
  causeFault : FaultCode := .none
deriving DecidableEq, Repr

/-- The progress of the mode unit's own POSITION frames (R17). -/
structure Announcing where
  stage     : AnnounceStage := .none
  rePending : Bool := false
  reQueued  : Bool := false
deriving DecidableEq, Repr

/-- A frame: its source node, its kind and its payload; the length byte and the check byte follow from them (R39). -/
structure Frame where
  source  : Nat
  kind    : Kind
  payload : List Byte
deriving DecidableEq, Repr

/-- A normal frame in the transmit queue, with its collision count (R48) and the model's number for it. -/
structure TxFrame where
  frame      : Frame
  collisions : Nat := 0
  ticket     : Nat := 0
deriving DecidableEq, Repr

/-- The frame in transmission (3.2): none; the head of the normal part, which keeps its place there; a HALT, which has
left its slot; or a normal frame whose queue an entry to FAULT has emptied around it (R34, R64). -/
inductive OnLine where
  | none
  | normal
  | halt (f : Frame)
  | orphan (f : TxFrame)
deriving DecidableEq, Repr

/-- The transmit side of the line interface (3.2, 3.3; reset R65). `bits` counts the bit-times sent of the frame in
transmission, `idle` the bit-times of idle since the last stop bit, and `byte` those gone of another node's byte that is on
the line, so that the line is not idle (R38, R46). -/
structure Transmit where
  normal   : List TxFrame := []
  slot     : Option Frame := none
  onLine   : OnLine := .none
  bits     : Nat := 0
  idle     : Nat := 0
  byte     : Option Nat := none
  silenced : Bool := false
  ticket   : Nat := 0
deriving DecidableEq, Repr

/-- The receiver's state with the bytes of the frame so far (R53). -/
inductive Receiver where
  | hunt
  | length (lead : Byte)
  | payload (lead : Byte) (len : Nat) (got : List Byte)
  | check (lead : Byte) (got : List Byte)
deriving DecidableEq, Repr

/-- The five receive error counts (R58). -/
structure Errors where
  check     : Nat := 0
  framing   : Nat := 0
  truncated : Nat := 0
  length    : Nat := 0
  overrun   : Nat := 0
deriving DecidableEq, Repr

/-- The receive side of the line interface (3.5, 3.6; reset R65). `own` says that the frame being assembled is the
station's own and has not collided (R59, R60). -/
structure Receive where
  receiver : Receiver := .hunt
  own      : Bool := false
  queue    : List Frame := []
  errors   : Errors := {}
deriving DecidableEq, Repr

/-- A reason set (R165): 'The reasons are held as a set, without order'. -/
structure Reasons where
  noCap      : Bool := false
  seat       : Bool := false
  driveTrip  : Bool := false
  halted     : Bool := false
  position   : Bool := false
  recipe     : Bool := false
  headOut    : Bool := false
  vacuumLow  : Bool := false
  torqueLow  : Bool := false
  torqueHigh : Bool := false
  lowFill    : Bool := false
deriving DecidableEq, Repr

/-- The clearable part of a jar record (4.1; the cleared values are those of R66 and R81). `ticket` is the model's
own: the number of the queued VERDICT frame. -/
structure Record where
  gauged        : Bool := false
  recipe        : RecipeRef := .absent
  condition     : Option Condition := none
  fill          : Option Nat := none
  headspace     : Option Nat := none
  lateData      : Bool := false
  replaced      : Bool := false
  passed        : Bool := false
  cap           : CapPresent := .unknown
  fReq          : Nat := 0
  fEff          : Nat := 0
  flushEnd      : FlushEnd := .none
  forcedSteam   : Bool := false
  forcedDrive   : Bool := false
  shared        : Bool := false
  seat          : SeatResult := .unknown
  tauFinal      : Nat := 0
  tauPeak       : Nat := 0
  torqueEnd     : TorqueEnd := .none
  reasons       : Reasons := {}
  verdict       : Option Verdict := none
  v             : Nat := 0
  delivery      : Delivery := .none
  verdictPending : Bool := false
  ticket        : Option Nat := none
deriving DecidableEq, Repr

/-- The slot of one head (4.1; reset R81). -/
structure Slot where
  state  : SlotState := .idle
  pocket : Option Nat := none
  record : Record := {}
deriving DecidableEq, Repr

/-- The head engine of one head, with its two output pins (R82, R83; reset R108). `ms` counts the time base steps
since the flush or the seat window began or last ticked. -/
structure Engine where
  phase   : Phase := .idle
  recipe  : Option Nat := none
  asking  : Bool := false
  samples : Nat := 0
  out     : Bool := false
  steam   : Bool := false
  press   : Bool := false
  ms      : Nat := 0
deriving DecidableEq, Repr

/-- The latched trip causes (6.5). -/
structure Causes where
  overcurrent : Bool := false
  guard       : Bool := false
  safe        : Bool := false
deriving DecidableEq, Repr

/-- The drive channel of one head (6.2; reset R132). `force` is the duty in force and `bridge` the direction in force;
`ms` counts the time base steps since the phase began or last stepped. -/
structure Channel where
  state   : ChannelState := .off
  causes  : Causes := {}
  count   : Nat := 0
  duty    : Nat := 0
  force   : Nat := 0
  bridge  : Bridge := .off
  step    : TorqueStep := .none
  steps   : Nat := 0
  settle  : Nat := 0
  ceiling : Nat := 0
  last    : Option Nat := none
  peak    : Option Nat := none
  least   : Option Nat := none
  ms      : Nat := 0
deriving DecidableEq, Repr

/-- What a head asks of the draw unit (R141): class, units, latest-start threshold and life threshold. -/
structure Ask where
  cls    : DrawClass
  units  : Nat
  latest : Nat
  life   : Nat
deriving DecidableEq, Repr

/-- The own-draw record of one head (R140; reset R156). `terms` holds the class and units of the draw, and the
thresholds that a withdrawal restores to the ask (R148), while the status is other than NONE. -/
structure OwnDraw where
  ask       : Option Ask := none
  status    : DrawStatus := .none
  terms     : Option Ask := none
  openFrame : OpenFrame := .none
  countdown : PerClass Nat := ⟨0, 0⟩
  closing   : PerClass Bool := ⟨false, false⟩
deriving DecidableEq, Repr

/-- An entry of the view table (7.2). -/
structure ViewEntry where
  group : Nat
  head  : Nat
  cls   : DrawClass
  units : Nat
  life  : Nat
deriving DecidableEq, Repr

/-- The view table, doubt and the clean counter (7.2, 7.3; reset R156). -/
structure View where
  entries : List ViewEntry := []
  doubt   : Bool := true
  clean   : Nat := 0
deriving DecidableEq, Repr

/-- The settings store and the active copies (R172; the load in progress R176). `store` lists the bytes that differ
from 00H, addresses rising (log entry 1); `load` is the time left, in 10 µs steps. -/
structure Settings where
  store   : List Host.Cell := []
  profile : List Byte := []
  good    : Bool := false
  recipes : List (List Byte) := []
  usable  : List Bool := []
  load    : Option Nat := some 200
deriving DecidableEq, Repr

/-- A store write in progress (R172, R179): the record number of the request, its bytes, and the time left in 10 µs
steps. -/
structure StoreWrite where
  number : Nat
  bytes  : List Byte
  left   : Nat
deriving DecidableEq, Repr

/-- A forced run (R131, R188), with the time left in 10 µs steps. -/
structure ForcedRun where
  head   : Fin 4
  output : Output
  duty   : Nat
  left   : Nat
deriving DecidableEq, Repr

/-- The service unit (R182, R191) with the store's write in progress. -/
structure Service where
  request : Request := .none
  write   : Option StoreWrite := none
  forced  : Option ForcedRun := none
deriving DecidableEq, Repr

/-- The input pins of one head (0.4). -/
structure HeadPins where
  cap  : Bool := false
  seat : Bool := false
  oc   : Bool := false
  tq   : BitVec 12 := 0
deriving DecidableEq, Repr

/-- The input pins whose levels the station reads (0.4). -/
structure Pins where
  guardOpen : Bool := false
  heads     : Four HeadPins := Four.all {}
deriving DecidableEq, Repr

/-- The state of the station. `pwm` is the time since the PWM period began, in 10 µs steps; `dead` the dead time in
force, in ns; `inReset` the POWER or PIN reset that lasts; `refused` says in which classes the draw unit waits to offer
a DRAW-OPEN (R146). `pending` and `free` are the model's own: the commands that wait, first in first out, and the counter
that numbers the consultations of the free values. -/
structure State where
  tracker  : Tracker := {}
  unit     : ModeUnit := {}
  announce : Announcing := {}
  transmit : Transmit := {}
  receive  : Receive := {}
  view     : View := {}
  refused  : PerClass Bool := ⟨false, false⟩
  tracks   : Four Track := Four.all {}
  engines  : Four Engine := Four.all {}
  slots    : Four Slot := Four.all {}
  channels : Four Channel := Four.all {}
  draws    : Four OwnDraw := Four.all {}
  settings : Settings := {}
  service  : Service := {}
  pins     : Pins := {}
  pwm      : Nat := 0
  dead     : Nat := 2000
  inReset  : Option ResetKind := none
  free     : Nat := 0
  pending  : List Instr := []
deriving DecidableEq, Repr

/-- The station right after a POWER reset has ended with GUARD closed and an erased store: every block at the values
of R16, R17, R65, R81, R108, R132, R156, R172 and R191, in START, with the settings load begun. -/
def State.reset : State := {}

end Sys2Proof.Machine
end

