-- ==== Sys2Proof/Machine/Operands.lean ====
section
/-! DEFINITION. Layouts: the fields of frames and of stored records, the bits of a frame on the line, the checks of a
record, and the codes of the service answers. -/

namespace Sys2Proof.Machine
open Sys2Proof

/-! ## Bytes and fields -/

/-- The byte of a number's lowest eight bits. -/
def byte (n : Nat) : Byte := BitVec.ofNat 8 n

/-- The one-byte field at an offset. -/
def u8 (r : List Byte) (i : Nat) : Nat := (r.getD i 0).toNat

/-- The two-byte field at an offset, least significant byte first (0.6). -/
def u16 (r : List Byte) (i : Nat) : Nat := u8 r i + 256 * u8 r (i + 1)

/-- A number as two bytes, least significant first (0.6). -/
def le16 (n : Nat) : List Byte := [byte n, byte (n / 256)]

/-- A number as three bytes, least significant first (0.6). -/
def le24 (n : Nat) : List Byte := [byte n, byte (n / 256), byte (n / 65536)]

/-- The sum of bytes modulo 256 (R39, R173). -/
def sumBytes (bs : List Byte) : Byte := bs.foldl (· + ·) 0

/-- The byte that makes a sum of 0 modulo 256 (R39). -/
def checkByte (bs : List Byte) : Byte := 0 - sumBytes bs

/-! ## Frames -/

/-- The code of a frame kind (3.1). -/
def Kind.code : Kind → Nat
  | .position => 0
  | .jarIn => 1
  | .drawOpen => 2
  | .drawClose => 3
  | .verdict => 4
  | .halt => 5
  | .resume => 6
  | .ask => 7
  | .answer => 8
  | .other n => n

/-- The frame kind of a code 0 .. 15 (3.1). -/
def Kind.ofCode : Nat → Kind
  | 0 => .position
  | 1 => .jarIn
  | 2 => .drawOpen
  | 3 => .drawClose
  | 4 => .verdict
  | 5 => .halt
  | 6 => .resume
  | 7 => .ask
  | 8 => .answer
  | n => .other n

/-- Whether the kind is one of 9 .. 15, which no rule takes (3.1). -/
def Kind.isOther : Kind → Bool
  | .other _ => true
  | _ => false

/-- The lead byte: source node in the upper four bits, kind in the lower four (R39). -/
def Frame.leadByte (f : Frame) : Byte := byte (16 * f.source + f.kind.code)

/-- Lead, length and payload. -/
def Frame.body (f : Frame) : List Byte := f.leadByte :: byte f.payload.length :: f.payload

/-- All bytes of a frame, check byte last (R39). -/
def Frame.bytes (f : Frame) : List Byte := f.body ++ [checkByte f.body]

/-- The frame that a lead byte and a payload give (R39). -/
def frameOf (lead : Byte) (payload : List Byte) : Frame :=
  ⟨lead.toNat / 16, Kind.ofCode (lead.toNat % 16), payload⟩

/-- The eleven bit-times of a byte: start 0, data least significant first, lead bit, stop 1; true is recessive (R38). -/
def byteBits (lead : Bool) (b : Byte) : List Bool :=
  [false] ++ (List.range 8).map (fun i => b.getLsbD i) ++ [lead, true]

/-- The bits of a frame as sent, the lead bit set on the first byte alone (R38, R39). -/
def Frame.bits (f : Frame) : List Bool :=
  match f.bytes with
  | [] => []
  | b :: rest => byteBits true b ++ (rest.map (byteBits false)).flatten

/-- 'A frame takes 11 × (payload length + 3) bit-times' (R39). -/
def Frame.bitTimes (f : Frame) : Nat := 11 * (f.payload.length + 3)

/-- The gap of a frame: 12 bit-times for a HALT, 14 + 2·n for any other, n its source node (R46). -/
def Frame.gap (f : Frame) : Nat :=
  match f.kind with
  | .halt => 12
  | _ => 14 + 2 * f.source

/-- The severity byte of a HALT frame: 01H STOP, 02H TRIP (3.1). -/
def Frame.severity (f : Frame) : Nat := u8 f.payload 0

/-- A HALT that the line interface compares and the mode unit takes: payload of 2 bytes, severity STOP or TRIP (R43,
R30). -/
def Frame.isGoodHalt (f : Frame) : Bool :=
  decide (f.kind = .halt) && decide (f.payload.length = 2) && (decide (f.severity = 1) || decide (f.severity = 2))

/-- A DRAW-OPEN of head `k` (R40). -/
def Frame.isDrawOpenOf (k : Fin 4) (f : Frame) : Bool :=
  decide (f.kind = .drawOpen) && decide (u8 f.payload 0 = k.val)

/-! ## Codes in frames and answers (10.2: 'coded from 00H in the order in which the owning chapter's state table lists
its values') -/

def Mode.code : Mode → Nat
  | .start => 0 | .learn => 1 | .announce => 2 | .run => 3 | .stand => 4 | .safe => 5 | .fault => 6

/-- The fault codes' values (2.1). -/
def FaultCode.code : FaultCode → Nat
  | .none => 0 | .settings => 1 | .noMark => 2 | .misaligned => 3 | .conflict => 4 | .mismatch => 5 | .duplicate => 6
  | .line => 7

/-- The cause byte of a HALT TRIP sent when GUARD opens (2.1). -/
def guardCause : Nat := 16

/-- The start-cause kinds' codes (10.2). -/
def ResetKind.code : ResetKind → Nat
  | .power => 0 | .pin => 1 | .restart => 2

def HeldMark.code : HeldMark → Nat
  | .clear => 0 | .stop => 1 | .trip => 2

def Motion.code : Motion → Nat
  | .unknown => 0 | .turning => 1 | .stalled => 2

/-- 00H STEAM, 01H DRIVE (3.1). -/
def DrawClass.code : DrawClass → Nat
  | .steam => 0 | .drive => 1

/-- The class of a class field; none for any other value (R135). -/
def DrawClass.ofCode : Nat → Option DrawClass
  | 0 => some .steam
  | 1 => some .drive
  | _ => none

def Phase.code : Phase → Nat
  | .idle => 0 | .bound => 1 | .steamWait => 2 | .steamAnnounced => 3 | .flush => 4 | .seat => 5 | .driveWait => 6
  | .driveAnnounced => 7 | .torque => 8 | .dwell => 9 | .out => 10

def ChannelState.code : ChannelState → Nat
  | .off => 0 | .forward => 1 | .reverse => 2 | .gap => 3 | .tripped => 4

def SlotState.code : SlotState → Nat
  | .idle => 0 | .opened => 1 | .bound => 2 | .settled => 3

/-- As in the JAR-IN frame, 04H UNGAUGED (10.2). -/
def Condition.code : Condition → Nat
  | .ok => 0 | .noJar => 1 | .damaged => 2 | .lowFill => 3 | .ungauged => 4

def CapPresent.code : CapPresent → Nat
  | .unknown => 0 | .yes => 1 | .no => 2

def FlushEnd.code : FlushEnd → Nat
  | .none => 0 | .complete => 1 | .limit => 2 | .cut => 3 | .aborted => 4

def SeatResult.code : SeatResult → Nat
  | .unknown => 0 | .seated => 1 | .notSeated => 2

def TorqueEnd.code : TorqueEnd → Nat
  | .none => 0 | .done => 1 | .time => 2 | .angle => 3 | .trip => 4 | .aborted => 5

/-- As in the VERDICT frame (3.1). -/
def Verdict.code : Verdict → Nat
  | .pass => 0 | .reject => 1 | .skipped => 2 | .empty => 3

def Delivery.code : Delivery → Nat
  | .none => 0 | .waiting => 1 | .queued => 2 | .sent => 3

def DrawStatus.code : DrawStatus → Nat
  | .none => 0 | .pending => 1 | .opened => 2 | .openForced => 3

def OpenFrame.code : OpenFrame → Nat
  | .none => 0 | .inQueue => 1 | .sent => 2

/-- 00H STEAM, 01H PRESS, 02H DRIVE (10.2). -/
def Output.code : Output → Nat
  | .steam => 0 | .press => 1 | .drive => 2

def Output.ofCode : Nat → Option Output
  | 0 => some .steam
  | 1 => some .press
  | 2 => some .drive
  | _ => none

/-- A flag as a byte: 00H clear, 01H set. -/
def flagByte (b : Bool) : Byte := if b then 1 else 0

/-- A one-byte field; 0FFH when unset or absent (10.2). -/
def optByte : Option Nat → Byte
  | none => 255
  | some n => byte n

/-- A two-byte field; 0FFFFH when absent (10.2). -/
def optWord : Option Nat → List Byte
  | none => [255, 255]
  | some n => le16 n

/-- Flags as the bits of a number, bit 0 first. -/
def flagBits : List Bool → Nat
  | [] => 0
  | b :: rest => (if b then 1 else 0) + 2 * flagBits rest

/-! ## The profile's fields (9.1) -/

abbrev Profile := List Byte

def Profile.fixedGroup (p : Profile) : Nat := u8 p 0
def Profile.heads (p : Profile) : Nat := u8 p 1
def Profile.pockets (p : Profile) : Nat := u8 p 2
def Profile.steamCapacity (p : Profile) : Nat := u8 p 3
def Profile.driveCapacity (p : Profile) : Nat := u8 p 4
def Profile.defaultRecipe (p : Profile) : Nat := u8 p 5
def Profile.intakeClose (p : Profile) : Nat := u16 p 6
def Profile.discharge (p : Profile) : Nat := u16 p 8
def Profile.stallLimit (p : Profile) : Nat := u16 p 10
def Profile.deadTime (p : Profile) : Nat := u8 p 12
def Profile.torqueZero (p : Profile) (k : Nat) : Nat := u16 p (13 + 4 * k)
def Profile.torqueGain (p : Profile) (k : Nat) : Nat := u16 p (15 + 4 * k)

/-- The record length of a profile (R172). -/
def profileLength : Nat := 32

/-- The record length of a recipe (R172). -/
def recipeLength : Nat := 64

/-- The fixed group 0FFH: learn from MARK (2.4). -/
def learnFromMark : Nat := 255

/-- 'A record is good by its check byte when the sum of all its bytes, the check byte included, is 0 modulo 256'
(R173). -/
def goodSum (r : List Byte) : Bool := sumBytes r == 0

/-- `lo .. hi`, both included (0.6). -/
def within (lo hi x : Nat) : Bool := decide (lo ≤ x) && decide (x ≤ hi)

/-- The field checks of a profile (R174). -/
def Profile.fieldsOk (p : Profile) : Bool :=
  within 1 4 p.heads && within 8 48 p.pockets && decide (p.pockets % p.heads = 0)
  && decide (p.pockets / p.heads ≤ 12)
  && (decide (p.fixedGroup = learnFromMark) || decide (p.fixedGroup < p.pockets / p.heads))
  && within 1 15 p.steamCapacity && within 1 15 p.driveCapacity && decide (p.defaultRecipe ≤ 7)
  && decide (p.intakeClose < p.discharge) && decide (p.discharge < 256 * p.pockets)
  && within 50 2000 p.stallLimit && within 1 20 p.deadTime
  && headIndexes.all (fun k => decide (p.torqueZero k.val ≤ 4095) && within 1 4095 (p.torqueGain k.val))

/-! ## A recipe's fields (9.1) -/

abbrev Recipe := List Byte

def Recipe.aCap (r : Recipe) : Nat := u16 r 0
def Recipe.aFe (r : Recipe) : Nat := u16 r 2
def Recipe.aFl (r : Recipe) : Nat := u16 r 4
def Recipe.aFx (r : Recipe) : Nat := u16 r 6
def Recipe.aDl (r : Recipe) : Nat := u16 r 8
def Recipe.aRel (r : Recipe) : Nat := u16 r 10
def Recipe.flushBase (r : Recipe) : Nat := u16 r 12
def Recipe.hNom (r : Recipe) : Nat := u8 r 14
def Recipe.steamUnits (r : Recipe) : Nat := u8 r 15
def Recipe.seatWindow (r : Recipe) : Nat := u16 r 16
def Recipe.driveUnits (r : Recipe) : Nat := u8 r 18
def Recipe.threadFindTime (r : Recipe) : Nat := u8 r 19
def Recipe.threadFindDuty (r : Recipe) : Nat := u8 r 20
def Recipe.startDuty (r : Recipe) : Nat := u8 r 21
def Recipe.rampStep (r : Recipe) : Nat := u8 r 22
def Recipe.maxDuty (r : Recipe) : Nat := u8 r 23
def Recipe.target (r : Recipe) : Nat := u16 r 24
def Recipe.band (r : Recipe) : Nat := u16 r 26
def Recipe.settleSamples (r : Recipe) : Nat := u8 r 28
def Recipe.timeLimit (r : Recipe) : Nat := u16 r 29
def Recipe.tauMin (r : Recipe) : Nat := u16 r 31
def Recipe.tauMax (r : Recipe) : Nat := u16 r 33
def Recipe.vMin (r : Recipe) : Nat := u16 r 35
def Recipe.assumedFill (r : Recipe) : Nat := u16 r 37
def Recipe.tableT (r : Recipe) (i : Nat) : Nat := u16 r (39 + 4 * i)
def Recipe.tableV (r : Recipe) (i : Nat) : Nat := u16 r (41 + 4 * i)

/-- The order of a recipe's thresholds among themselves (R175, R178). -/
def Recipe.orderOk (r : Recipe) : Bool :=
  decide (r.aCap < r.aFe) && decide (r.aFe ≤ r.aFl) && decide (r.aFl < r.aFx) && decide (r.aFx < r.aDl)
  && decide (r.aDl < r.aRel)

/-- The vacuum table: temperatures within 0 .. 1200 and strictly increasing, vacuum within 0 .. 999 and non-decreasing
(R175). -/
def Recipe.tableOk (r : Recipe) : Bool :=
  (List.range 6).all (fun i => decide (r.tableT i ≤ 1200) && decide (r.tableV i ≤ 999))
  && (List.range 5).all (fun i => decide (r.tableT i < r.tableT (i + 1)) && decide (r.tableV i ≤ r.tableV (i + 1)))

/-- The field checks of a recipe but for its order against a profile (R175). -/
def Recipe.fieldsOk (r : Recipe) : Bool :=
  r.orderOk && decide (r.flushBase ≤ 2000) && within 20 250 r.hNom && within 1 3 r.steamUnits
  && within 10 500 r.seatWindow && within 1 3 r.driveUnits && decide (r.threadFindTime ≤ 250)
  && decide (r.threadFindDuty ≤ r.maxDuty) && decide (r.startDuty ≤ r.maxDuty) && within 1 255 r.rampStep
  && within 1 255 r.maxDuty && decide (r.target ≤ 2000) && decide (r.band ≤ 2000) && within 1 16 r.settleSamples
  && within 50 2000 r.timeLimit && decide (r.tauMin ≤ 2000) && within r.tauMin 16383 r.tauMax && decide (r.vMin ≤ 999)
  && decide (r.assumedFill ≤ 1200) && r.tableOk

/-- The order of a recipe against a profile's intake close and discharge (R175). -/
def Recipe.orderAgainst (p : Profile) (r : Recipe) : Bool :=
  decide (p.intakeClose < r.aCap) && decide (r.aRel < p.discharge)

/-! ## JAR-IN (R70) -/

/-- The condition that a JAR-IN's byte gives (R70). -/
def conditionOf : Nat → Condition
  | 0 => .ok
  | 1 => .noJar
  | 2 => .damaged
  | 3 => .lowFill
  | _ => .damaged

/-- The fill temperature taken: absent without presence bit 0, and at most 1200 (R70). -/
def fillOf (presence : Byte) (value : Nat) : Option Nat :=
  if presence.getLsbD 0 then some (min 1200 value) else none

/-- The headspace taken: absent without presence bit 1 or with the value 0, and clamped to 20 .. 250 (R70). -/
def headspaceOf (presence : Byte) (value : Nat) : Option Nat :=
  if presence.getLsbD 1 && decide (value ≠ 0) then some (clamp 20 250 value) else none

end Sys2Proof.Machine
end

