-- ==== Sys2Proof/Machine/Flags.lean ====
section
/-! DEFINITION. Reasons, informational flags and the closure arithmetic of Chapter 8: pure functions of a jar record
and a recipe. -/

namespace Sys2Proof.Machine
open Sys2Proof

/-- A reason set with one reason added; 'a reason added twice is held once' (R165). -/
def Reasons.add (s : Reasons) : Reason → Reasons
  | .noCap => { s with noCap := true }
  | .seat => { s with seat := true }
  | .driveTrip => { s with driveTrip := true }
  | .halted => { s with halted := true }
  | .position => { s with position := true }
  | .recipe => { s with recipe := true }
  | .headOut => { s with headOut := true }
  | .vacuumLow => { s with vacuumLow := true }
  | .torqueLow => { s with torqueLow := true }
  | .torqueHigh => { s with torqueHigh := true }
  | .lowFill => { s with lowFill := true }

/-- A reason added when a condition holds. -/
def Reasons.addIf (s : Reasons) (c : Bool) (r : Reason) : Reasons := if c then s.add r else s

/-- The reason field of a VERDICT frame, one bit per reason (3.1). -/
def Reasons.bits (s : Reasons) : Nat :=
  flagBits [s.noCap, s.seat, s.driveTrip, s.halted, s.position, s.recipe, s.headOut, s.vacuumLow, s.torqueLow,
    s.torqueHigh, s.lowFill]

/-- The informational flags of a record, one bit per flag (3.1, R166). -/
def Record.flags (r : Record) : Nat :=
  flagBits [r.shared, decide (r.flushEnd = .limit), decide (r.flushEnd = .cut), r.forcedSteam, r.forcedDrive,
    decide (r.condition = some .ungauged), r.lateData, r.replaced]

/-- The payload of the VERDICT frame that a record gives (3.1, R77, R169). -/
def verdictPayload (pocket : Nat) (r : Record) : List Byte :=
  [byte pocket, optByte (r.verdict.map Verdict.code)] ++ le16 r.reasons.bits ++ [byte r.flags] ++ le16 r.v
    ++ le16 r.tauFinal

/-! ## Flush -/

/-- F_req = ceil(16·base·h / h_nom), h the record's headspace or h_nom (R158). -/
def requiredFlush (r : Recipe) (headspace : Option Nat) : Nat :=
  ceilDiv (16 * r.flushBase * headspace.getD r.hNom) r.hNom

/-- The displacement D (R159). -/
def displacement (r : Record) : Nat :=
  if r.flushEnd = .none then 0
  else if r.fReq = 0 then 1000
  else min 1000 (1000 * r.fEff / r.fReq)

/-! ## Vacuum -/

/-- The fill temperature used: the record's, or the recipe's assumed one (R160). -/
def fillUsed (rc : Recipe) (r : Record) : Nat := r.fill.getD rc.assumedFill

/-- The vacuum of the segment that begins at point `i` (R161). -/
def segmentVacuum (rc : Recipe) (tf i : Nat) : Nat :=
  rc.tableV i + (rc.tableV (i + 1) - rc.tableV i) * (tf - rc.tableT i) / (rc.tableT (i + 1) - rc.tableT i)

/-- The attainable vacuum V_T at a fill temperature (R161). -/
def attainableVacuum (rc : Recipe) (tf : Nat) : Nat :=
  if tf ≤ rc.tableT 0 then rc.tableV 0
  else if rc.tableT 5 ≤ tf then rc.tableV 5
  else if tf < rc.tableT 1 then segmentVacuum rc tf 0
  else if tf < rc.tableT 2 then segmentVacuum rc tf 1
  else if tf < rc.tableT 3 then segmentVacuum rc tf 2
  else if tf < rc.tableT 4 then segmentVacuum rc tf 3
  else segmentVacuum rc tf 4

/-- The vacuum estimate V = floor(V_T·D / 1000) (R162). -/
def vacuumEstimate (rc : Recipe) (r : Record) : Nat :=
  attainableVacuum rc (fillUsed rc r) * displacement r / 1000

/-! ## Verdict -/

/-- The reason set after the three checks of the release (R163, R164). -/
def checkedReasons (rc : Recipe) (r : Record) : Reasons :=
  ((r.reasons.addIf (decide (vacuumEstimate rc r < rc.vMin)) .vacuumLow).addIf
    (decide (r.tauFinal < rc.tauMin)) .torqueLow).addIf (decide (rc.tauMax < r.tauPeak)) .torqueHigh

/-- 'The verdict is PASS if the reason set is empty and REJECT if it holds any reason' (R167). -/
def verdictOf (s : Reasons) : Verdict := if s = {} then .pass else .reject

/-- The record after the verdict unit's work at a release (R157). -/
def judged (rc : Recipe) (r : Record) : Record :=
  { r with
    v := vacuumEstimate rc r
    reasons := checkedReasons rc r
    verdict := some (verdictOf (checkedReasons rc r)) }

/-! ## Torque -/

/-- τ = floor(max(0, counts − zero)·gain / 1024) (R113). -/
def torqueOf (offset gain counts : Nat) : Nat := (counts - offset) * gain / 1024

/-- The settle threshold: the target less the band, or 0 (R117). -/
def Recipe.settleThreshold (r : Recipe) : Nat := r.target - r.band

end Sys2Proof.Machine
end

