-- ==== Sys2Proof/Machine/Ops.lean ====
section
/-! DEFINITION. The shared operations nearest to State: the store, the order of simultaneous acts, the settings in
force, time, travel, the changes of one head's blocks, the transmit queue, and the share figures. -/

namespace Sys2Proof.Machine
open Sys2Proof

/-! ## Sorting and orders -/

/-- `x` put into a list before the first element that `before x` accepts. -/
def insertBy {α : Type} (before : α → α → Bool) (x : α) : List α → List α
  | [] => [x]
  | y :: ys => if before x y then x :: y :: ys else y :: insertBy before x ys

/-- A list in the order that `before` gives. -/
def sortBy {α : Type} (before : α → α → Bool) : List α → List α
  | [] => []
  | x :: xs => insertBy before x (sortBy before xs)

/-- `x` put at place `n` of a list. -/
def insertAt {α : Type} (x : α) : Nat → List α → List α
  | 0, ys => x :: ys
  | _ + 1, [] => [x]
  | n + 1, y :: ys => y :: insertAt x n ys

/-- The arrangement of a list that a code names; every arrangement has a code. -/
def arrange {α : Type} (code : Nat) : List α → List α
  | [] => []
  | [x] => [x]
  | x :: xs => insertAt x (code % (xs.length + 1)) (arrange (code / (xs.length + 1)) xs)

/-- The order in which several agents act at once: a free value where there are several (log entry 4). -/
def freely {α : Type} (s : State) (l : List α) : List α := arrange (Config.order s.free) l

/-- The state after a consultation of a free value. -/
def consulted (s : State) : State := { s with free := s.free + 1 }

/-! ## The settings store (R172) -/

/-- What an address reads: the listed byte, or 00H (log entry 1). -/
def Store.read : List Host.Cell → Nat → Byte
  | [], _ => 0
  | (a, b) :: rest, x => if a = x then b else Store.read rest x

/-- The store with one byte written; the list stays sorted, and a byte of 00H is not listed. -/
def Store.write : List Host.Cell → Nat → Byte → List Host.Cell
  | [], x, v => if v = 0 then [] else [(x, v)]
  | (a, b) :: rest, x, v =>
    if x < a then (if v = 0 then (a, b) :: rest else (x, v) :: (a, b) :: rest)
    else if x = a then (if v = 0 then rest else (x, v) :: rest)
    else (a, b) :: Store.write rest x v

/-- The store with bytes written from an address upward. -/
def Store.writeBytes (m : List Host.Cell) (a : Nat) : List Byte → List Host.Cell
  | [] => m
  | b :: bs => Store.writeBytes (Store.write m a b) (a + 1) bs

/-- The bytes of a span of the store. -/
def Store.span (m : List Host.Cell) (a : Nat) : Nat → List Byte
  | 0 => []
  | n + 1 => Store.read m a :: Store.span m (a + 1) n

/-- The canonical form: addresses strictly rising, no byte of 00H listed. -/
def Store.wf : List Host.Cell → Bool
  | [] => true
  | (a, b) :: rest =>
    decide (b ≠ 0) && (match rest with | [] => true | (a', _) :: _ => decide (a < a')) && Store.wf rest

/-- The first address of a record: the profile 000H, recipe r 040H + 40H·r; records are numbered as WRITE-RECORD does,
00H the profile and 01H .. 08H recipes 0 .. 7 (R172, 9.4). -/
def recordAddress (number : Nat) : Nat := if number = 0 then 0 else 64 * number

/-- The length of a record by its number (R172). -/
def recordBytes (number : Nat) : Nat := if number = 0 then profileLength else recipeLength

/-- The stored record of a number (R172). -/
def storedRecord (m : List Host.Cell) (number : Nat) : List Byte :=
  Store.span m (recordAddress number) (recordBytes number)

/-! ## The settings in force -/

/-- A profile field, or 0 while the active profile is empty or bad ('H is taken as 0', R176). -/
def State.profileField (s : State) (f : Profile → Nat) : Nat := if s.settings.good then f s.settings.profile else 0

/-- H (R176). -/
def State.headCount (s : State) : Nat := s.profileField Profile.heads

/-- P (R1). -/
def State.pocketCount (s : State) : Nat := s.profileField Profile.pockets

/-- The capacity of a class, Sc or Dc (R133). -/
def State.capacity (s : State) : DrawClass → Nat
  | .steam => s.profileField Profile.steamCapacity
  | .drive => s.profileField Profile.driveCapacity

/-- The profile's intake close (R13). -/
def State.intakeClose (s : State) : Nat := s.profileField Profile.intakeClose

/-- The profile's discharge (R13). -/
def State.discharge (s : State) : Nat := s.profileField Profile.discharge

/-- Head `k` is one of the station's H heads. -/
def State.hasHead (s : State) (k : Fin 4) : Bool := decide (k.val < s.headCount)

/-- The station's heads in ascending order. -/
def State.heads (s : State) : List (Fin 4) := headIndexes.filter s.hasHead

/-- The active copy of a recipe (R177). -/
def State.recipe (s : State) (n : Nat) : Recipe := s.settings.recipes.getD n []

/-- Whether a recipe is marked usable (R176). -/
def State.usable (s : State) (n : Nat) : Bool := s.settings.usable.getD n false

/-- The active copy of a head's bound recipe (R82). -/
def State.boundRecipe (s : State) (k : Fin 4) : Recipe := s.recipe ((s.engines.get k).recipe.getD 0)

/-! ## Time (log entries 8, 9) -/

/-- The saturation value of e (R2). -/
def eSaturated : Nat := 262143

/-- The tracker after `n` time base steps (R2). -/
def Tracker.elapse (n : Nat) (t : Tracker) : Tracker := { t with e := min eSaturated (t.e + n) }

/-- The line after `n` time base steps of 10 µs, each of five bit-times of 2 µs (3.1): the bits sent count while the
station sends, another node's byte goes on where one is on the line, and else the line is idle, 'for as long as no start
bit follows' (R38, R46). -/
def Transmit.elapse (n : Nat) (t : Transmit) : Transmit :=
  if t.onLine = .none then
    match t.byte with
    | some m => { t with byte := some (m + 5 * n) }
    | none => { t with idle := t.idle + 5 * n }
  else { t with bits := t.bits + 5 * n }

/-- The state after `n` time base steps in which nothing else happens. While a POWER or PIN reset lasts, no time
counts (R16: e 'begins to count from the reset'). -/
def elapse (n : Nat) (s : State) : State :=
  if s.inReset.isSome then s else
  { s with
    tracker := s.tracker.elapse n
    transmit := s.transmit.elapse n
    engines := s.engines.map (fun x => { x with ms := x.ms + n })
    channels := s.channels.map (fun x => { x with ms := x.ms + n })
    settings := { s.settings with load := s.settings.load.map (· - n) }
    service := { s.service with
      write := s.service.write.map (fun w => { w with left := w.left - n })
      forced := s.service.forced.map (fun r => { r with left := r.left - n }) }
    pwm := s.pwm + n }

/-- Time until `goal` bit-times have been counted, of which `have_` have: whole time base steps. -/
def elapseBits (goal have_ : Nat) (s : State) : State := elapse (ceilDiv (goal - have_) 5) s

/-- The time base steps in 1 ms. -/
def msSteps : Nat := 100

/-! ## Phase and travel -/

/-- φ (R5). -/
def Tracker.phi (t : Tracker) : Nat := if t.measured then min 255 (256 * t.e / t.l) else 0

/-- The stall limit in time base steps (R10). -/
def State.stallLimit (s : State) : Nat :=
  if s.tracker.measured then 4 * s.tracker.l else 100 * s.profileField Profile.stallLimit

/-- The count that a ZERO pulse expects (R6). -/
def State.expectedCount (s : State) : Nat := if s.tracker.phi < 128 then 0 else s.pocketCount - 1

/-- (a − b) mod P for a below P. -/
def minusMod (p a b : Nat) : Nat := (a + (p - b % p)) % p

/-- The pocket of head `k`, p0 + k (R12). -/
def State.pocketOf (s : State) (k : Fin 4) : Nat := s.unit.p0.getD 0 + k.val

/-- A head's travel is defined from learning completion until the next reset (R12). -/
def State.travelDefined (s : State) (k : Fin 4) : Bool := s.unit.g.isSome && s.hasHead k

/-- T = 256·((C − p) mod P) + φ (R12). -/
def State.travel (s : State) (k : Fin 4) : Nat :=
  256 * minusMod s.pocketCount s.tracker.c (s.pocketOf k) + s.tracker.phi

/-- The distance of head `k` to a threshold (R141). -/
def State.distance (s : State) (k : Fin 4) (threshold : Nat) : Nat :=
  if (s.tracks.get k).heldBack then threshold + 256 * s.pocketCount - s.travel k else threshold - s.travel k

/-- The travel lies in the intake window: at or above the discharge, or below the intake close (R67, R79). -/
def State.inWindow (s : State) (k : Fin 4) : Bool :=
  decide (s.discharge ≤ s.travel k) || decide (s.travel k < s.intakeClose)

/-! ## One head's blocks -/

def modEngine (k : Fin 4) (f : Engine → Engine) (s : State) : State := { s with engines := s.engines.modify k f }

def modSlot (k : Fin 4) (f : Slot → Slot) (s : State) : State := { s with slots := s.slots.modify k f }

def modChannel (k : Fin 4) (f : Channel → Channel) (s : State) : State := { s with channels := s.channels.modify k f }

def modDraw (k : Fin 4) (f : OwnDraw → OwnDraw) (s : State) : State := { s with draws := s.draws.modify k f }

def modTrack (k : Fin 4) (f : Track → Track) (s : State) : State := { s with tracks := s.tracks.modify k f }

/-- A write of a block into the record of head `k`'s slot: 'A write to a slot that is not BOUND is not made' (R66). -/
def Slot.write (f : Record → Record) (x : Slot) : Slot := if x.state = .bound then { x with record := f x.record } else x

/-- `Slot.write` on head `k`. -/
def writeRecord (k : Fin 4) (f : Record → Record) (s : State) : State := modSlot k (Slot.write f) s

/-- A reason added to the record of head `k`'s bound jar. -/
def addReason (k : Fin 4) (r : Reason) (s : State) : State :=
  writeRecord k (fun x => { x with reasons := x.reasons.add r }) s

/-! ## Thresholds (R13) -/

/-- The thresholds in the order of 5.2. -/
def allThresholds : List Threshold := [.intakeClose, .cap, .fe, .fl, .fx, .dl, .rel, .discharge]

/-- Whether a threshold is the profile's, on every list. -/
def Threshold.isProfile : Threshold → Bool
  | .intakeClose => true
  | .discharge => true
  | .cap | .fe | .fl | .fx | .dl | .rel => false

/-- The mark of a threshold. -/
def Marks.get (m : Marks) : Threshold → Bool
  | .intakeClose => m.intakeClose | .cap => m.cap | .fe => m.fe | .fl => m.fl | .fx => m.fx | .dl => m.dl
  | .rel => m.rel | .discharge => m.discharge

/-- The marks with a threshold's set. -/
def Marks.set (m : Marks) : Threshold → Marks
  | .intakeClose => { m with intakeClose := true }
  | .cap => { m with cap := true }
  | .fe => { m with fe := true }
  | .fl => { m with fl := true }
  | .fx => { m with fx := true }
  | .dl => { m with dl := true }
  | .rel => { m with rel := true }
  | .discharge => { m with discharge := true }

/-- The marks without those of the recipe thresholds (R101, R107). -/
def Marks.withoutRecipe (m : Marks) : Marks :=
  { m with cap := false, fe := false, fl := false, fx := false, dl := false, rel := false }

/-- The marks at the beginning of a new pass: intake close and discharge cleared (R13). -/
def Marks.newPass (m : Marks) : Marks := { m with intakeClose := false, discharge := false }

/-- The value of a threshold for head `k`. -/
def State.thresholdValue (s : State) (k : Fin 4) : Threshold → Nat
  | .intakeClose => s.intakeClose
  | .discharge => s.discharge
  | .cap => (s.boundRecipe k).aCap
  | .fe => (s.boundRecipe k).aFe
  | .fl => (s.boundRecipe k).aFl
  | .fx => (s.boundRecipe k).aFx
  | .dl => (s.boundRecipe k).aDl
  | .rel => (s.boundRecipe k).aRel

/-- Whether a threshold is on head `k`'s list: the profile's always, the recipe's while a jar is bound (R13). -/
def State.onList (s : State) (k : Fin 4) (t : Threshold) : Bool := t.isProfile || (s.engines.get k).recipe.isSome

/-- Head `k` has reached a threshold in this pass (R84). -/
def State.reached (s : State) (k : Fin 4) (t : Threshold) : Bool := (s.tracks.get k).marks.get t

/-- An unmarked threshold on the list, below 256·P ('A threshold at or above 256·P is never reached', R13). -/
def State.unreached (s : State) (k : Fin 4) (t : Threshold) : Bool :=
  s.onList k t && !s.reached k t && decide (s.thresholdValue k t < 256 * s.pocketCount)

/-- The unmarked thresholds at or below a limit, or all of them, in ascending order of value; equal values keep the
order of 5.2 (R13, R84). -/
def State.due (s : State) (k : Fin 4) (limit : Option Nat) : List Threshold :=
  sortBy (fun a b => decide (s.thresholdValue k a ≤ s.thresholdValue k b))
    (allThresholds.filter (fun t =>
      s.unreached k t && (match limit with | none => true | some x => decide (s.thresholdValue k t ≤ x))))

/-- A threshold of head `k` marked as reached. -/
def markReached (k : Fin 4) (t : Threshold) (s : State) : State :=
  modTrack k (fun x => { x with marks := x.marks.set t }) s

/-! ## The transmit queue (3.2) -/

/-- Whether the station has a group, so that it sends more than service answers (R20). -/
def State.placed (s : State) : Bool := s.unit.g.isSome

/-- The normal frames that count among the 16: those in the normal part, and one in transmission that an entry to
FAULT has left behind (R40). -/
def Transmit.normalCount (t : Transmit) : Nat :=
  t.normal.length + (match t.onLine with | .orphan _ => 1 | .none | .normal | .halt _ => 0)

/-- The bound of the normal part (R40). -/
def normalBound : Nat := 16

/-- The answer of the normal part to an offer: fewer than 16 frames, no second DRAW-OPEN of one head, in FAULT only a
SERVICE-ANSWER, and nothing when silenced (R40). -/
def State.accepts (s : State) (kind : Kind) (payload : List Byte) : Bool :=
  !s.transmit.silenced
  && (decide (s.unit.mode ≠ .fault) || decide (kind = .answer))
  && decide (s.transmit.normalCount < normalBound)
  && !(decide (kind = .drawOpen)
      && s.transmit.normal.any (fun f => decide (f.frame.kind = .drawOpen) && decide (u8 f.frame.payload 0 = u8 payload 0)))

/-- An accepted frame at the tail of the normal part, with the node number in force (R39, R40). -/
def enqueue (kind : Kind) (payload : List Byte) (s : State) : State :=
  { s with transmit := { s.transmit with
      normal := s.transmit.normal ++ [{ frame := ⟨s.unit.node, kind, payload⟩, ticket := s.transmit.ticket }]
      ticket := s.transmit.ticket + 1 } }

/-- The slot rule: an offered HALT enters an empty slot, replaces one of equal or lower severity, and is discarded
otherwise (R42). -/
def putHalt (f : Frame) (s : State) : State :=
  { s with transmit := { s.transmit with
      slot := match s.transmit.slot with
        | none => some f
        | some q => if q.severity ≤ f.severity then some f else some q } }

/-- STOP and TRIP as severity bytes (3.1). -/
def haltStop : Nat := 1
def haltTrip : Nat := 2

/-- A HALT offered by the mode unit (R42); a silenced station discards it (R35). -/
def offerHalt (severity cause : Nat) (s : State) : State :=
  if s.transmit.silenced then s else putHalt ⟨s.unit.node, .halt, [byte severity, byte cause]⟩ s

/-- A received HALT discards a queued one of equal or lower severity (R43). -/
def compareHalt (f : Frame) (s : State) : State :=
  { s with transmit := { s.transmit with
      slot := match s.transmit.slot with
        | none => none
        | some q => if q.severity ≤ f.severity then none else some q } }

/-- The DRAW-OPEN of head `k` is in the normal part and not in transmission, so that a withdrawal succeeds (R44). -/
def State.withdrawable (s : State) (k : Fin 4) : Bool :=
  match s.transmit.onLine, s.transmit.normal with
  | .normal, f :: rest => !f.frame.isDrawOpenOf k && rest.any (fun g => g.frame.isDrawOpenOf k)
  | _, l => l.any (fun g => g.frame.isDrawOpenOf k)

/-- The normal part without the DRAW-OPEN of head `k` (R44). -/
def removeDrawOpen (k : Fin 4) (s : State) : State :=
  { s with transmit := { s.transmit with normal := s.transmit.normal.filter (fun g => !g.frame.isDrawOpenOf k) } }

/-! ## Share figures (R142) -/

/-- The modes in which the draw unit keeps its view (R134). -/
def Mode.keepsView : Mode → Bool
  | .announce | .run | .stand | .safe => true
  | .start | .learn | .fault => false

/-- The running modes. -/
def Mode.running : Mode → Bool
  | .run | .stand | .safe => true
  | .start | .learn | .announce | .fault => false

/-- The draw is OPEN or OPEN-FORCED. -/
def OwnDraw.isOpen (d : OwnDraw) : Bool :=
  match d.status with
  | .opened | .openForced => true
  | .none | .pending => false

/-- The draw's units, when it has a class and the class is `c`. -/
def OwnDraw.unitsOf (c : DrawClass) (d : OwnDraw) : Nat :=
  match d.terms with
  | some a => if a.cls = c then a.units else 0
  | none => 0

/-- The units of `c` that an own draw has in use. -/
def OwnDraw.openUnits (c : DrawClass) (d : OwnDraw) : Nat := if d.isOpen then d.unitsOf c else 0

/-- The units of `c` that an own draw holds PENDING. -/
def OwnDraw.pendingUnits (c : DrawClass) (d : OwnDraw) : Nat := if d.status = .pending then d.unitsOf c else 0

/-- A sum over the four heads. -/
def sumHeads (f : Fin 4 → Nat) : Nat := f 0 + f 1 + f 2 + f 3

/-- The units of a class in the view table. -/
def viewUnits (c : DrawClass) (l : List ViewEntry) : Nat :=
  (l.map (fun e => if e.cls = c then e.units else 0)).sum

/-- The share figure U of a class (R142). -/
def State.shareOf (s : State) (c : DrawClass) : Nat :=
  viewUnits c s.view.entries + sumHeads (fun k => (s.draws.get k).openUnits c)

/-- Pend of a class (R142). -/
def State.pendOf (s : State) (c : DrawClass) : Nat := sumHeads (fun k => (s.draws.get k).pendingUnits c)

/-- The margin: 1 in doubt, else 0 (R138). -/
def View.margin (v : View) : Nat := if v.doubt then 1 else 0

/-- Room of a class: the capacity less the margin; 0 while the active profile is empty or bad (R142). -/
def State.roomOf (s : State) (c : DrawClass) : Nat := s.capacity c - s.view.margin

/-- The steam gain w: 16 while U_steam is at most Sc, else floor(16·Sc / U_steam), and 1 where that is 0 (R92, R143). -/
def State.steamGain (s : State) : Nat :=
  if s.shareOf .steam ≤ s.capacity .steam then 16 else max 1 (16 * s.capacity .steam / s.shareOf .steam)

/-- The duty ceiling of a step (R119). -/
def State.dutyCeiling (s : State) (maxDuty : Nat) : Nat :=
  if s.shareOf .drive ≤ s.capacity .drive then maxDuty else maxDuty * s.capacity .drive / s.shareOf .drive

/-! ## Commands in force -/

/-- While a POWER or PIN reset lasts the station takes nothing but the resets themselves (R36). -/
def unlessReset (f : State → State) (s : State) : State := if s.inReset.isSome then s else f s

/-- A command that takes place only where its row's condition holds; elsewhere the event it names does not occur and
nothing changes. -/
def whenever (c : State → Bool) (f : State → State) (s : State) : State := if c s then f s else s

end Sys2Proof.Machine
end

