-- ==== Sys2Proof/Machine/Draw.lean ====
section
/-! DEFINITION. Offers and their retries (3.2, 4.6), and the draw unit: doubt, the arbiter, the withdrawal check, asks and
closes (Chapter 7). The opening of a draw moves its head and stands in Closure.lean. -/

namespace Sys2Proof.Machine
open Sys2Proof

/-! ## One value per class -/

def PerClass.get {α : Type} (p : PerClass α) : DrawClass → α
  | .steam => p.steam
  | .drive => p.drive

def PerClass.put {α : Type} (p : PerClass α) (c : DrawClass) (x : α) : PerClass α :=
  match c with
  | .steam => { p with steam := x }
  | .drive => { p with drive := x }

/-! ## POSITION and VERDICT offers -/

/-- The payload of the station's POSITION frame (R25). -/
def State.positionPayload (s : State) (mark : Nat) : List Byte :=
  [byte s.headCount, byte s.pocketCount, byte (s.capacity .steam), byte (s.capacity .drive), byte mark]

/-- The conflict mark that means clear (R25). -/
def markClear : Nat := 255

/-- The POSITION frame of ANNOUNCE offered: QUEUED when accepted, WAITING when refused (R25). -/
def offerPosition (s : State) : State :=
  if s.accepts .position (s.positionPayload markClear) then
    let s' := enqueue .position (s.positionPayload markClear) s
    { s' with announce := { s'.announce with stage := .queued } }
  else { s with announce := { s.announce with stage := .waiting } }

/-- A re-announcement offered: queued when accepted, pending when refused (R29). -/
def offerReannouncement (s : State) : State :=
  if s.accepts .position (s.positionPayload markClear) then
    let s' := enqueue .position (s.positionPayload markClear) s
    { s' with announce := { s'.announce with rePending := false, reQueued := true } }
  else { s with announce := { s.announce with rePending := true } }

/-- The payload of the VERDICT frame of head `k`'s slot. The record of a slot does not change once it has its verdict
(R76, R71), so this is the frame as composed (R78). -/
def State.verdictFrame (s : State) (k : Fin 4) : List Byte :=
  verdictPayload ((s.slots.get k).pocket.getD 0) (s.slots.get k).record

/-- The record of an accepted verdict (R78). -/
def Record.verdictQueued (ticket : Nat) (r : Record) : Record :=
  { r with delivery := .queued, ticket := some ticket }

/-- The record of a refused verdict (R78). -/
def Record.verdictWaiting (r : Record) : Record := { r with delivery := .waiting, verdictPending := true }

/-- A slot with its record changed, whatever its state. -/
def Slot.onRecord (f : Record → Record) (x : Slot) : Slot := { x with record := f x.record }

/-- The VERDICT frame of head `k` offered (R78). -/
def offerVerdict (k : Fin 4) (s : State) : State :=
  if s.accepts .verdict (s.verdictFrame k) then
    modSlot k (Slot.onRecord (Record.verdictQueued s.transmit.ticket)) (enqueue .verdict (s.verdictFrame k) s)
  else modSlot k (Slot.onRecord Record.verdictWaiting) s

/-! ## Closes (R152, R153) -/

/-- The payload of a DRAW-CLOSE (3.1). -/
def closePayload (k : Fin 4) (c : DrawClass) : List Byte := [byte k.val, byte c.code]

/-- The record with the close pending mark of a class set or cleared (R153). -/
def OwnDraw.closePending (c : DrawClass) (b : Bool) (d : OwnDraw) : OwnDraw := { d with closing := d.closing.put c b }

/-- A DRAW-CLOSE offered at the close of its draw: refused, it waits, or is dropped when its countdown is 0 (R153). A mark
that an older close of the same head and class has left stays as it is, and that close is offered again (log entry 35). -/
def offerClose (k : Fin 4) (c : DrawClass) (s : State) : State :=
  if s.accepts .drawClose (closePayload k c) then enqueue .drawClose (closePayload k c) s
  else if (s.draws.get k).countdown.get c = 0 then s
  else modDraw k (OwnDraw.closePending c true) s

/-- A pending DRAW-CLOSE offered again at a queue removal (R153). -/
def retryClose (k : Fin 4) (c : DrawClass) (s : State) : State :=
  if s.accepts .drawClose (closePayload k c) then
    modDraw k (OwnDraw.closePending c false) (enqueue .drawClose (closePayload k c) s)
  else s

/-! ## Asks and grants -/

/-- The request of head `k` for a class, from the recipe of its jar (R88, R97). -/
def State.askOf (s : State) (k : Fin 4) : DrawClass → Ask
  | .steam => ⟨.steam, (s.boundRecipe k).steamUnits, (s.boundRecipe k).aFl, (s.boundRecipe k).aFx⟩
  | .drive => ⟨.drive, (s.boundRecipe k).driveUnits, (s.boundRecipe k).aDl, (s.boundRecipe k).aRel⟩

/-- The life of a DRAW-OPEN: ceil(d / 256) + 1 pitches, clamped to 1 .. 48, d the distance to the life threshold
(R146). -/
def State.lifeOf (s : State) (k : Fin 4) (a : Ask) : Nat := clamp 1 48 (ceilDiv (s.distance k a.life) 256 + 1)

/-- The payload of a DRAW-OPEN (3.1). -/
def openPayload (k : Fin 4) (a : Ask) (life : Nat) : List Byte := [byte k.val, byte a.cls.code, byte a.units, byte life]

/-- The record of a granted draw (R146). -/
def OwnDraw.granted (a : Ask) (life : Nat) (d : OwnDraw) : OwnDraw :=
  { d with ask := none, status := .pending, terms := some a, openFrame := .inQueue
           countdown := d.countdown.put a.cls life }

/-- The head engine on a grant (R89, R98). -/
def Engine.granted (x : Engine) : Engine :=
  match x.phase with
  | .steamWait => { x with phase := .steamAnnounced, asking := false }
  | .driveWait => { x with phase := .driveAnnounced, asking := false }
  | .idle | .bound | .steamAnnounced | .flush | .seat | .driveAnnounced | .torque | .dwell | .out => x

/-- The arbiter's test (R145). -/
def State.fits (s : State) (c : DrawClass) (units : Nat) : Bool :=
  decide (s.shareOf c + s.pendOf c + units ≤ s.roomOf c)

/-- The arbiter's decision on one asking head (R145, R146). -/
def grantOne (s : State) (k : Fin 4) : State :=
  match (s.draws.get k).ask with
  | none => s
  | some a =>
    if s.fits a.cls a.units then
      if s.accepts .drawOpen (openPayload k a (s.lifeOf k a)) then
        modEngine k Engine.granted (modDraw k (OwnDraw.granted a (s.lifeOf k a))
          (enqueue .drawOpen (openPayload k a (s.lifeOf k a)) s))
      else { s with refused := s.refused.put a.cls true }
    else s

/-- Head `k` has an ask of the class. -/
def State.asks (s : State) (c : DrawClass) (k : Fin 4) : Bool :=
  match (s.draws.get k).ask with
  | some a => decide (a.cls = c)
  | none => false

/-- The slack of head `k`: its distance to the latest start of its ask, or of its PENDING draw (R141, R147). -/
def State.slack (s : State) (k : Fin 4) : Nat :=
  match (s.draws.get k).ask, (s.draws.get k).terms with
  | some a, _ => s.distance k a.latest
  | none, some a => s.distance k a.latest
  | none, none => 0

/-- The asking heads of a class in ascending order of slack, equal slack in ascending order of index (R145). -/
def State.arbiterOrder (s : State) (c : DrawClass) : List (Fin 4) :=
  sortBy (fun a b => decide (s.slack a ≤ s.slack b)) (s.heads.filter (s.asks c))

/-- A run of the arbiter for a class (R144, R145). -/
def arbiter (c : DrawClass) (s : State) : State :=
  if s.unit.mode.keepsView then (s.arbiterOrder c).foldl grantOne s else s

/-! ## Queue removals (R45) -/

/-- Who can wait to offer again after a refusal. -/
inductive Originator where
  | position
  | reannounce
  | verdict (k : Fin 4)
  | close (k : Fin 4) (c : DrawClass)
  | grants
deriving DecidableEq, Repr

/-- Every originator there can be. -/
def allOriginators : List Originator :=
  [.position, .reannounce] ++ headIndexes.map .verdict
    ++ (headIndexes.map (fun k => [Originator.close k .steam, Originator.close k .drive])).flatten ++ [.grants]

/-- Whether an originator waits (R25, R29, R78, R146, R153). -/
def State.waits (s : State) : Originator → Bool
  | .position => decide (s.unit.mode = .announce) && decide (s.announce.stage = .waiting)
  | .reannounce => s.unit.mode.running && s.announce.rePending
  | .verdict k => decide ((s.slots.get k).record.delivery = .waiting)
  | .close k c => (s.draws.get k).closing.get c
  | .grants => s.refused.steam || s.refused.drive

/-- What one event calls for in the classes that act on it, class after class; the spec gives no order of the classes, so it
is a free value (log entry 4). -/
def forClasses (acts : DrawClass → Bool) (f : DrawClass → State → State) (s : State) : State :=
  (freely s ([.steam, .drive].filter acts)).foldl (fun s c => f c s) (consulted s)

/-- Some head asks in the class, so that a run of the arbiter can grant. -/
def State.hasAsk (s : State) (c : DrawClass) : Bool := headIndexes.any (s.asks c)

/-- The arbiter's runs of one event in both classes (R138, R139, R144). -/
def bothArbiters (s : State) : State := forClasses s.hasAsk arbiter s

/-- The draw unit runs its arbiter for every class in which a grant was refused, in an order that R45 and R146 leave open
(log entry 4). -/
def retryGrants (s : State) : State :=
  forClasses s.refused.get arbiter { s with refused := ⟨false, false⟩ }

/-- A waiting originator offers again (R45). -/
def offerAgain (s : State) (o : Originator) : State :=
  if s.waits o then
    match o with
    | .position => offerPosition s
    | .reannounce => offerReannouncement s
    | .verdict k => offerVerdict k s
    | .close k c => retryClose k c s
    | .grants => retryGrants s
  else s

/-- A queue removal is reported to every waiting originator; 'the offers are taken in either order' (R45; log
entry 4). -/
def queueRemoval (s : State) : State :=
  (freely s (allOriginators.filter s.waits)).foldl offerAgain (consulted s)

/-- `n` queue removals. -/
def queueRemovals : Nat → State → State
  | 0, s => s
  | n + 1, s => queueRemovals n (queueRemoval s)

/-! ## Withdrawal (R147, R148) -/

/-- The ask that a withdrawal restores: none for STEAM while STALLED (R148). -/
def State.restoredAsk (s : State) (d : OwnDraw) : Option Ask :=
  match d.terms with
  | some a => if a.cls = .steam ∧ s.tracker.motion = .stalled then none else some a
  | none => none

/-- The record without a draw: status NONE, open frame NONE, and the ask given (R148, R152). -/
def OwnDraw.ended (ask : Option Ask) (d : OwnDraw) : OwnDraw :=
  { d with ask := ask, status := .none, terms := none, openFrame := .none }

/-- The head engine on a withdrawal (R89, R98, R148). -/
def Engine.withdrawn (asking : Bool) (x : Engine) : Engine :=
  match x.phase with
  | .steamAnnounced => { x with phase := .steamWait, asking := asking }
  | .driveAnnounced => { x with phase := .driveWait, asking := asking }
  | .idle | .bound | .steamWait | .flush | .seat | .driveWait | .torque | .dwell | .out => x

/-- Head `k`'s PENDING draw withdrawn, its ask restored and its head told (R148). -/
def withdrawDraw (k : Fin 4) (s : State) : State :=
  modEngine k (Engine.withdrawn (s.restoredAsk (s.draws.get k)).isSome)
    (modDraw k (OwnDraw.ended (s.restoredAsk (s.draws.get k))) (removeDrawOpen k s))

/-- The heads with a PENDING draw of a class, in descending order of slack, equal slack in descending order of index
(R147). -/
def State.withdrawalOrder (s : State) (c : DrawClass) : List (Fin 4) :=
  sortBy (fun a b => decide (s.slack b ≤ s.slack a))
    (headIndexes.reverse.filter (fun k => decide ((s.draws.get k).status = .pending)
      && decide ((s.draws.get k).terms.map Ask.cls = some c)))

/-- U + Pend exceeds Room (R147). -/
def State.overRoom (s : State) (c : DrawClass) : Bool := decide (s.roomOf c < s.shareOf c + s.pendOf c)

/-- The check's turn at one PENDING draw: withdrawn while U + Pend exceeds Room, passed over when its frame is in
transmission (R147). -/
def withdrawOne (c : DrawClass) (s : State) (k : Fin 4) : State :=
  if s.overRoom c && s.withdrawable k then withdrawDraw k s else s

/-- The withdrawals of a check. -/
def withdrawals (c : DrawClass) (s : State) : State := (s.withdrawalOrder c).foldl (withdrawOne c) s

/-- A withdrawal check for a class (R147), and the queue removals that it gives (R148); the arbiter's runs follow the
check (R144; log entry 14). -/
def withdrawalCheck (c : DrawClass) (s : State) : State :=
  queueRemovals (s.transmit.normal.length - (withdrawals c s).transmit.normal.length) (withdrawals c s)

/-- The withdrawal checks of one event in both classes; a check acts where U + Pend exceeds Room (R138, R147). -/
def bothChecks (s : State) : State := forClasses s.overRoom withdrawalCheck s

/-- The withdrawal check and then the arbiter's run that one event calls for (R144). -/
def checkAndRun (c : DrawClass) (s : State) : State := arbiter c (withdrawalCheck c s)

/-! ## Doubt (R138) -/

/-- Doubt begins: set with the clean counter 0; found clear, it lowers the rooms, and the withdrawal check and the
arbiter's run follow for both classes (R138, R147), in an order of the classes that is open (log entry 4). -/
def doubtBegins (s : State) : State :=
  if s.unit.mode.keepsView then
    let s' := { s with view := { s.view with doubt := true, clean := 0 } }
    if s.view.doubt then s'
    else bothArbiters (bothChecks s')
  else s

/-! ## Ends of asks and draws -/

/-- Head `k`'s ask taken into its record, while its status is NONE, and the arbiter run for the class (R141). -/
def takeAsk (k : Fin 4) (c : DrawClass) (s : State) : State :=
  if (s.draws.get k).status = .none then
    arbiter c (modDraw k (fun d => { d with ask := some (s.askOf k c) }) s)
  else s

/-- Head `k`'s OPEN or OPEN-FORCED draw closed at the end of its phase (R152): a DRAW-OPEN still waiting is cancelled and
no DRAW-CLOSE is sent; one sent or in transmission is followed by a DRAW-CLOSE; an unannounced draw sends nothing. Where
the DRAW-OPEN is cancelled the draw ends first, then come the offers of the queue removal, then the arbiter's run (log
entry 34). -/
def closeDraw (k : Fin 4) (s : State) : State :=
  match (s.draws.get k).terms with
  | none => s
  | some a =>
    if (s.draws.get k).isOpen then
      match (s.draws.get k).openFrame with
      | .none => arbiter a.cls (modDraw k (OwnDraw.ended none) s)
      | .sent => arbiter a.cls (offerClose k a.cls (modDraw k (OwnDraw.ended none) s))
      | .inQueue =>
        if s.withdrawable k then
          arbiter a.cls (queueRemoval (modDraw k (OwnDraw.ended none) (removeDrawOpen k s)))
        else arbiter a.cls (offerClose k a.cls (modDraw k (OwnDraw.ended none) s))
    else s

/-- Head `k`'s ask ended by its head at the entry to SAFE (R154). Where its DRAW-OPEN is cancelled the draw ends first,
then come the offers of the queue removal, then the arbiter's run (log entry 34). -/
def endAsk (k : Fin 4) (s : State) : State :=
  match (s.draws.get k).status, (s.draws.get k).terms with
  | .pending, some a =>
    if s.withdrawable k then
      arbiter a.cls (queueRemoval (modDraw k (OwnDraw.ended none) (removeDrawOpen k s)))
    else arbiter a.cls (offerClose k a.cls (modDraw k (OwnDraw.ended none) s))
  | _, _ => modDraw k (fun d => { d with ask := none }) s

/-! ## The draw unit at a PITCH pulse (R139) -/

/-- A close countdown one pitch further; at 0 a close still pending is dropped (R139, R153). -/
def OwnDraw.countDown (d : OwnDraw) : OwnDraw :=
  { d with
    countdown := ⟨d.countdown.steam - 1, d.countdown.drive - 1⟩
    closing := ⟨d.closing.steam && decide (1 < d.countdown.steam), d.closing.drive && decide (1 < d.countdown.drive)⟩ }

/-- The view's entries one pitch older, the expired ones removed (R139). -/
def aged (l : List ViewEntry) : List ViewEntry :=
  (l.map (fun e => { e with life := e.life - 1 })).filter (fun e => decide (0 < e.life))

/-- Some entry's life reaches 0 at this pulse (R139). -/
def expires (l : List ViewEntry) : Bool := l.any (fun e => decide (e.life ≤ 1))

/-- The view at a pulse: the clean counter rises and may end doubt, then the entries age, and an expiry begins doubt
with the counter at 0 (R139). -/
def View.pulse (p : Nat) (v : View) : View :=
  if expires v.entries then ⟨aged v.entries, true, 0⟩
  else if v.doubt then ⟨aged v.entries, decide (v.clean + 1 < p), min p (v.clean + 1)⟩
  else ⟨aged v.entries, false, v.clean⟩

/-- The draw unit takes a PITCH pulse (R139): clean counter, entries' lives, close countdowns, the withdrawal check where
doubt began or an entry left, and the arbiter's run (R144), each for both classes in an order that is open (log
entry 4). An expiry that finds doubt already set brings the check of both classes too (log entry 38). -/
def drawPulse (s : State) : State :=
  if s.unit.mode.keepsView then
    let s' := { s with view := s.view.pulse s.pocketCount, draws := s.draws.map OwnDraw.countDown }
    bothArbiters (if expires s.view.entries then bothChecks s' else s')
  else s

end Sys2Proof.Machine
end

