-- ==== Sys2Proof/Machine/Channel.lean ====
section
/-! DEFINITION. The drive channel by itself: its bridge, its PWM period, its torque step as a function of one channel,
and its trips (Chapter 6). What a phase's end does to the head stands in Closure.lean. -/

namespace Sys2Proof.Machine
open Sys2Proof

/-! ## The bridge (6.1) -/

/-- The four switches of a channel, true is on (R109). -/
structure Switches where
  ah : Bool
  al : Bool
  bh : Bool
  bl : Bool
deriving DecidableEq, Repr

/-- All four outputs off. -/
def Switches.off : Switches := ⟨false, false, false, false⟩

/-- A PWM period of 50 µs, in sixteenths of a nanosecond, so that every interval is a whole number (R110). -/
def pwmPeriod : Nat := 800000

/-- The high interval of a duty, duty × 50 000 / 256 ns, in sixteenths of a nanosecond (R110). -/
def highInterval (duty : Nat) : Nat := 3125 * duty

/-- The high switch of the switching leg at time `t` of the period: on from the end of the dead time to the end of the
high interval (R110). -/
def highOn (duty dead t : Nat) : Bool := decide (16 * dead ≤ t) && decide (t < highInterval duty)

/-- The low switch of the switching leg at time `t` of the period: on from the dead time after the high interval to the
end of the period (R110). -/
def lowOn (duty dead t : Nat) : Bool := decide (highInterval duty + 16 * dead ≤ t) && decide (t < pwmPeriod)

/-- The outputs of a channel at time `t` of the PWM period, in sixteenths of a nanosecond (R109, R110). -/
def Channel.bridgeAt (x : Channel) (dead t : Nat) : Switches :=
  match x.bridge with
  | .off => .off
  | .forward => ⟨highOn x.force dead t, lowOn x.force dead t, false, true⟩
  | .reverse => ⟨false, true, highOn x.force dead t, lowOn x.force dead t⟩

/-- The outputs AHk, ALk, BHk, BLk now (R109). -/
def State.bridgeOutputs (s : State) (k : Fin 4) : Switches :=
  if s.inReset.isSome then .off else (s.channels.get k).bridgeAt s.dead (160000 * s.pwm)

/-- The direction that a channel state drives. -/
def ChannelState.drives : ChannelState → Bridge
  | .forward => .forward
  | .reverse => .reverse
  | .off | .gap | .tripped => .off

/-- The start of a PWM period: the duty buffer becomes the duty in force, and a waiting change to FORWARD or REVERSE is
applied (R110). -/
def Channel.periodStart (x : Channel) : Channel := { x with force := x.duty, bridge := x.state.drives }

/-- The time base steps of a PWM period. -/
def pwmSteps : Nat := 5

/-! ## Channel changes -/

/-- A change to OFF, GAP or TRIPPED: every output off at once and the duty buffer 0 (R110, R112). -/
def Channel.stop (st : ChannelState) (x : Channel) : Channel := { x with state := st, duty := 0, bridge := .off }

/-- The causes with one added. -/
def Causes.add (c : Causes) : TripCause → Causes
  | .overcurrent => { c with overcurrent := true }
  | .guard => { c with guard := true }
  | .safe => { c with safe := true }

/-- No cause is held. -/
def Causes.isEmpty (c : Causes) : Bool := !c.overcurrent && !c.guard && !c.safe

/-- A trip: the cause latched, all outputs off, the duty buffer and the torque step cleared, TRIPPED (R127). -/
def Channel.trip (cause : TripCause) (x : Channel) : Channel :=
  { x.stop .tripped with causes := x.causes.add cause, step := .none }

/-- The channel is FORWARD or REVERSE, where it watches its comparator (R124). -/
def Channel.drivesNow (x : Channel) : Bool :=
  match x.state with
  | .forward | .reverse => true
  | .off | .gap | .tripped => false

/-- A torque phase runs. -/
def Channel.phaseRuns (x : Channel) : Bool := decide (x.step ≠ .none)

/-- An overcurrent trip: the trip of R127 with the count raised, up to 3 (R124, R130). -/
def Channel.overcurrent (x : Channel) : Channel := { x.trip .overcurrent with count := min 3 (x.count + 1) }

/-- OVERCURRENT leaves at a binding that finds the comparator inactive (R128). -/
def Channel.rearm (ocActive : Bool) (x : Channel) : Channel :=
  if x.state = .tripped ∧ x.causes.overcurrent ∧ ¬ocActive then
    let y := { x with causes := { x.causes with overcurrent := false } }
    if y.causes.isEmpty then y.stop .off else y
  else x

/-- GUARD and SAFE leave on the entry to RUN (R129). -/
def Channel.enterRun (x : Channel) : Channel :=
  if x.state = .tripped then
    let y := { x with causes := { x.causes with guard := false, safe := false } }
    if y.causes.isEmpty then y.stop .off else y
  else x

/-- The end of a forced run without a trip: back to TRIPPED with the kept causes, or to OFF (R131). -/
def Channel.endForced (x : Channel) : Channel := if x.causes.isEmpty then x.stop .off else x.stop .tripped

/-! ## The torque phase (6.4) -/

/-- The torque figures with a sample recorded: the last τ and τ_peak (R117). -/
def Channel.sampled (tau : Nat) (x : Channel) : Channel :=
  { x with last := some tau, peak := some (max (x.peak.getD 0) tau) }

/-- The start of a torque phase in OFF (R114): THREAD-FIND in REVERSE at d_tf, lowered to the ceiling, or GAP at once when
t_tf is 0. The ceiling that lowers the first duty is held as the ceiling, before any sample (log entry 33). -/
def Channel.startPhase (r : Recipe) (ceiling : Nat) (x : Channel) : Channel :=
  let y := { x with steps := 0, settle := 0, last := none, peak := none, least := none, ms := 0 }
  if r.threadFindTime = 0 then { y.stop .gap with step := .gap }
  else { y with state := .reverse, step := .threadFind, duty := min ceiling r.threadFindDuty, ceiling := ceiling }

/-- A step of THREAD-FIND: the sample is discarded; at t_tf the reverse drive ends and the channel enters GAP (R115). -/
def Channel.threadFindStep (r : Recipe) (ceiling : Nat) (x : Channel) : Channel :=
  if r.threadFindTime ≤ x.steps then { x.stop .gap with step := .gap, ceiling := ceiling }
  else { x with duty := min ceiling r.threadFindDuty, ceiling := ceiling }

/-- The end of GAP: RAMP in FORWARD at the start duty, or the ceiling if that is lower (R116), computed at this step and
held, though R119 names no step of GAP (log entry 33). -/
def Channel.gapStep (r : Recipe) (ceiling : Nat) (x : Channel) : Channel :=
  { x with state := .forward, step := .ramp, duty := min ceiling r.startDuty, ceiling := ceiling }

/-- A sample below the settle threshold, in RAMP or SETTLE: the settle count is 0 and the duty rises by the ramp step, up
to the ceiling (R117, R118). -/
def Channel.rampUp (r : Recipe) (ceiling : Nat) (x : Channel) : Channel :=
  { x with step := .ramp, settle := 0, least := none, duty := min ceiling (x.duty + r.rampStep), ceiling := ceiling }

/-- A sample at or above the settle threshold: from RAMP the settle count becomes 1 and the settle minimum the sample;
in SETTLE the count rises by 1 and the minimum is the lesser. The duty is held, lowered to the ceiling (R117, R118). -/
def Channel.settleOne (tau ceiling : Nat) (x : Channel) : Channel :=
  { x with step := .settle
           settle := if x.step = .settle then x.settle + 1 else 1
           least := some (if x.step = .settle then min (x.least.getD tau) tau else tau)
           duty := min ceiling x.duty, ceiling := ceiling }

/-- A step of RAMP or SETTLE with its sample (R117, R118). -/
def Channel.driveStep (r : Recipe) (ceiling tau : Nat) (x : Channel) : Channel :=
  if r.settleThreshold ≤ tau then (x.sampled tau).settleOne tau ceiling else (x.sampled tau).rampUp r ceiling

/-- One step's action by the torque step, after the step count has risen (R114). -/
def Channel.act (r : Recipe) (ceiling tau : Nat) (x : Channel) : Channel :=
  match x.step with
  | .none => x
  | .threadFind => x.threadFindStep r ceiling
  | .gap => x.gapStep r ceiling
  | .ramp | .settle => x.driveStep r ceiling tau

/-- A 1 ms step of the phase: the step count rises, then the torque step acts (R114). -/
def Channel.stepOnce (r : Recipe) (ceiling tau : Nat) (x : Channel) : Channel :=
  { x with steps := x.steps + 1, ms := x.ms - msSteps }.act r ceiling tau

/-- The settle count has reached the recipe's settle samples (R117, R118). -/
def Channel.settled (r : Recipe) (x : Channel) : Bool :=
  decide (x.step = .settle) && decide (r.settleSamples ≤ x.settle)

/-- τ_final of an end: the settle minimum after DONE, else the last τ, or 0 (R121). -/
def Channel.tauFinal (x : Channel) : TorqueEnd → Nat
  | .done => x.least.getD 0
  | .none | .time | .angle | .trip | .aborted => x.last.getD 0

/-- The channel after an end by DONE, TIME or ANGLE of a phase that began in OFF: OFF, the count 0 (R122, R130). -/
def Channel.finish (x : Channel) : Channel := { x.stop .off with step := .none, count := 0 }

end Sys2Proof.Machine
end

