-- ==== Sys2Proof/Machine/Closure.lean ====
section
/-! DEFINITION. The closure: intake close and discharge of a slot, the release and its verdict, the ends of the flush and
of the torque phase, trips, the opening of draws, and the reports of thresholds (Chapters 4 to 6, 7.7). -/

namespace Sys2Proof.Machine
open Sys2Proof

/-! ## The slot (Chapter 4) -/

/-- Reopening clears the record but for the pocket number (R66). -/
def Slot.reopen (x : Slot) : Slot := { x with state := .opened, record := {} }

/-- What a record keeps of a recipe number: the number of a usable recipe, or 'unusable' (R70; log entry 10). -/
def State.recipeRef (s : State) (n : Nat) : RecipeRef :=
  if decide (n < 8) && s.usable n then .number n else .unusable

/-- The defaults of a jar without gauge data (R72). -/
def Record.withDefaults (recipe : RecipeRef) (r : Record) : Record :=
  if r.gauged then r else { r with condition := some .ungauged, recipe := recipe, fill := none, headspace := none }

/-- The default recipe of the active profile (R72). -/
def State.defaultRecipe (s : State) : RecipeRef := s.recipeRef (s.profileField Profile.defaultRecipe)

/-- A jar that is not bound: SETTLED with its verdict and reasons (R73, R75). -/
def Slot.settle (v : Verdict) (reasons : Reasons) (x : Slot) : Slot :=
  { x with state := .settled, record := { x.record with verdict := some v, reasons := reasons } }

/-- A jar settled at intake close, its VERDICT offered at once (R73, R75, R77). -/
def settleJar (k : Fin 4) (v : Verdict) (reasons : Reasons) (s : State) : State :=
  offerVerdict k (modSlot k (Slot.settle v reasons) s)

/-- The slot of a bound jar: F_req computed, LOW_FILL added for that condition (R74, R158). -/
def Slot.bind (rc : Recipe) (x : Slot) : Slot :=
  { x with
    state := .bound
    record := { x.record with
      fReq := requiredFlush rc x.record.headspace
      reasons := x.record.reasons.addIf (decide (x.record.condition = some .lowFill)) .lowFill } }

/-- The head engine at a binding (R85). -/
def Engine.bind (n : Nat) (x : Engine) : Engine := { x with phase := .bound, recipe := some n, asking := false }

/-- A binding: the slot, the list's recipe thresholds unmarked, the head in BOUND, the channel's re-arm (R74, R85, R128).
The thresholds already passed are then reported in their order by the running report (R85; log entry 11). -/
def bindJar (k : Fin 4) (n : Nat) (s : State) : State :=
  modChannel k (Channel.rearm (s.pins.heads.get k).oc)
    (modEngine k (Engine.bind n)
      (modTrack k (fun x => { x with marks := x.marks.withoutRecipe })
        (modSlot k (Slot.bind (s.recipe n)) s)))

/-- The decision at intake close in RUN, first case that applies (R73). -/
def decideJar (k : Fin 4) (s : State) : State :=
  match (s.slots.get k).record.condition with
  | some .noJar => settleJar k .empty {} s
  | some .damaged => settleJar k .skipped {} s
  | _ =>
    match (s.slots.get k).record.recipe with
    | .number n =>
      if s.usable n then
        if (s.engines.get k).phase = .out then settleJar k .skipped { headOut := true } s else bindJar k n s
      else settleJar k .skipped { recipe := true } s
    | .absent | .unusable => settleJar k .skipped { recipe := true } s

/-- The defaults supplied on head `k` (R72). -/
def supplyDefaults (k : Fin 4) (s : State) : State := modSlot k (Slot.onRecord (Record.withDefaults s.defaultRecipe)) s

/-- Intake close reached (R73, R75). -/
def slotIntakeClose (k : Fin 4) (s : State) : State :=
  if (s.slots.get k).state = .opened then
    match s.unit.mode with
    | .run => decideJar k (supplyDefaults k s)
    | .stand | .safe => settleJar k .skipped { halted := true } (supplyDefaults k s)
    | .start | .learn | .announce | .fault => s
  else s

/-- The discharge reached (R68). -/
def slotDischarge (k : Fin 4) (s : State) : State :=
  if s.unit.mode.running then
    if (s.slots.get k).state = .bound then modSlot k (Slot.onRecord (fun r => { r with passed := true })) s
    else modSlot k Slot.reopen s
  else s

/-- A slot that is IDLE on an entry to a running mode opens where its travel lies in the intake window (R67). -/
def slotEntry (s : State) (k : Fin 4) : State :=
  if (s.slots.get k).state = .idle ∧ s.inWindow k then modSlot k Slot.reopen s else s

/-! ## The release (R101) -/

/-- The slot at a release whose discharge has not passed: the verdict written, SETTLED (R77). -/
def Slot.judge (rc : Recipe) (x : Slot) : Slot := { Slot.write (judged rc) x with state := .settled }

/-- The frame of a release after the discharge has passed, offered once: refused, the verdict is dropped (R79). -/
def offerVerdictOnce (k : Fin 4) (s : State) : State :=
  if s.accepts .verdict (s.verdictFrame k) then
    modSlot k (Slot.onRecord (Record.verdictQueued s.transmit.ticket)) (enqueue .verdict (s.verdictFrame k) s)
  else s

/-- The slot's part of a release: verdict, SETTLED or reopened, offer (R77, R79, R157). -/
def releaseSlot (k : Fin 4) (s : State) : State :=
  let judgedState := modSlot k (Slot.judge (s.boundRecipe k)) s
  if (s.slots.get k).record.passed then
    let offered := offerVerdictOnce k judgedState
    if offered.inWindow k then modSlot k Slot.reopen offered else offered
  else offerVerdict k judgedState

/-- The head engine after a release: IDLE, or OUT with its out mark cleared (R101, R102). -/
def Engine.released (x : Engine) : Engine :=
  { x with phase := if x.out then .out else .idle, recipe := none, out := false }

/-- The release, its steps in the order of R101. -/
def release (k : Fin 4) (s : State) : State :=
  modEngine k Engine.released
    (modTrack k (fun x => { x with marks := x.marks.withoutRecipe })
      (releaseSlot k (modEngine k (fun x => { x with press := false }) s)))

/-- DWELL, and the release at once if A_rel has been reached (R101). -/
def toDwell (k : Fin 4) (s : State) : State :=
  if s.reached k .rel then release k (modEngine k (fun x => { x with phase := .dwell }) s)
  else modEngine k (fun x => { x with phase := .dwell }) s

/-! ## Ends of the torque phase (R121 to R123) -/

/-- The record at an end of the torque phase: τ_final, τ_peak, the end kind, and DRIVE_TRIP for TRIP (R121). -/
def Record.torqueDone (kind : TorqueEnd) (final peak : Nat) (r : Record) : Record :=
  { r with tauFinal := final, tauPeak := peak, torqueEnd := kind
           reasons := r.reasons.addIf (decide (kind = .trip)) .driveTrip }

/-- The head in TORQUE takes the end of its phase: the draw closed, the out mark for an out report, DWELL (R100). -/
def torqueEnded (k : Fin 4) (out : Bool) (s : State) : State :=
  if (s.engines.get k).phase = .torque then
    toDwell k (modEngine k (fun x => { x with out := x.out || out }) (closeDraw k s))
  else s

/-- An end of a running torque phase: the record written, the channel changed by `f`, the end reported (R122). -/
def endPhase (k : Fin 4) (kind : TorqueEnd) (out : Bool) (f : Channel → Channel) (s : State) : State :=
  torqueEnded k out (modChannel k f
    (writeRecord k (Record.torqueDone kind ((s.channels.get k).tauFinal kind) ((s.channels.get k).peak.getD 0)) s))

/-- The end kind of a phase that ends before it starts on a TRIPPED channel (R114, R123). -/
def Channel.beforeKind (x : Channel) : TorqueEnd := if x.causes.overcurrent then .trip else .aborted

/-- A phase that ends before it starts: the record alone is written, with τ 0 (R123). -/
def endBeforeStart (k : Fin 4) (kind : TorqueEnd) (s : State) : State := writeRecord k (Record.torqueDone kind 0 0) s

/-! ## Trips (6.5) -/

/-- The forced run drives this head's motor. -/
def State.forcedDrive (s : State) (k : Fin 4) : Bool :=
  match s.service.forced with
  | some r => decide (r.head = k) && decide (r.output = .drive)
  | none => false

/-- The service unit's record cleared of a forced run on the drive of head `k` (R189). -/
def clearForcedDrive (k : Fin 4) (s : State) : State :=
  if s.forcedDrive k then { s with service := { s.service with forced := none } } else s

/-- The head on a third trip outside a torque phase: IDLE becomes OUT at once (R102, R130). -/
def Engine.takenOut (x : Engine) : Engine := if x.phase = .idle then { x with phase := .out } else x

/-- The comparator of head `k` is active: a channel in FORWARD or REVERSE trips, its count rises, a phase ends with TRIP,
a forced run ends, and the third trip is reported (R124, R130, R131). -/
def tripOvercurrent (k : Fin 4) (s : State) : State :=
  if (s.channels.get k).drivesNow then
    if (s.channels.get k).phaseRuns then
      endPhase k .trip (decide (2 ≤ (s.channels.get k).count)) Channel.overcurrent (clearForcedDrive k s)
    else if 2 ≤ (s.channels.get k).count then
      modEngine k Engine.takenOut (modChannel k Channel.overcurrent (clearForcedDrive k s))
    else modChannel k Channel.overcurrent (clearForcedDrive k s)
  else s

/-- A cause added to a channel: 'A trip of a channel that is already TRIPPED adds its cause and changes nothing else'
(R127). -/
def Channel.tripOrAdd (cause : TripCause) (x : Channel) : Channel :=
  if x.state = .tripped then { x with causes := x.causes.add cause } else x.trip cause

/-- A GUARD or SAFE trip: a running phase ends with ABORTED (R125, R126, R127). -/
def tripHalt (cause : TripCause) (s : State) (k : Fin 4) : State :=
  if (s.channels.get k).phaseRuns then endPhase k .aborted false (Channel.trip cause) (clearForcedDrive k s)
  else modChannel k (Channel.tripOrAdd cause) (clearForcedDrive k s)

/-- An input already active when the channel enters FORWARD or REVERSE trips it at that entry (R124). -/
def watchComparator (k : Fin 4) (s : State) : State := if (s.pins.heads.get k).oc then tripOvercurrent k s else s

/-! ## Forced runs (R189) -/

/-- The output of a forced run switched off at an end by time or by the service unit. -/
def endForcedRun (s : State) : State :=
  match s.service.forced with
  | none => s
  | some r =>
    let s' := { s with service := { s.service with forced := none } }
    match r.output with
    | .steam => modEngine r.head (fun x => { x with steam := false }) s'
    | .press => modEngine r.head (fun x => { x with press := false }) s'
    | .drive => modChannel r.head Channel.endForced s'

/-- A forced run of STEAM or PRESS ended by GUARD; one of DRIVE ends with the channel's trip (R189). -/
def endForcedByGuard (s : State) : State :=
  match s.service.forced with
  | none => s
  | some r =>
    match r.output with
    | .steam | .press => endForcedRun s
    | .drive => s

/-! ## Phases (5.4 to 5.7) -/

/-- The flush ends with COMPLETE, LIMIT or CUT (R94): valve off, end kind written, draw closed, SEAT with the press on. -/
def endFlush (k : Fin 4) (kind : FlushEnd) (s : State) : State :=
  modEngine k (fun x => { x with phase := .seat, press := true, samples := 0, ms := 0 })
    (closeDraw k (writeRecord k (fun r => { r with flushEnd := kind })
      (modEngine k (fun x => { x with steam := false }) s)))

/-- Entry to FLUSH (R91). -/
def enterFlush (k : Fin 4) (s : State) : State :=
  let s' := modEngine k (fun x => { x with phase := .flush, asking := false }) s
  if (s.slots.get k).record.fReq = 0 then endFlush k .complete s'
  else if s.tracker.motion = .stalled then endFlush k .cut s'
  else modEngine k (fun x => { x with steam := true, ms := 0 }) s'

/-- Entry to TORQUE with the start of the phase in the channel (R99, R114). -/
def enterTorque (k : Fin 4) (s : State) : State :=
  let s' := modEngine k (fun x => { x with phase := .torque, asking := false }) s
  if (s.channels.get k).state = .tripped then
    torqueEnded k false (endBeforeStart k (s.channels.get k).beforeKind s')
  else
    watchComparator k (modChannel k (Channel.startPhase (s.boundRecipe k)
      (s.dutyCeiling (s.boundRecipe k).maxDuty)) s')

/-- The open of a draw reported to its head (R89, R90, R98). -/
def headOpens (k : Fin 4) (c : DrawClass) (s : State) : State :=
  match c, (s.engines.get k).phase with
  | .steam, .steamWait => enterFlush k s
  | .steam, .steamAnnounced => enterFlush k s
  | .drive, .driveWait => enterTorque k s
  | .drive, .driveAnnounced => enterTorque k s
  | _, _ => s

/-- The DRAW-OPEN of head `k` and class `c` reported sent (R149). -/
def openSent (k : Fin 4) (c : DrawClass) (s : State) : State :=
  if (s.draws.get k).openFrame = .inQueue ∧ (s.draws.get k).terms.map Ask.cls = some c then
    match (s.draws.get k).status with
    | .pending => arbiter c (headOpens k c (modDraw k (fun d => { d with status := .opened, openFrame := .sent }) s))
    | .openForced => modDraw k (fun d => { d with openFrame := .sent }) s
    | .none | .opened => s
  else s

/-- The forced mark of a class (R150). -/
def Record.forced (c : DrawClass) (r : Record) : Record :=
  match c with
  | .steam => { r with forcedSteam := true }
  | .drive => { r with forcedDrive := true }

/-- The draw of a head that is still in WAIT at its latest start, opened forced: announced when the queue accepts its
DRAW-OPEN, unannounced when it refuses it (R151). -/
def openWaiting (k : Fin 4) (a : Ask) (s : State) : State :=
  if s.accepts .drawOpen (openPayload k a (s.lifeOf k a)) then
    modDraw k (fun d => { OwnDraw.granted a (s.lifeOf k a) d with status := .openForced })
      (enqueue .drawOpen (openPayload k a (s.lifeOf k a)) s)
  else modDraw k (fun d => { d with ask := none, status := .openForced, terms := some a, openFrame := .none }) s

/-- A latest start reported to the draw unit: the draw opens forced, the mark is set, the open is reported, and the
withdrawal check and the arbiter's run follow (R150, R151). A phase that ends in the event of its entry closes the draw
first, so that the check no longer counts its units (log entry 37). -/
def forceOpen (k : Fin 4) (c : DrawClass) (s : State) : State :=
  let opened :=
    if (s.draws.get k).status = .pending then modDraw k (fun d => { d with status := .openForced }) s
    else openWaiting k (s.askOf k c) s
  checkAndRun c (headOpens k c (writeRecord k (Record.forced c) opened))

/-- The head begins to ask for steam, unless STALLED (R88). -/
def beginAsk (k : Fin 4) (s : State) : State :=
  if s.tracker.motion = .stalled then s
  else takeAsk k .steam (modEngine k (fun x => { x with asking := true }) s)

/-- The decision of the drive phase after SEATED, first case that applies (R97). -/
def decideDrive (k : Fin 4) (s : State) : State :=
  if (s.channels.get k).state = .tripped then toDwell k (endBeforeStart k (s.channels.get k).beforeKind s)
  else if s.reached k .rel then toDwell k (endBeforeStart k .angle s)
  else
    let s' := modEngine k (fun x => { x with phase := .driveWait, asking := true }) s
    if s.reached k .dl then forceOpen k .drive s' else takeAsk k .drive s'

/-! ## Threshold reports (R13, R86) -/

/-- The cap check (R87). -/
def capCheck (k : Fin 4) (s : State) : State :=
  if (s.pins.heads.get k).cap then
    let s' := modEngine k (fun x => { x with phase := .steamWait })
      (writeRecord k (fun r => { r with cap := .yes }) s)
    if s.reached k .fe then beginAsk k s' else s'
  else toDwell k (addReason k .noCap (writeRecord k (fun r => { r with cap := .no }) s))

/-- A recipe threshold reported to the head engine (table of R86). -/
def headThreshold (k : Fin 4) (t : Threshold) (s : State) : State :=
  match t, (s.engines.get k).phase with
  | .cap, .bound => capCheck k s
  | .fe, .steamWait => beginAsk k s
  | .fl, .steamWait => forceOpen k .steam s
  | .fl, .steamAnnounced => forceOpen k .steam s
  | .fx, .flush => endFlush k .limit s
  | .dl, .driveWait => forceOpen k .drive s
  | .dl, .driveAnnounced => forceOpen k .drive s
  | .rel, .torque => endPhase k .angle false Channel.finish s
  | .rel, .dwell => release k s
  | _, _ => s

/-- A threshold marked and reported to its watcher (R13). -/
def report (k : Fin 4) (t : Threshold) (s : State) : State :=
  match t with
  | .intakeClose => slotIntakeClose k (markReached k .intakeClose s)
  | .discharge => slotDischarge k (markReached k .discharge s)
  | .cap | .fe | .fl | .fx | .dl | .rel => headThreshold k t (markReached k t s)

/-- The due thresholds of head `k` reported in ascending order, at most `n` of them; a binding among them adds its own to
those still to come (R13, R85). -/
def reportDue (k : Fin 4) (limit : Option Nat) : Nat → State → State
  | 0, s => s
  | n + 1, s =>
    match s.due k limit with
    | [] => s
    | t :: _ => reportDue k limit n (report k t s)

/-- The reports of a rise of head `k`'s travel; there are eight thresholds (R13). -/
def reportRise (k : Fin 4) (s : State) : State := reportDue k (some (s.travel k)) 8 s

/-- A new pass: the unmarked thresholds of the ending pass reported, the marks of intake close and discharge cleared, and
the thresholds at or below the travel reported (R13, R14). -/
def newPass (k : Fin 4) (s : State) : State :=
  reportRise k (modTrack k (fun x => { x with marks := x.marks.newPass }) (reportDue k none 8 s))

/-- A track whose held-back condition ends, where it does: no new pass begins and the marks are kept (R14, R15). -/
def Track.endHold (ends : Bool) (x : Track) : Track := if ends then { x with heldBack := false } else x

/-- The held-back conditions that a pulse or a shift ends, all at once and before any report, so that every distance read
in the reports is that of the new travel (R14, R15, R141). -/
def endHolds (ends : Fin 4 → Bool) (s : State) : State :=
  { s with tracks := ⟨s.tracks.h0.endHold (ends 0), s.tracks.h1.endHold (ends 1), s.tracks.h2.endHold (ends 2),
      s.tracks.h3.endHold (ends 3)⟩ }

end Sys2Proof.Machine
end

