-- ==== Sys2Proof/Machine/Modes.lean ====
section
/-! DEFINITION. Mode entries with what every block does on them (R18), faults, resets, the settings load, learning
completion, and the sampling of the head inputs. -/

namespace Sys2Proof.Machine
open Sys2Proof

def setMode (m : Mode) (s : State) : State := { s with unit := { s.unit with mode := m } }

/-! ## Head inputs -/

/-- The levels presented with a command, held as the pins' levels. -/
def setLevels (p : Levels) (s : State) : State :=
  { s with pins := { s.pins with heads :=
      ⟨{ s.pins.heads.h0 with cap := p.cap.h0, oc := p.oc.h0 }, { s.pins.heads.h1 with cap := p.cap.h1, oc := p.oc.h1 },
       { s.pins.heads.h2 with cap := p.cap.h2, oc := p.oc.h2 }, { s.pins.heads.h3 with cap := p.cap.h3, oc := p.oc.h3 }⟩ } }

/-- The channels whose comparator is active while they drive (R124). -/
def State.overcurrentHeads (s : State) : List (Fin 4) :=
  headIndexes.filter (fun k => (s.pins.heads.get k).oc && (s.channels.get k).drivesNow)

/-- The levels presented with a command; a comparator active on a driving channel trips it (R124). -/
def takePins (p : Levels) (s : State) : State :=
  let s' := setLevels p s
  (freely s' s'.overcurrentHeads).foldl (fun s k => tripOvercurrent k s) (consulted s')

/-! ## Entries to RUN, STAND and SAFE -/

/-- Entry to RUN: a forced run ends, the channels drop GUARD and SAFE, the IDLE slots decide (R67, R129, R189). -/
def enterRun (s : State) : State :=
  let s' := setMode .run (endForcedRun s)
  let s' := { s' with channels := s'.channels.map Channel.enterRun }
  s'.heads.foldl slotEntry s'

/-- Entry to STAND: closures run on, the IDLE slots decide (R67, R104). -/
def enterStand (s : State) : State :=
  let s' := setMode .stand s
  s'.heads.foldl slotEntry s'

/-- A head engine that holds a closure: neither IDLE nor OUT (R105). -/
def Engine.inClosure (x : Engine) : Bool :=
  match x.phase with
  | .idle | .out => false
  | .bound | .steamWait | .steamAnnounced | .flush | .seat | .driveWait | .driveAnnounced | .torque | .dwell => true

/-- The head engine's part of an entry to SAFE, by its state (table of R105). -/
def safeEngine (k : Fin 4) (s : State) : State :=
  let s' := addReason k .halted (modEngine k (fun x => { x with steam := false, asking := false }) s)
  match (s.engines.get k).phase with
  | .idle | .out => s
  | .bound | .seat => toDwell k s'
  | .steamWait | .steamAnnounced =>
    toDwell k (writeRecord k (fun r => { r with flushEnd := .aborted }) (endAsk k s'))
  | .flush => toDwell k (closeDraw k (writeRecord k (fun r => { r with flushEnd := .aborted }) s'))
  | .driveWait | .driveAnnounced =>
    toDwell k (writeRecord k (fun r => { r with torqueEnd := .aborted }) (endAsk k s'))
  | .torque | .dwell => s'

/-- One head and its channel on an entry to SAFE (R105, R126): the head first; a head in TORQUE takes the ABORTED end
that its channel's trip gives (R122). -/
def safeHead (s : State) (k : Fin 4) : State := tripHalt .safe (safeEngine k s) k

/-- The order in which the heads take an event: free among those that act, then the others (log entry 4). -/
def State.headOrder (s : State) (acts : Fin 4 → Bool) : List (Fin 4) :=
  freely s (headIndexes.filter acts) ++ headIndexes.filter (fun k => !acts k)

/-- Entry to SAFE (R67, R105, R126). -/
def enterSafe (s : State) : State :=
  let s' := setMode .safe s
  let s' := s'.heads.foldl slotEntry s'
  (s'.headOrder (fun k => (s'.engines.get k).inClosure)).foldl safeHead (consulted s')

/-! ## FAULT -/

/-- A held mark from a free value (log entry 6). -/
def heldOf (n : Fin 3) : HeldMark :=
  match n with
  | 0 => .clear
  | 1 => .stop
  | 2 => .trip

/-- The mode unit in FAULT: the code set, g, p0 and the node kept, the held mark and the counts no longer kept (R34). -/
def ModeUnit.faulted (code : FaultCode) (held : HeldMark) (u : ModeUnit) : ModeUnit :=
  { u with mode := .fault, fault := code, held := held, learn := 0, listen := 0 }

/-- The normal part emptied on an entry to FAULT; a normal frame in transmission runs on outside it (R34, R64). -/
def Transmit.faulted (t : Transmit) : Transmit :=
  { t with
    normal := []
    onLine := match t.onLine, t.normal with
      | .normal, f :: _ => .orphan f
      | .normal, [] => .none
      | o, _ => o }

/-- The line interface silenced: both parts of the queue emptied, nothing driven (R35, R64). -/
def Transmit.silence (t : Transmit) : Transmit :=
  { t with normal := [], slot := none, onLine := .none, silenced := true }

/-- A slot in FAULT: IDLE, its record cleared but for the pocket number (R80). -/
def Slot.faulted (x : Slot) : Slot := { x with state := .idle, record := {} }

/-- A head engine in FAULT (R107). -/
def Engine.faulted (x : Engine) : Engine :=
  { x with phase := .idle, recipe := none, asking := false, samples := 0, out := false, steam := false, press := false }

/-- A channel on an entry to FAULT: tripped with SAFE, its count and causes kept (R126). -/
def Channel.faulted (x : Channel) : Channel := x.tripOrAdd .safe

/-- The request in progress on an entry to FAULT: a RESTART ends, a write runs on (R191). -/
def Service.faulted (v : Service) : Service :=
  { v with request := if v.request = .restart then .none else v.request }

/-- The blocks of the heads and the draw unit in FAULT (R80, R107, R126, R155). -/
def faultBlocks (s : State) : State :=
  { s with
    slots := s.slots.map Slot.faulted
    engines := s.engines.map Engine.faulted
    channels := s.channels.map Channel.faulted
    tracks := s.tracks.map (fun x => { x with marks := x.marks.withoutRecipe })
    draws := Four.all {}
    view := {}
    refused := ⟨false, false⟩
    announce := {}
    service := s.service.faulted }

/-- The HALT STOP of an entry to FAULT: for a fault other than LINE and a node of 0 .. 11 (R34). -/
def offerFaultHalt (code : FaultCode) (s : State) : State :=
  if code ≠ .line ∧ s.unit.node ≤ 11 then offerHalt haltStop code.code s else s

/-- The line interface on an entry to FAULT (R64). -/
def faultLine (code : FaultCode) (s : State) : State :=
  { s with transmit := if code = .line then s.transmit.silence else s.transmit.faulted }

/-- Entry to FAULT from a mode other than FAULT (R34, R35, R64, R80, R107, R126, R155, R189, R191). -/
def enterFault (code : FaultCode) (s : State) : State :=
  if s.unit.mode = .fault then s else
  let s' := endForcedRun s
  let s' := consulted { s' with unit := s'.unit.faulted code (heldOf (Config.heldInFault s'.free)) }
  faultBlocks (faultLine code (offerFaultHalt code s'))

/-- The fourth collision of one frame: FAULT(LINE), or in FAULT the silence with the fault code LINE (R35). -/
def faultOfLine (s : State) : State :=
  if s.unit.mode = .fault then
    { s with transmit := s.transmit.silence, unit := { s.unit with fault := .line } }
  else enterFault .line s

/-! ## Start-up (2.3 to 2.5) -/

/-- The announcement at the entry to ANNOUNCE: doubt begins and the POSITION frame is offered (R25, R155). -/
def enterAnnounce (s : State) : State := offerPosition (doubtBegins (setMode .announce s))

/-- The profile's thresholds at or below a head's travel marked without report (R13, R24). -/
def markPassed (s : State) (k : Fin 4) : State :=
  let s' := if s.intakeClose ≤ s.travel k then markReached k .intakeClose s else s
  if s.discharge ≤ s.travel k then markReached k .discharge s' else s'

/-- A slot gets its pocket number (R66). -/
def givePocket (p0 : Nat) (s : State) (k : Fin 4) : State := modSlot k (fun x => { x with pocket := some (p0 + k.val) }) s

/-- Learning completion (R24). The learn count, no longer kept from here on (R23), stays at its last value (log
entry 7). -/
def completeLearning (g p0 : Nat) (s : State) : State :=
  let s' := { s with unit := { s.unit with g := some g, p0 := some p0, node := g } }
  let s' := s'.heads.foldl (givePocket p0) s'
  enterAnnounce (s'.heads.foldl markPassed s')

/-- Listening complete: the held mark decides the mode (R28). -/
def completeListening (s : State) : State :=
  let s' := { s with unit := { s.unit with held := .clear, listen := 0 }, announce := { s.announce with stage := .none } }
  match s.unit.held with
  | .clear => enterRun s'
  | .stop => enterStand s'
  | .trip => enterSafe s'

/-! ## The settings load (R176) -/

/-- The eight stored recipes. -/
def storedRecipes (m : List Host.Cell) : List (List Byte) := (List.range 8).map (fun r => storedRecord m (r + 1))

/-- A profile passes its check byte and its field checks (R173, R174). -/
def goodProfile (p : Profile) : Bool := goodSum p && p.fieldsOk

/-- A recipe passes its check byte and its field checks against a good profile (R173, R175). -/
def usableRecipe (p : Profile) (r : Recipe) : Bool := goodSum r && r.fieldsOk && r.orderAgainst p

/-- The active copies and marks that the load leaves (R176). -/
def Settings.loaded (t : Settings) : Settings :=
  { t with
    profile := storedRecord t.store 0
    good := goodProfile (storedRecord t.store 0)
    recipes := storedRecipes t.store
    usable := (storedRecipes t.store).map
      (fun r => goodProfile (storedRecord t.store 0) && usableRecipe (storedRecord t.store 0) r)
    load := none }

/-- The load complete: the active copies, and with a good profile the dead time in force (R111, R176). -/
def takeSettings (s : State) : State :=
  { s with
    settings := s.settings.loaded
    dead := if s.settings.loaded.good then 100 * Profile.deadTime s.settings.loaded.profile else s.dead }

/-- The mode unit told of the load's outcome (R19): LEARN, with the tracker begun (R1), or FAULT(SETTINGS). A station
that is no longer in START stays in its mode (R34). -/
def leaveStart (s : State) : State :=
  if s.unit.mode = .start then
    if s.settings.good then setMode .learn { s with tracker := { s.tracker with begun := true } }
    else enterFault .settings s
  else s

/-! ## Resets (2.9) -/

/-- The bytes of a record whose write was cut short: free, but with a sum other than 0 (R180; log entry 5). -/
def cutRecord (n len : Nat) : List Byte :=
  let front := (List.range (len - 1)).map (Config.cutByte n)
  let last := Config.cutByte n (len - 1)
  if sumBytes (front ++ [last]) = 0 then front ++ [last + 1] else front ++ [last]

/-- A write in progress ended by a POWER or PIN reset (R180). -/
def cutWrite (s : State) : State :=
  match s.service.write with
  | none => s
  | some w =>
    consulted { s with settings := { s.settings with
      store := Store.writeBytes s.settings.store (recordAddress w.number) (cutRecord s.free (recordBytes w.number)) } }

/-- Every block at its reset values; the store and the pins stay, and the start-cause record is set (R36, R37). -/
def resetBlocks (kind : ResetKind) (code : FaultCode) (s : State) : State :=
  { State.reset with
    unit := { causeKind := kind, causeFault := code }
    settings := { store := s.settings.store }
    pins := s.pins
    pending := s.pending
    free := s.free }

/-- A POWER or PIN reset begins and lasts: every output off, no load yet (R36). -/
def beginReset (kind : ResetKind) (code : FaultCode) (s : State) : State :=
  let s' := resetBlocks kind code (cutWrite s)
  { s' with inReset := some kind, settings := { s'.settings with load := none } }

/-- GUARD found open when the reset ends counts as an opening in START (R30, R125). -/
def guardAtStart (s : State) : State :=
  if s.pins.guardOpen then
    { s with unit := { s.unit with held := .trip }, channels := s.channels.map (Channel.tripOrAdd .guard) }
  else s

/-- The 2 ms of the load in time base steps (R176). -/
def loadSteps : Nat := 200

/-- The end of a POWER or PIN reset (R36, R176). -/
def endReset (guardOpen : Bool) (s : State) : State :=
  guardAtStart { s with
    inReset := none
    settings := { s.settings with load := some loadSteps }
    pins := { s.pins with guardOpen := guardOpen } }

/-- A RESTART reset, of no duration (R36, R190). -/
def restartReset (s : State) : State := guardAtStart (resetBlocks .restart s.unit.fault s)

end Sys2Proof.Machine
end

