-- ==== Sys2Proof/Machine/Resets.lean ====
section
/-! DEFINITION. The rows of the resets and the settings load. -/

namespace Sys2Proof.Machine
open Sys2Proof

/-- What a step answers. -/
abbrev Answer := Host.Outcome State Fault Refusal

/-- POWER_RESET (R36, R37): a POWER reset begins, the start-cause record POWER with NONE. -/
def execPowerReset (s : State) : Answer := .next (beginReset .power .none s)

/-- PIN_RESET (R36, R37): a PIN reset begins, the start-cause record PIN with the fault code in force; held through a
power-on it is a POWER reset, and a pin already held is no new reset. -/
def execPinReset (s : State) : Answer := .next (unlessReset (beginReset .pin s.unit.fault) s)

/-- RESET_END (R36): the POWER or PIN reset in force ends; START, the load begun, GUARD found open an opening. -/
def execResetEnd (guardOpen : Bool) (s : State) : Answer :=
  .next (if s.inReset.isSome then endReset guardOpen s else s)

/-- LOAD_COMPLETE (R19, R176): what is left of the 2 ms passes, the active copies are read and checked, and the station
leaves START. Without a load in progress nothing completes. -/
def execLoadComplete (s : State) : Answer :=
  .next (unlessReset (fun x =>
    match x.settings.load with
    | none => x
    | some left => leaveStart (takeSettings (elapse left x))) s)

end Sys2Proof.Machine
end

