-- ==== Sys2Proof/Machine/Motion.lean ====
section
/-! DEFINITION. The rows of the angle tracker and of learning: PITCH and ZERO pulses, the rows that name what one PITCH
pulse brings about, saturation, stall, thresholds and MARK (Chapters 1 and 2). -/

namespace Sys2Proof.Machine
open Sys2Proof

/-! ## The PITCH pulse (R3) -/

/-- The tracker at a PITCH pulse (R3, R4, R9, R11). -/
def Tracker.pitch (p : Nat) (t : Tracker) : Tracker :=
  { t with
    c := if t.valid then (t.c + 1) % p else t.c
    l := if t.stage = 0 then t.l else min 65535 t.e
    measured := t.measured || decide (t.stage ≠ 0)
    stage := if t.stage = 0 then 1 else 2
    e := 0
    motion := .turning }

/-- The tracker takes a pulse: 'the tracker takes at most one rising edge per time base step' (R4), so a pulse in the time
base step of the one before comes a step later. That the bound is one for each line, and is kept for PITCH after PITCH
alone, is the model's choice (log entry 15). -/
def countPitch (s : State) : State :=
  let s' := if s.tracker.e = 0 then elapse 1 s else s
  { s' with tracker := s'.tracker.pitch s'.pocketCount }

/-- A head in STEAM-WAIT that asks again when the turret turns again (R103). -/
def State.asksAgain (s : State) (k : Fin 4) : Bool :=
  decide ((s.engines.get k).phase = .steamWait) && s.reached k .fe && !(s.engines.get k).asking

/-- A head's turn at a resumption (R103). -/
def resumeHead (s : State) (k : Fin 4) : State := if s.asksAgain k then beginAsk k s else s

/-- The resumption reported to the head engines (R11, R103). -/
def resumeHeads (s : State) : State :=
  (freely s (s.heads.filter s.asksAgain)).foldl resumeHead (consulted s)

/-- A PITCH pulse has counted C to head `k`'s pocket (R13). -/
def State.passes (s : State) (k : Fin 4) : Bool := s.tracker.valid && decide (s.tracker.c = s.pocketOf k)

/-- A PITCH pulse that counts C to head `k`'s pocket ends its held-back condition (R15). -/
def State.endsHoldAtPulse (s : State) (k : Fin 4) : Bool :=
  s.travelDefined k && s.passes k && (s.tracks.get k).heldBack

/-- One head's reports at a PITCH pulse; `ended` says which heads were held back until it (R13, R15). -/
def headAtPulse (ended : Fin 4 → Bool) (s : State) (k : Fin 4) : State :=
  if s.travelDefined k then
    if s.passes k ∧ ended k = false then newPass k s
    else if (s.tracks.get k).heldBack then s
    else reportRise k s
  else s

/-- Whether a pulse may report a threshold of head `k`: only the order of such heads matters. -/
def State.reportsAtPulse (s : State) (k : Fin 4) : Bool :=
  s.travelDefined k
  && (!(s.due k (if s.passes k then none else some (s.travel k))).isEmpty || (s.passes k && decide (s.intakeClose = 0)))

/-- The travels of all heads changed by a pulse (R3, R13). -/
def headsAtPulse (ended : Fin 4 → Bool) (s : State) : State :=
  (s.headOrder s.reportsAtPulse).foldl (headAtPulse ended) (consulted s)

/-- The learn count is kept: LEARN with count valid and a group to be found from MARK (R23). -/
def State.countsLearning (s : State) : Bool :=
  decide (s.unit.mode = .learn) && s.tracker.valid && decide (s.profileField Profile.fixedGroup = learnFromMark)

/-- The pulse in LEARN (R23). -/
def learnPulse (s : State) : State :=
  if s.countsLearning then
    let s' := { s with unit := { s.unit with learn := s.unit.learn + 1 } }
    if 2 * s.pocketCount ≤ s.unit.learn + 1 then enterFault .noMark s' else s'
  else s

/-- The station listens (R25). -/
def State.listens (s : State) : Bool := decide (s.unit.mode = .announce) && decide (s.announce.stage = .listening)

/-- The pulse in LISTENING (R25, R28). -/
def listenPulse (s : State) : State :=
  if s.listens then
    let s' := { s with unit := { s.unit with listen := s.unit.listen + 1 } }
    if s.pocketCount ≤ s.unit.listen + 1 then completeListening s' else s'
  else s

/-- The re-announce hold-off at a pulse (R29). -/
def holdOffPulse (s : State) : State := { s with unit := { s.unit with holdOff := s.unit.holdOff - 1 } }

/-- A PITCH pulse taken, in the order of R3: count and period, with the held-back conditions that the count ends (R15),
motion, travels, then the draw unit and the mode unit's counts. -/
def takePitch (s : State) : State :=
  let counted := countPitch s
  let ended := counted.endsHoldAtPulse
  let s' := endHolds ended counted
  let s' := if s.tracker.motion = .stalled then resumeHeads s' else s'
  learnPulse (listenPulse (holdOffPulse (drawPulse (headsAtPulse ended s'))))

/-- A rising edge on PITCH, `dt` time base steps on, with the levels of the head inputs: taken once the tracker has begun
(R1). -/
def pitchEdge (dt : Nat) (pins : Levels) (s : State) : State :=
  whenever (fun x => x.tracker.begun) takePitch (takePins pins (elapse dt s))

/-- PITCH_PULSE (R3). -/
def execPitchPulse (dt : Nat) (pins : Levels) (s : State) : Answer := .next (unlessReset (pitchEdge dt pins) s)

/-! ## The rows that name what one pulse brings about: that pulse, where it does; elsewhere the event does not occur
(log entry 13) -/

/-- The next pulse brings the learn count to 2P (R23). -/
def State.learnEnds (s : State) : Bool :=
  s.tracker.begun && s.countsLearning && decide (2 * s.pocketCount ≤ s.unit.learn + 1)

/-- NO_MARK (R23): the PITCH pulse that brings the learn count to 2P. -/
def execNoMark (dt : Nat) (pins : Levels) (s : State) : Answer :=
  .next (unlessReset (whenever State.learnEnds (pitchEdge dt pins)) s)

/-- The next pulse brings the listen count to P (R28). -/
def State.listenEnds (s : State) : Bool :=
  s.tracker.begun && s.listens && decide (s.pocketCount ≤ s.unit.listen + 1)

/-- LISTENING_COMPLETE (R28): the PITCH pulse that brings the listen count to P. -/
def execListeningComplete (dt : Nat) (pins : Levels) (s : State) : Answer :=
  .next (unlessReset (whenever State.listenEnds (pitchEdge dt pins)) s)

/-- The next pulse brings the re-announce hold-off to 0 (R29). -/
def State.holdOffEnds (s : State) : Bool := s.tracker.begun && decide (s.unit.holdOff = 1)

/-- RE_ANNOUNCE_HOLD_OFF_END (R29): the PITCH pulse that brings the hold-off to 0. -/
def execReAnnounceHoldOffEnd (dt : Nat) (pins : Levels) (s : State) : Answer :=
  .next (unlessReset (whenever State.holdOffEnds (pitchEdge dt pins)) s)

/-- The next pulse brings the clean counter to P (R139). -/
def State.doubtEnds (s : State) : Bool :=
  s.tracker.begun && s.unit.mode.keepsView && s.view.doubt && decide (s.pocketCount ≤ s.view.clean + 1)

/-- DOUBT_END (R139): the PITCH pulse at which the clean counter reaches P. -/
def execDoubtEnd (dt : Nat) (pins : Levels) (s : State) : Answer :=
  .next (unlessReset (whenever State.doubtEnds (pitchEdge dt pins)) s)

/-- The next pulse brings some view entry's life to 0 (R139). -/
def State.viewExpires (s : State) : Bool :=
  s.tracker.begun && s.unit.mode.keepsView && expires s.view.entries

/-- VIEW_ENTRY_EXPIRY (R139): the PITCH pulse at which a view entry's remaining life reaches 0. -/
def execViewEntryExpiry (dt : Nat) (pins : Levels) (s : State) : Answer :=
  .next (unlessReset (whenever State.viewExpires (pitchEdge dt pins)) s)

/-- A close of this draw is still pending at the pulse that brings its countdown to 0 (R153). -/
def OwnDraw.closeRunsOut (d : OwnDraw) : Bool :=
  (d.closing.steam && decide (d.countdown.steam = 1)) || (d.closing.drive && decide (d.countdown.drive = 1))

/-- The next pulse drops a pending close (R153). -/
def State.closeRunsOut (s : State) : Bool :=
  s.tracker.begun && s.unit.mode.keepsView && headIndexes.any (fun k => (s.draws.get k).closeRunsOut)

/-- CLOSE_COUNTDOWN_END (R153): the PITCH pulse at which a close countdown reaches 0 with a close still pending. -/
def execCloseCountdownEnd (dt : Nat) (pins : Levels) (s : State) : Answer :=
  .next (unlessReset (whenever State.closeRunsOut (pitchEdge dt pins)) s)

/-! ## The ZERO pulse (R6, R7) -/

/-- The count valid reported to the mode unit: a fixed group completes learning, else MARK is watched (R21). -/
def countValid (s : State) : State :=
  if s.unit.mode = .learn then
    if s.profileField Profile.fixedGroup = learnFromMark then { s with unit := { s.unit with learn := 0 } }
    else completeLearning (s.profileField Profile.fixedGroup)
      (s.profileField Profile.fixedGroup * s.headCount) s
  else s

/-- C aligned by the first ZERO (R6). -/
def alignCount (s : State) : State :=
  countValid { s with tracker := { s.tracker with c := s.expectedCount, valid := true } }

/-- d = (expected − C) mod P (R7). -/
def State.slipDistance (s : State) : Nat := minusMod s.pocketCount s.expectedCount s.tracker.c

/-- A slot at a slip report: BOUND adds POSITION (R76). -/
def slipSlots (s : State) : State :=
  { s with slots := s.slots.map (Slot.write (fun r => { r with reasons := r.reasons.add .position })) }

/-- A forward shift of `d` pitches carries head `k` across the infeed from its old travel (R14). -/
def State.carries (s : State) (d : Nat) (old : Four Nat) (k : Fin 4) : Bool :=
  s.travelDefined k && decide (256 * s.pocketCount ≤ old.get k + 256 * d)

/-- One head's part of a forward shift of `d` pitches from its old travel; `ended` says which heads were held back until
it (R14). -/
def slipForward (d : Nat) (old : Four Nat) (ended : Fin 4 → Bool) (s : State) (k : Fin 4) : State :=
  if s.travelDefined k then
    if s.carries d old k ∧ ended k = false then newPass k s
    else if (s.tracks.get k).heldBack then s
    else reportRise k s
  else s

/-- One head's part of a backward shift of `b` pitches from its old travel: carried back across the infeed it is held
back (R15). -/
def slipBackward (b : Nat) (old : Four Nat) (s : State) (k : Fin 4) : State :=
  if s.travelDefined k ∧ old.get k < 256 * b then modTrack k (fun x => { x with heldBack := true }) s else s

/-- The travels of the four heads. -/
def State.travels (s : State) : Four Nat := ⟨s.travel 0, s.travel 1, s.travel 2, s.travel 3⟩

/-- A slip correction: C becomes the expected count, the slip is reported, and the thresholds it causes are reported (R7,
R14, R15, R76, R106). A shift of at most half a revolution is forward; it ends the held-back condition of each head that
it carries across the infeed. -/
def slip (s : State) : State :=
  let d := s.slipDistance
  let old := s.travels
  let s' := slipSlots { s with tracker := { s.tracker with c := s.expectedCount } }
  if d ≤ s.pocketCount / 2 then
    let ended (k : Fin 4) : Bool := s'.carries d old k && (s'.tracks.get k).heldBack
    (s'.headOrder s'.travelDefined).foldl (slipForward d old ended) (consulted (endHolds ended s'))
  else headIndexes.foldl (slipBackward (s.pocketCount - d) old) s'

/-- A ZERO pulse taken: aligns, confirms or corrects C (R6, R7). -/
def takeZero (s : State) : State :=
  if s.tracker.valid then (if s.expectedCount = s.tracker.c then s else slip s) else alignCount s

/-- ZERO_PULSE (R6, R7): a rising edge on ZERO, taken once the tracker has begun (R1). One in the time base step of a
PITCH pulse, or of another ZERO, is taken in that same step (R4; log entry 15). -/
def execZeroPulse (dt : Nat) (pins : Levels) (s : State) : Answer :=
  .next (unlessReset (fun s => whenever (fun x => x.tracker.begun) takeZero (takePins pins (elapse dt s))) s)

/-! ## Time-driven rows of the tracker -/

/-- E_SATURATION (R2): the time left until e reaches 262 143 passes, and e holds there. -/
def execESaturation (s : State) : Answer :=
  .next (unlessReset (fun s => elapse (eSaturated - s.tracker.e) s) s)

/-- A head's reports of what φ has reached (R13): none without a travel, none while held back. -/
def phaseReports (s : State) (k : Fin 4) : State :=
  if s.travelDefined k ∧ ¬(s.tracks.get k).heldBack then reportRise k s else s

/-- The head has unmarked thresholds at or below its travel. -/
def State.hasDue (s : State) (k : Fin 4) : Bool :=
  s.travelDefined k && !(s.tracks.get k).heldBack && !(s.due k (some (s.travel k))).isEmpty

/-- The thresholds that φ has reached, of every head (R13). -/
def allPhaseReports (s : State) : State :=
  (freely s (headIndexes.filter s.hasDue)).foldl phaseReports (consulted s)

/-- A head in STEAM-WAIT ends its ask when the turret stalls (R103). -/
def stallAsk (s : State) (k : Fin 4) : State :=
  if (s.engines.get k).phase = .steamWait ∧ (s.engines.get k).asking then
    modDraw k (fun d => { d with ask := none }) (modEngine k (fun x => { x with asking := false }) s)
  else s

/-- A flush in progress is cut when the turret stalls (R93, R103). -/
def stallFlush (s : State) (k : Fin 4) : State :=
  if (s.engines.get k).phase = .flush then endFlush k .cut s else s

/-- Entry to STALLED (R10, R103): the asks end before the flushes are cut, 'so that no steam draw is granted while the
turret stands'. -/
def enterStalled (s : State) : State :=
  let s' := { s with tracker := { s.tracker with motion := .stalled, stage := 0 } }
  let s' := s'.heads.foldl stallAsk s'
  (freely s' (s'.heads.filter (fun k => decide ((s'.engines.get k).phase = .flush)))).foldl stallFlush (consulted s')

/-- STALL (R10): in TURNING the time left until e reaches the stall limit passes, with what φ reaches on the way reported
first, and the turret is STALLED. In UNKNOWN and STALLED no limit applies. -/
def execStall (s : State) : Answer :=
  .next (unlessReset (whenever (fun x => x.tracker.begun && decide (x.tracker.motion = .turning))
    (fun s => enterStalled (allPhaseReports (elapse (s.stallLimit - s.tracker.e) s)))) s)

/-- The least unmarked threshold of head `k` that φ reaches in the current pitch: how far it lies beyond the pitch's first
travel unit, for thresholds above the travel (R5, R13). -/
def State.nextPhase (s : State) (k : Fin 4) : Option Nat :=
  match (s.due k (some (s.travel k - s.tracker.phi + 255))).head? with
  | some t => some (s.thresholdValue k t - (s.travel k - s.tracker.phi))
  | none => none

/-- The time base steps until φ reaches `x`: the least e with floor(256·e / L) ≥ x (R5). -/
def State.stepsToPhase (s : State) (x : Nat) : Nat := ceilDiv (x * s.tracker.l) 256 - s.tracker.e

/-- φ advances to head `k`'s next threshold of the pitch, where it has one and L is measured (R5, R13). -/
def advancePhase (k : Fin 4) (s : State) : State :=
  match s.nextPhase k with
  | some x => if s.tracker.measured then elapse (s.stepsToPhase x) s else s
  | none => s

/-- THRESHOLD_REACHED (R13): φ advances to the next unmarked threshold of head `k` in the current pitch, and what it has
reached is reported to its watcher in ascending order. 'Reporting stops while the motion state is STALLED', and a head
that is held back reaches none. -/
def execThresholdReached (k : Fin 4) (pins : Levels) (s : State) : Answer :=
  .next (unlessReset (fun s =>
    let s' := takePins pins s
    if s'.tracker.begun && decide (s'.tracker.motion ≠ .stalled) && s'.travelDefined k
        && !(s'.tracks.get k).heldBack then reportRise k (advancePhase k s')
    else s') s)

/-! ## MARK (R22) -/

/-- The pocket that a MARK edge fixes (R22). -/
def State.markedPocket (s : State) : Nat :=
  if s.tracker.phi < 128 then s.tracker.c else (s.tracker.c + 1) % s.pocketCount

/-- The first MARK edge in LEARN: MISALIGNED, or learning complete (R22). -/
def takeMark (s : State) : State :=
  if s.markedPocket % s.headCount = 0 then completeLearning (s.markedPocket / s.headCount) s.markedPocket s
  else enterFault .misaligned { s with unit := { s.unit with p0 := some s.markedPocket } }

/-- MARK_EDGE (R22): taken in LEARN with count valid and the fixed group 0FFH, and nowhere else. -/
def execMarkEdge (dt : Nat) (s : State) : Answer :=
  .next (unlessReset (fun s => whenever State.countsLearning takeMark (elapse dt s)) s)

end Sys2Proof.Machine
end

