-- ==== Sys2Proof/Machine/Line.lean ====
section
/-! DEFINITION. The rows of the line interface: the receiver and its screening, and the transmitter (Chapter 3). -/

namespace Sys2Proof.Machine
open Sys2Proof

/-! ## Receive errors (R58) -/

/-- The five kinds of receive error (R58). -/
inductive ReceiveError where
  | check | framing | truncated | length | overrun
deriving DecidableEq, Repr

/-- A count one higher: 'Each count is 0 .. 255 and holds at 255' (R58). -/
def countUp (n : Nat) : Nat := min 255 (n + 1)

def Errors.count (e : Errors) : ReceiveError → Errors
  | .check => { e with check := countUp e.check }
  | .framing => { e with framing := countUp e.framing }
  | .truncated => { e with truncated := countUp e.truncated }
  | .length => { e with length := countUp e.length }
  | .overrun => { e with overrun := countUp e.overrun }

/-- A receive error: counted, and reported to the draw unit, which begins doubt (R58, R138). -/
def receiveError (k : ReceiveError) (s : State) : State :=
  doubtBegins { s with receive := { s.receive with errors := s.receive.errors.count k } }

/-! ## Bytes into frames (R53 to R57) -/

/-- The bit-times of a byte (R38). -/
def byteTime : Nat := 11

/-- The bit-times gone of the byte that another node sends: of the byte on the line, or, where a byte has ended within the
time base step, since that byte, which this one follows at once. -/
def Transmit.byteGone (t : Transmit) : Nat :=
  match t.byte with
  | some m => m
  | none => if t.idle < 5 then t.idle else 0

/-- The time base steps that the rest of the byte takes. -/
def Transmit.byteSteps (t : Transmit) : Nat := ceilDiv (byteTime - t.byteGone) 5

/-- Another node's start bit ends the idle time, the rest of its byte passes, and the idle time counts anew from the end of
its stop bit (R38, R46; log entry 26). A byte of the station's own frame takes its time in the transmission. -/
def passByte (s : State) : State :=
  if s.transmit.onLine = .none then
    { elapse s.transmit.byteSteps s with transmit := { s.transmit with
        byte := none, idle := s.transmit.byteGone + 5 * s.transmit.byteSteps - byteTime } }
  else s

/-- A byte kept as the lead byte of a new frame (R53, R56). The frame is the station's own when the station is sending
(R60). -/
def beginFrame (b : Byte) (s : State) : State :=
  { s with receive := { s.receive with receiver := .length b, own := decide (s.transmit.onLine ≠ .none) } }

/-- The receiver returns to HUNT (R53). -/
def endFrame (s : State) : State := { s with receive := { s.receive with receiver := .hunt, own := false } }

/-- The greatest payload length (R39). -/
def longestPayload : Nat := 72

/-- The receiver after a length byte that is no error (R53). -/
def afterLength (lead b : Byte) : Receiver := if b = 0 then .check lead [] else .payload lead b.toNat []

/-- A length byte (R53, R57). -/
def takeLength (lead b : Byte) (s : State) : State :=
  if longestPayload < b.toNat then receiveError .length (endFrame s)
  else { s with receive := { s.receive with receiver := afterLength lead b } }

/-- The receiver after a payload byte (R53). -/
def afterPayload (lead : Byte) (len : Nat) (got : List Byte) : Receiver :=
  if len ≤ got.length then .check lead got else .payload lead len got

/-- The payload byte is kept (R53). -/
def takePayload (lead : Byte) (len : Nat) (got : List Byte) (b : Byte) (s : State) : State :=
  { s with receive := { s.receive with receiver := afterPayload lead len (got ++ [b]) } }

/-- A good frame passes the screening (table of R59), its own frames apart. -/
def State.passesScreening (s : State) (f : Frame) : Bool :=
  decide (f.source ≠ 15)
  && (match f.kind with
    | .position => !within 12 14 f.source
    | .jarIn => decide (f.source = 13)
    | .drawOpen | .drawClose | .halt | .resume => true
    | .verdict | .answer | .other _ => false
    | .ask => decide (f.source = 12) && decide (2 ≤ f.payload.length) && decide (u8 f.payload 0 = s.unit.node)
        && !s.transmit.silenced)

/-- The bound of the receive queue (R61). -/
def receiveBound : Nat := 4

/-- A screened frame at the tail of the receive queue, or an OVERRUN (R61). -/
def queueFrame (f : Frame) (s : State) : State :=
  if s.receive.queue.length < receiveBound then { s with receive := { s.receive with queue := s.receive.queue ++ [f] } }
  else receiveError .overrun s

/-- The comparison of a received HALT with the slot (R43). -/
def meetHalt (f : Frame) (s : State) : State := if f.isGoodHalt then compareHalt f s else s

/-- A good frame of another node: the HALT comparison, the screening, the queue (R43, R59, R61). -/
def takeFrame (f : Frame) (s : State) : State :=
  if (meetHalt f s).passesScreening f then queueFrame f (meetHalt f s) else meetHalt f s

/-- The check byte: a bad sum is a CHECK error, the station's own frame is dropped, and a good frame of another node is
taken (R54, R59). -/
def takeCheck (lead : Byte) (got : List Byte) (b : Byte) (s : State) : State :=
  if sumBytes (lead :: byte got.length :: got ++ [b]) = 0 then
    if s.receive.own then endFrame s else takeFrame (frameOf lead got) (endFrame s)
  else receiveError .check (endFrame s)

/-- A byte taken in HUNT (R53). -/
def huntByte (b : Byte) (lead stop : Bool) (s : State) : State := if lead && stop then beginFrame b s else s

/-- A byte taken within a frame: FRAMING by its stop bit first (R55: 'not even when its lead bit is 1'), then TRUNCATED
by its lead bit (R56), then by `take`. -/
def frameByte (b : Byte) (lead stop : Bool) (take : State → State) (s : State) : State :=
  if !stop then receiveError .framing (endFrame s)
  else if lead then receiveError .truncated (beginFrame b s)
  else take s

/-- The receiver takes a byte, by its state (R53). -/
def receiverTakes (b : Byte) (lead stop : Bool) (s : State) : State :=
  match s.receive.receiver with
  | .hunt => huntByte b lead stop s
  | .length l => frameByte b lead stop (takeLength l b) s
  | .payload l n got => frameByte b lead stop (takePayload l n got b) s
  | .check l got => frameByte b lead stop (takeCheck l got b) s

/-- A byte on the line. -/
def takeByte (b : Byte) (lead stop : Bool) (s : State) : State := receiverTakes b lead stop (passByte s)

/-- BYTE_TAKEN (R53). -/
def execByteTaken (b : Byte) (lead stop : Bool) (s : State) : Answer := .next (unlessReset (takeByte b lead stop) s)

/-! ## The rows that name what one byte brings about: that byte, where it does (log entry 13) -/

/-- The receiver is within a frame (R53). -/
def Receiver.inFrame : Receiver → Bool
  | .hunt => false
  | .length _ | .payload _ _ _ | .check _ _ => true

/-- The receiver waits for a length byte (R53). -/
def Receiver.inLength : Receiver → Bool
  | .length _ => true
  | .hunt | .payload _ _ _ | .check _ _ => false

/-- The receiver waits for the check byte (R53). -/
def Receiver.inCheck : Receiver → Bool
  | .check _ _ => true
  | .hunt | .length _ | .payload _ _ _ => false

/-- FRAMING_ERROR (R55): a byte with a dominant stop bit in LENGTH, PAYLOAD or CHECK. -/
def execFramingError (b : Byte) (lead : Bool) (s : State) : Answer :=
  .next (unlessReset (whenever (fun x => x.receive.receiver.inFrame) (takeByte b lead false)) s)

/-- TRUNCATED_ERROR (R56): a byte with its lead bit set in LENGTH, PAYLOAD or CHECK. -/
def execTruncatedError (b : Byte) (s : State) : Answer :=
  .next (unlessReset (whenever (fun x => x.receive.receiver.inFrame) (takeByte b true true)) s)

/-- LENGTH_ERROR (R57): a length byte above 72. -/
def execLengthError (b : Byte) (s : State) : Answer :=
  .next (unlessReset (whenever (fun x => x.receive.receiver.inLength && decide (longestPayload < b.toNat))
    (takeByte b false true)) s)

/-- FRAME_COMPLETE (R54): the check byte is taken. -/
def execFrameComplete (b : Byte) (s : State) : Answer :=
  .next (unlessReset (whenever (fun x => x.receive.receiver.inCheck) (takeByte b false true)) s)

/-! ## Getting onto the line (R41, R46) -/

/-- The frame next to be sent: the HALT in the slot, or the head of the normal part (R41). -/
def Transmit.next (t : Transmit) : Option Frame :=
  match t.slot with
  | some f => some f
  | none => t.normal.head?.map TxFrame.frame

/-- The conditions of R46 but for the length of the gap: a frame waits, none is in transmission, the line is idle, the
receive queue is empty, and the station is not silenced. -/
def State.mayBegin (s : State) : Bool :=
  !s.transmit.silenced && decide (s.transmit.onLine = .none) && s.transmit.byte.isNone && s.receive.queue.isEmpty
  && s.transmit.next.isSome

/-- The transmission begins: a HALT leaves the slot, a normal frame keeps its place (3.2). -/
def Transmit.begin (t : Transmit) : Transmit :=
  match t.slot with
  | some f => { t with slot := none, onLine := .halt f, bits := 0 }
  | none => { t with onLine := .normal, bits := 0 }

/-- The line's idle time reaches the gap of the frame next to be sent (R46). -/
def waitGap (s : State) : State := elapseBits ((s.transmit.next.map Frame.gap).getD 0) s.transmit.idle s

/-- The station begins its next frame (R46). -/
def beginFrameOut (s : State) : State := { waitGap s with transmit := (waitGap s).transmit.begin }

/-- TRANSMISSION_START (R46): what is left of the gap passes, and the station begins the frame. -/
def execTransmissionStart (s : State) : Answer := .next (unlessReset (whenever State.mayBegin beginFrameOut) s)

/-! ## The end of a transmission (R47, R52) -/

/-- The frame in transmission (3.2). -/
def Transmit.sending (t : Transmit) : Option Frame :=
  match t.onLine with
  | .none => none
  | .normal => t.normal.head?.map TxFrame.frame
  | .halt f => some f
  | .orphan x => some x.frame

/-- No frame in transmission any more. After a collision `byte` bit-times are gone of the prevailing node's byte (R47); else
the line is idle from the last stop bit (R46). -/
def offLine (byte : Option Nat) (s : State) : State :=
  { s with transmit := { s.transmit with onLine := .none, bits := 0, idle := 0, byte := byte } }

/-- The head of the normal part leaves it. -/
def dropHead (s : State) : State := { s with transmit := { s.transmit with normal := s.transmit.normal.drop 1 } }

/-- A POSITION frame reported sent: the listening begins, or the re-announce hold-off is set to P (R25, R29). -/
def sentPosition (s : State) : State :=
  if s.unit.mode = .announce then
    { s with announce := { s.announce with stage := .listening }, unit := { s.unit with listen := 0 } }
  else if s.announce.reQueued then
    { s with announce := { s.announce with reQueued := false }, unit := { s.unit with holdOff := s.pocketCount } }
  else s

/-- The head that a frame's head field names. -/
def headOf (n : Nat) : Option (Fin 4) := if h : n < 4 then some ⟨n, h⟩ else none

/-- A DRAW-OPEN reported sent (R149). -/
def sentOpen (p : List Byte) (s : State) : State :=
  match headOf (u8 p 0), DrawClass.ofCode (u8 p 1) with
  | some k, some c => openSent k c s
  | _, _ => s

/-- A slot that takes the sent report of the VERDICT frame numbered `ticket`: SENT, verdict-pending cleared; any other
slot is unchanged (R78). -/
def Record.verdictSent (ticket : Nat) (r : Record) : Record :=
  if r.delivery = .queued ∧ r.ticket = some ticket then { r with delivery := .sent, verdictPending := false } else r

/-- A VERDICT reported sent (R52, R78). -/
def sentVerdict (ticket : Nat) (s : State) : State :=
  { s with slots := s.slots.map (Slot.onRecord (Record.verdictSent ticket)) }

/-- The request code of RESTART and the status OK (3.1): the answer that a restart awaits (R190). -/
def restartOk : List Byte := [8, 0]

/-- The frame is the OK answer of a RESTART in progress (R190). -/
def State.restarts (s : State) (f : Frame) : Bool :=
  decide (f.kind = .answer) && decide (f.payload = restartOk) && decide (s.service.request = .restart)

/-- The report of a sent normal frame to its originator (table of R52); a RESTART's stands with `normalSent`. -/
def sentReport (t : TxFrame) (s : State) : State :=
  match t.frame.kind with
  | .position => sentPosition s
  | .drawOpen => sentOpen t.frame.payload s
  | .verdict => sentVerdict t.ticket s
  | .jarIn | .drawClose | .halt | .resume | .ask | .answer | .other _ => s

/-- A normal frame sent: it leaves the queue, its originator is told, and the removal is reported (R45, R52); the OK
answer of a RESTART makes the restart (R190). -/
def normalSent (t : TxFrame) (s : State) : State :=
  if s.restarts t.frame then restartReset s else queueRemoval (sentReport t (dropHead (offLine none s)))

/-- A frame sent to its end (R52): a HALT is gone, and so is a frame that an entry to FAULT left behind (R34). -/
def frameSent (s : State) : State :=
  match s.transmit.onLine, s.transmit.normal with
  | .normal, t :: _ => normalSent t s
  | _, _ => offLine none s

/-- What is left of the frame in transmission goes out (R39). -/
def finishBits (s : State) : State := elapseBits ((s.transmit.sending.map Frame.bitTimes).getD 0) s.transmit.bits s

/-- TRANSMISSION_COMPLETE (R52): the rest of the frame is sent, every bit reading back as sent. -/
def execTransmissionComplete (s : State) : Answer :=
  .next (unlessReset (whenever (fun x => decide (x.transmit.onLine ≠ .none)) (fun x => frameSent (finishBits x))) s)

/-! ## Collisions (R47 to R51) -/

/-- The bit at an index of the frame in transmission is a 1: 'A collision can only be a 1 read back as 0' (R47). -/
def State.sendsOne (s : State) (bit : Nat) : Bool :=
  match s.transmit.sending with
  | some f => decide (f.bits[bit]? = some true)
  | none => false

/-- The head of the normal part replaced. -/
def putHead (t : TxFrame) (s : State) : State :=
  { s with transmit := { s.transmit with normal := t :: s.transmit.normal.drop 1 } }

/-- The collision count one higher (R47, R48). -/
def TxFrame.collided (t : TxFrame) : TxFrame := { t with collisions := t.collisions + 1 }

/-- The conflict mark of a POSITION frame set (R26). -/
def TxFrame.marked (g : Nat) (t : TxFrame) : TxFrame :=
  { t with frame := { t.frame with payload := t.frame.payload.set 4 (byte g) } }

/-- The collisions of one frame at which the line interface reports the fault LINE (R48). -/
def collisionLimit : Nat := 4

/-- A collision of a frame that R51 does not decide: it stays at the head with its count, and its fourth collision is the
fault LINE (R48). -/
def countedCollision (t : TxFrame) (s : State) : State :=
  if collisionLimit ≤ t.collisions + 1 then faultOfLine (putHead t.collided s) else putHead t.collided s

/-- A collision of a POSITION frame in ANNOUNCE, by the announce stage (R26). -/
def announceCollision (t : TxFrame) (s : State) : State :=
  match s.announce.stage with
  | .queued =>
    putHead (t.collided.marked (s.unit.g.getD 0)) { s with announce := { s.announce with stage := .retry } }
  | .retry => enterFault .conflict (putHead t.collided s)
  | .none | .waiting | .listening => countedCollision t s

/-- A re-announcement that collides is removed and not retried (R29, R51). -/
def reannounceCollision (s : State) : State :=
  queueRemoval (dropHead { s with announce := { s.announce with reQueued := false } })

/-- A collision of the normal frame `t`, no longer in transmission (R48, R51). -/
def normalCollision (t : TxFrame) (s : State) : State :=
  match t.frame.kind, s.unit.mode with
  | .position, .announce => announceCollision t s
  | .position, .run => reannounceCollision s
  | .position, .stand => reannounceCollision s
  | .position, .safe => reannounceCollision s
  | _, _ => countedCollision t s

/-- A collided HALT returns to an empty slot or replaces a weaker HALT there; one of equal or greater severity in the slot
discards it (R50; log entry 16). -/
def returnHalt (f : Frame) (s : State) : State :=
  { s with transmit := { s.transmit with
      slot := match s.transmit.slot with
        | none => some f
        | some q => if q.severity < f.severity then some f else some q } }

/-- The frame in transmission has collided: nothing more of it is sent, while the frame that prevails goes on (R47); a
HALT returns to its slot (R50), a frame left behind by an entry to FAULT is removed (R64). -/
def frameCollided (bit : Nat) (s : State) : State :=
  let s' := offLine (some (s.transmit.bits - byteTime * (bit / byteTime))) s
  match s.transmit.onLine, s.transmit.normal with
  | .halt f, _ => returnHalt f s'
  | .normal, t :: _ => normalCollision t s'
  | _, _ => s'

/-- The frame that prevails, if the receiver has begun it, is not the station's own (R60). -/
def disown (s : State) : State := { s with receive := { s.receive with own := false } }

/-- COLLISION (R47): the bits up to the one at index `bit` go out, and that one, sent as 1, reads back as 0. -/
def execCollision (bit : Nat) (s : State) : Answer :=
  .next (unlessReset (whenever (fun x => x.sendsOne bit)
    (fun x => frameCollided bit (disown (elapseBits (bit + 1) x.transmit.bits x)))) s)

end Sys2Proof.Machine
end

