-- ==== Sys2Proof/Machine/Frames.lean ====
section
/-! DEFINITION. The rows of the delivered frames POSITION, JAR-IN, DRAW-OPEN, DRAW-CLOSE, HALT and RESUME (R62), and of
the door. -/

namespace Sys2Proof.Machine
open Sys2Proof

/-! ## Delivery (R62) -/

/-- The oldest frame of the receive queue delivered to the owner of its kind: the owner acts, and the frame leaves the
queue. Where the queue is empty or its oldest frame is of another kind, no frame of this kind is delivered. -/
def deliver (kind : Kind) (take : Frame → State → State) (s : State) : State :=
  match s.receive.queue with
  | [] => s
  | f :: rest =>
    if f.kind = kind then take f { s with receive := { s.receive with queue := rest } } else s

/-- A frame whose payload length differs from the length its kind requires is discarded (R62). -/
def needing (n : Nat) (take : Frame → State → State) (f : Frame) (s : State) : State :=
  if f.payload.length = n then take f s else s

/-! ## POSITION -/

/-- The frame's source node or its conflict mark equals g (R27, R29). -/
def State.claimsGroup (s : State) (f : Frame) : Bool :=
  decide (s.unit.g = some f.source) || decide (s.unit.g = some (u8 f.payload 4))

/-- The frame's H, P, Sc or Dc differs from the active profile's (R27, R29). -/
def State.differs (s : State) (f : Frame) : Bool :=
  !(decide (u8 f.payload 0 = s.headCount) && decide (u8 f.payload 1 = s.pocketCount)
    && decide (u8 f.payload 2 = s.capacity .steam) && decide (u8 f.payload 3 = s.capacity .drive))

/-- A POSITION frame in ANNOUNCE (R27). -/
def checkPosition (f : Frame) (s : State) : State :=
  if s.claimsGroup f then enterFault .conflict s
  else if s.differs f then enterFault .mismatch s
  else s

/-- No re-announcement stands in the way of another (R29). -/
def State.mayReannounce (s : State) : Bool :=
  decide (s.unit.holdOff = 0) && !s.announce.rePending && !s.announce.reQueued

/-- A POSITION frame in a running mode (R29). -/
def answerPosition (f : Frame) (s : State) : State :=
  if (s.claimsGroup f || s.differs f) && s.mayReannounce then offerReannouncement s else s

/-- A POSITION frame taken by the mode unit, by the mode (R27, R29). -/
def takePosition (f : Frame) (s : State) : State :=
  match s.unit.mode with
  | .announce => checkPosition f s
  | .run | .stand | .safe => answerPosition f s
  | .start | .learn | .fault => s

/-- POSITION (R27, R29). -/
def execPosition (s : State) : Answer := .next (unlessReset (deliver .position (needing 5 takePosition)) s)

/-! ## JAR-IN (R69 to R71) -/

/-- The head whose pocket a pocket field names: among p0 .. p0 + H − 1 (R69). -/
def State.ownedHead (s : State) (pocket : Nat) : Option (Fin 4) :=
  match s.unit.p0 with
  | none => none
  | some p0 => s.heads.find? (fun k => decide (p0 + k.val = pocket))

/-- The record of an OPEN slot with a JAR-IN's ranged fields; gauge received already set makes it REPLACED (R70, R71). -/
def Record.gauge (recipe : RecipeRef) (p : List Byte) (r : Record) : Record :=
  { r with
    recipe := recipe
    condition := some (conditionOf (u8 p 2))
    fill := fillOf (p.getD 3 0) (u16 p 4)
    headspace := headspaceOf (p.getD 3 0) (u8 p 6)
    gauged := true
    replaced := r.replaced || r.gauged }

/-- The slot that a JAR-IN selects, by its state (R71). -/
def Slot.takeJar (recipe : RecipeRef) (p : List Byte) (x : Slot) : Slot :=
  match x.state with
  | .opened => { x with record := x.record.gauge recipe p }
  | .bound => { x with record := { x.record with lateData := true } }
  | .idle | .settled => x

/-- A JAR-IN taken by the pocket records (R69, R71). -/
def takeJarIn (f : Frame) (s : State) : State :=
  if s.unit.mode.running then
    match s.ownedHead (u8 f.payload 0) with
    | some k => modSlot k (Slot.takeJar (s.recipeRef (u8 f.payload 1)) f.payload) s
    | none => s
  else s

/-- JAR_IN (R69). -/
def execJarIn (s : State) : Answer := .next (unlessReset (deliver .jarIn (needing 7 takeJarIn)) s)

/-! ## DRAW-OPEN and DRAW-CLOSE (R135 to R137) -/

/-- The bound of the view table (R134). -/
def viewBound : Nat := 32

/-- The key of an entry: source group, head and class (R136). -/
def ViewEntry.hasKey (group head : Nat) (c : DrawClass) (e : ViewEntry) : Bool :=
  decide (e.group = group) && decide (e.head = head) && decide (e.cls = c)

/-- The entry that a DRAW-OPEN records, its units and life brought into range (R135). -/
def entryOf (f : Frame) (c : DrawClass) : ViewEntry :=
  ⟨f.source, u8 f.payload 0, c, min 3 (u8 f.payload 2), clamp 1 48 (u8 f.payload 3)⟩

/-- The view's entries changed by `g`. -/
def modEntries (g : List ViewEntry → List ViewEntry) (s : State) : State :=
  { s with view := { s.view with entries := g s.view.entries } }

/-- An entry in place of the one with its key. -/
def replaceEntry (e : ViewEntry) (l : List ViewEntry) : List ViewEntry :=
  l.map (fun x => if x.hasKey e.group e.head e.cls then e else x)

/-- An entry recorded: replaced in its place, placed at the tail, or not recorded, when doubt begins (R136); a view change
brings the withdrawal check and the arbiter's run (R134). -/
def recordDraw (e : ViewEntry) (s : State) : State :=
  if s.view.entries.any (ViewEntry.hasKey e.group e.head e.cls) then checkAndRun e.cls (modEntries (replaceEntry e) s)
  else if s.view.entries.length < viewBound then checkAndRun e.cls (modEntries (· ++ [e]) s)
  else doubtBegins s

/-- A DRAW-OPEN of 4 bytes in a mode that keeps the view, by the first test of R135 that applies. -/
def testOpen (f : Frame) (s : State) : State :=
  if within 12 14 f.source then s
  else if s.unit.g = some f.source then enterFault .duplicate s
  else if s.headCount ≤ u8 f.payload 0 then s
  else match DrawClass.ofCode (u8 f.payload 1) with
    | none => s
    | some c => if u8 f.payload 2 = 0 then s else recordDraw (entryOf f c) s

/-- A DRAW-OPEN taken by the draw unit (R134, R135). -/
def takeDrawOpen (f : Frame) (s : State) : State := if s.unit.mode.keepsView then testOpen f s else s

/-- DRAW_OPEN (R135). -/
def execDrawOpen (s : State) : Answer := .next (unlessReset (deliver .drawOpen (needing 4 takeDrawOpen)) s)

/-- The entry of a key removed, a view change where the table holds it (R134, R137). -/
def removeEntry (group head : Nat) (c : DrawClass) (s : State) : State :=
  if s.view.entries.any (ViewEntry.hasKey group head c) then
    checkAndRun c (modEntries (List.filter (fun e => !e.hasKey group head c)) s)
  else s

/-- A DRAW-CLOSE of 2 bytes taken by the draw unit (R137). -/
def takeDrawClose (f : Frame) (s : State) : State :=
  if s.unit.mode.keepsView && !within 12 14 f.source && decide (s.unit.g ≠ some f.source) then
    match DrawClass.ofCode (u8 f.payload 1) with
    | some c => removeEntry f.source (u8 f.payload 0) c s
    | none => s
  else s

/-- DRAW_CLOSE (R137). -/
def execDrawClose (s : State) : Answer := .next (unlessReset (deliver .drawClose (needing 2 takeDrawClose)) s)

/-! ## HALT and RESUME (R30 to R32) -/

def setHeld (h : HeldMark) (s : State) : State := { s with unit := { s.unit with held := h } }

/-- The held mark after a HALT (R30). -/
def HeldMark.halted (trip : Bool) (h : HeldMark) : HeldMark :=
  if trip then .trip else if h = .clear then .stop else h

/-- A HALT taken by the mode unit, by the mode (R30, R31). -/
def haltMode (trip : Bool) (s : State) : State :=
  match s.unit.mode with
  | .start | .learn | .announce => setHeld (s.unit.held.halted trip) s
  | .run => if trip then enterSafe s else enterStand s
  | .stand => if trip then enterSafe s else s
  | .safe | .fault => s

/-- A good HALT; each HALT TRIP is reported to the service unit, whose forced run ends (R30, R31, R189). -/
def takeHalt (f : Frame) (s : State) : State :=
  if f.isGoodHalt then
    if f.severity = haltTrip then haltMode true (endForcedRun s) else haltMode false s
  else s

/-- HALT (R30, R31). -/
def execHalt (s : State) : Answer := .next (unlessReset (deliver .halt takeHalt) s)

/-- A RESUME taken with GUARD closed, by the mode (R30, R32). -/
def resumeMode (s : State) : State :=
  match s.unit.mode with
  | .start | .learn | .announce => setHeld .clear s
  | .stand | .safe => enterRun s
  | .run | .fault => s

/-- A RESUME: ignored while GUARD is open (R30, R32). -/
def takeResume (_f : Frame) (s : State) : State := if s.pins.guardOpen then s else resumeMode s

/-- RESUME (R30, R32). -/
def execResume (s : State) : Answer := .next (unlessReset (deliver .resume (needing 0 takeResume)) s)

/-! ## The door (R30, R33, R125) -/

def setGuard (b : Bool) (s : State) : State := { s with pins := { s.pins with guardOpen := b } }

/-- Every channel trips with GUARD, on its own sight of the line (R125), the channels with a running phase in a free order
(log entry 4). -/
def guardTrips (s : State) : State :=
  (s.headOrder (fun k => (s.channels.get k).phaseRuns)).foldl (tripHalt .guard) (consulted s)

/-- The HALT TRIP of an opening (R33). -/
def offerGuardHalt (s : State) : State := offerHalt haltTrip guardCause s

/-- The mode unit at an opening, by the mode (R30, R33). -/
def guardMode (s : State) : State :=
  match s.unit.mode with
  | .start | .learn => setHeld .trip s
  | .announce => offerGuardHalt (setHeld .trip s)
  | .run | .stand => enterSafe (offerGuardHalt s)
  | .safe => offerGuardHalt s
  | .fault => s

/-- GUARD opens: a forced run ends (R189), the channels trip (R125), the mode unit acts (R33). -/
def openGuard (s : State) : State := guardMode (guardTrips (endForcedByGuard (setGuard true s)))

/-- GUARD_OPENS (R33): the closed GUARD line opens. -/
def execGuardOpens (s : State) : Answer := .next (unlessReset (whenever (fun x => !x.pins.guardOpen) openGuard) s)

/-- GUARD_CLOSES (R30): 'GUARD closing changes nothing' but the level that a RESUME and a FORCE-OUTPUT read. -/
def execGuardCloses (s : State) : Answer := .next (unlessReset (setGuard false) s)

end Sys2Proof.Machine
end

