-- ==== Sys2Proof/Machine/Ticks.lean ====
section
/-! DEFINITION. The rows that come on a head's or a channel's own time: flush ticks, seat samples, torque steps, the
overcurrent comparator, the end of a forced run and the PWM period (Chapters 5 and 6). -/

namespace Sys2Proof.Machine
open Sys2Proof

/-! ## The next millisecond of a head or a channel (log entry 9) -/

/-- What is left of the millisecond passes, and the count of the next one begins. -/
def nextTick (k : Fin 4) (s : State) : State :=
  modEngine k (fun x => { x with ms := x.ms - msSteps }) (elapse (msSteps - (s.engines.get k).ms) s)

/-- What is left of the channel's millisecond passes; its step begins the next one. -/
def nextStep (k : Fin 4) (s : State) : State := elapse (msSteps - (s.channels.get k).ms) s

/-! ## Flush ticks (R92) -/

/-- U_steam exceeds Sc (R92). -/
def State.overSubscribed (s : State) : Bool := decide (s.capacity .steam < s.shareOf .steam)

/-- The record at a flush tick: the gain added, the shared mark set when over-subscribed (R92). -/
def Record.flushed (gain : Nat) (shared : Bool) (r : Record) : Record :=
  { r with fEff := r.fEff + gain, shared := r.shared || shared }

/-- F_eff has reached F_req (R92). -/
def State.flushComplete (s : State) (k : Fin 4) : Bool :=
  decide ((s.slots.get k).record.fReq ≤ (s.slots.get k).record.fEff)

/-- A flush tick taken (R92, R93). -/
def takeFlushTick (k : Fin 4) (s : State) : State :=
  let s' := writeRecord k (Record.flushed s.steamGain s.overSubscribed) s
  if s'.flushComplete k then endFlush k .complete s' else s'

/-- Head `k` is in a state. -/
def State.inPhase (s : State) (k : Fin 4) (p : Phase) : Bool := decide ((s.engines.get k).phase = p)

/-- FLUSH_TICK (R92). -/
def execFlushTick (k : Fin 4) (s : State) : Answer :=
  .next (unlessReset (whenever (fun x => x.inPhase k .flush) (fun x => takeFlushTick k (nextTick k x))) s)

/-! ## Seat samples (R95 to R97) -/

def setSeat (k : Fin 4) (seated : Bool) (s : State) : State :=
  { s with pins := { s.pins with heads := s.pins.heads.modify k (fun x => { x with seat := seated }) } }

/-- The window ends with the cap seated (R95, R97). -/
def seatFound (k : Fin 4) (s : State) : State :=
  decideDrive k (writeRecord k (fun r => { r with seat := .seated }) s)

/-- The window ends with the cap not seated (R96). -/
def seatMissed (k : Fin 4) (s : State) : State :=
  toDwell k (addReason k .seat (writeRecord k (fun r => { r with seat := .notSeated }) s))

/-- The samples have reached the recipe's seat window (R95). -/
def State.windowOver (s : State) (k : Fin 4) : Bool :=
  decide ((s.boundRecipe k).seatWindow ≤ (s.engines.get k).samples)

/-- A seat sample taken: counted, then SEATk read (R95). -/
def takeSeatSample (k : Fin 4) (s : State) : State :=
  let s' := modEngine k (fun x => { x with samples := x.samples + 1 }) s
  if (s'.pins.heads.get k).seat then seatFound k s'
  else if s'.windowOver k then seatMissed k s' else s'

/-- A seat sample with the level of SEATk. -/
def seatSample (k : Fin 4) (seated : Bool) (s : State) : State := takeSeatSample k (nextTick k (setSeat k seated s))

/-- SEAT_SAMPLE (R95). -/
def execSeatSample (k : Fin 4) (seated : Bool) (s : State) : Answer :=
  .next (unlessReset (whenever (fun x => x.inPhase k .seat) (seatSample k seated)) s)

/-- The next sample of head `k` is the last of its window (R95). -/
def State.lastSample (s : State) (k : Fin 4) : Bool :=
  s.inPhase k .seat && decide ((s.boundRecipe k).seatWindow ≤ (s.engines.get k).samples + 1)

/-- SEAT_WINDOW_END (R96): the last sample of the window, and it reads not seated (log entry 13). -/
def execSeatWindowEnd (k : Fin 4) (s : State) : Answer :=
  .next (unlessReset (whenever (fun x => x.lastSample k) (seatSample k false)) s)

/-! ## Torque steps (R113 to R120) -/

def setTorque (k : Fin 4) (counts : BitVec 12) (s : State) : State :=
  { s with pins := { s.pins with heads := s.pins.heads.modify k (fun x => { x with tq := counts }) } }

/-- The sample of head `k`'s converter (R113). -/
def State.torqueSample (s : State) (k : Fin 4) : Nat :=
  torqueOf (s.profileField (fun p => p.torqueZero k.val)) (s.profileField (fun p => p.torqueGain k.val))
    (s.pins.heads.get k).tq.toNat

/-- The channel's step with its sample and the ceiling of the step (R114, R119). -/
def stepChannel (k : Fin 4) (s : State) : State :=
  modChannel k (Channel.stepOnce (s.boundRecipe k) (s.dutyCeiling (s.boundRecipe k).maxDuty) (s.torqueSample k)) s

/-- What a step ends with: the comparator at an entry to FORWARD (R124), DONE (R117, R118), TIME (R120). -/
def afterStep (k : Fin 4) (wasGap : Bool) (s : State) : State :=
  let s' := if wasGap then watchComparator k s else s
  if (s'.channels.get k).settled (s'.boundRecipe k) then endPhase k .done false Channel.finish s'
  else if (s'.channels.get k).phaseRuns && decide ((s'.boundRecipe k).timeLimit ≤ (s'.channels.get k).steps) then
    endPhase k .time false Channel.finish s'
  else s'

/-- A torque step taken (R114). -/
def takeTorqueStep (k : Fin 4) (s : State) : State :=
  afterStep k (decide ((s.channels.get k).step = .gap)) (stepChannel k s)

/-- A torque step with the reading of TQk. -/
def torqueStep (k : Fin 4) (counts : BitVec 12) (s : State) : State :=
  takeTorqueStep k (nextStep k (setTorque k counts s))

/-- A torque phase of head `k` runs. -/
def State.phaseRuns (s : State) (k : Fin 4) : Bool := (s.channels.get k).phaseRuns

/-- TORQUE_STEP (R114). -/
def execTorqueStep (k : Fin 4) (counts : BitVec 12) (s : State) : Answer :=
  .next (unlessReset (whenever (fun x => x.phaseRuns k) (torqueStep k counts)) s)

/-! ## The rows that name what one torque step brings about: that step, where it does (log entry 13) -/

/-- The next step ends THREAD-FIND (R115). -/
def State.threadFindEnds (s : State) (k : Fin 4) : Bool :=
  decide ((s.channels.get k).step = .threadFind)
  && decide ((s.boundRecipe k).threadFindTime ≤ (s.channels.get k).steps + 1)

/-- THREAD_FIND_END (R115): the step at which the step count reaches t_tf. -/
def execThreadFindEnd (k : Fin 4) (counts : BitVec 12) (s : State) : Answer :=
  .next (unlessReset (whenever (fun x => x.threadFindEnds k) (torqueStep k counts)) s)

/-- The channel is in the step of GAP (R116). -/
def State.inGap (s : State) (k : Fin 4) : Bool := decide ((s.channels.get k).step = .gap)

/-- GAP_END (R116): the step of GAP. -/
def execGapEnd (k : Fin 4) (counts : BitVec 12) (s : State) : Answer :=
  .next (unlessReset (whenever (fun x => x.inGap k) (torqueStep k counts)) s)

/-- The next step is the one of the time limit, and it does not end with DONE (R120). -/
def State.timeEnds (s : State) (k : Fin 4) (counts : BitVec 12) : Bool :=
  s.phaseRuns k && decide ((s.boundRecipe k).timeLimit ≤ (s.channels.get k).steps + 1)
  && !((stepChannel k (setTorque k counts s)).channels.get k).settled (s.boundRecipe k)

/-- TORQUE_TIME_LIMIT (R120): the step at which the step count equals the limit, the phase not ended at it. -/
def execTorqueTimeLimit (k : Fin 4) (counts : BitVec 12) (s : State) : Answer :=
  .next (unlessReset (whenever (fun x => x.timeEnds k counts) (torqueStep k counts)) s)

/-! ## Overcurrent (R124) -/

def setOvercurrent (k : Fin 4) (active : Bool) (s : State) : State :=
  { s with pins := { s.pins with heads := s.pins.heads.modify k (fun x => { x with oc := active }) } }

/-- OVERCURRENT_TRIP (R124): OCk becomes active; 'An active input in OFF, GAP or TRIPPED does not trip the channel'. -/
def execOvercurrentTrip (k : Fin 4) (s : State) : Answer :=
  .next (unlessReset (fun x => tripOvercurrent k (setOvercurrent k true x)) s)

/-! ## The end of a forced run (R189) -/

/-- FORCED_RUN_END (R189): what is left of the run's time passes, and the run ends by time. -/
def execForcedRunEnd (s : State) : Answer :=
  .next (unlessReset (fun x =>
    match x.service.forced with
    | none => x
    | some r => endForcedRun (elapse r.left x)) s)

/-! ## The PWM period (R110) -/

/-- What is left of the PWM period passes. -/
def finishPeriod (s : State) : State := elapse (pwmSteps - s.pwm) s

/-- The next period begins for every channel (R110). -/
def startPeriod (s : State) : State :=
  { s with pwm := s.pwm % pwmSteps, channels := s.channels.map Channel.periodStart }

/-- PWM_PERIOD_START (R110). -/
def execPwmPeriodStart (s : State) : Answer := .next (unlessReset (fun x => startPeriod (finishPeriod x)) s)

end Sys2Proof.Machine
end

