-- ==== Sys2Proof/Machine/Service.lean ====
section
/-! DEFINITION. The rows of the service unit: the delivered SERVICE-ASK by its request code, and the completion of a store
write (Chapters 9 and 10). -/

namespace Sys2Proof.Machine
open Sys2Proof

/-! ## Answers (R181) -/

/-- The status of an answer (3.1). -/
inductive Status where
  | ok | busy | refusedMode | badArgs | noSuch
deriving DecidableEq, Repr

def Status.code : Status → Nat
  | .ok => 0 | .busy => 1 | .refusedMode => 2 | .badArgs => 3 | .noSuch => 4

/-- The payload of an answer: request code, status, data (3.1). -/
def answerPayload (code : Nat) (status : Status) (data : List Byte) : List Byte :=
  [byte code, byte status.code] ++ data

/-- An answer offered once: refused, it is dropped (R181). -/
def answer (code : Nat) (status : Status) (data : List Byte) (s : State) : State :=
  if s.accepts .answer (answerPayload code status data) then enqueue .answer (answerPayload code status data) s else s

/-- An answer with a status other than OK carries no data (R181). -/
def refuse (code : Nat) (status : Status) (s : State) : State := answer code status [] s

/-! ## Taking an ask (R181, R182) -/

/-- The request codes (3.1). -/
def codeReadState : Nat := 1
def codeReadPocket : Nat := 2
def codeReadView : Nat := 3
def codeReadRecord : Nat := 4
def codeWriteRecord : Nat := 5
def codeClearHead : Nat := 6
def codeForceOutput : Nat := 7
def codeRestart : Nat := 8

/-- A code that names a request, 01H .. 08H (R181). -/
def knownCode (code : Nat) : Bool := within 1 8 code

/-- The request code of an ask (3.1). -/
def Frame.code (f : Frame) : Nat := u8 f.payload 1

/-- The arguments of an ask (3.1). -/
def Frame.args (f : Frame) : List Byte := f.payload.drop 2

/-- The oldest frame of the receive queue, where it is an ask whose code `mine` accepts, delivered to the service unit. A
silenced station discards it at its delivery (R63). -/
def deliverAsk (mine : Nat → Bool) (serve : Frame → State → State) (s : State) : State :=
  match s.receive.queue with
  | [] => s
  | f :: rest =>
    if f.kind = .ask ∧ mine f.code then
      if s.transmit.silenced then { s with receive := { s.receive with queue := rest } }
      else serve f { s with receive := { s.receive with queue := rest } }
    else s

/-- An ask of a known code decided by the cases 1, 3 and 4 or 5 of R181: BUSY while a request is in progress, REFUSED_MODE
where the mode does not allow it (10.3), and then by the request. -/
def decideAsk (allowed : State → Bool) (carry : List Byte → State → State) (f : Frame) (s : State) : State :=
  if s.service.request ≠ .none then refuse f.code .busy s
  else if !allowed s then refuse f.code .refusedMode s
  else carry f.args s

/-- A delivered request of one code. -/
def request (code : Nat) (allowed : State → Bool) (carry : List Byte → State → State) (s : State) : Answer :=
  .next (unlessReset (deliverAsk (fun c => decide (c = code)) (decideAsk allowed carry)) s)

/-- A request that every mode allows (10.3). -/
def anyMode (_s : State) : Bool := true

/-! ## READ-STATE (R183) -/

/-- The trip causes and the out mark as bits 0, 1, 2 and 7 (10.2). -/
def causeBits (c : Causes) (out : Bool) : Nat :=
  flagBits [c.overcurrent, c.guard, c.safe, false, false, false, false, out]

/-- The eight bytes of a head (10.2). -/
def headBytes (s : State) (k : Fin 4) : List Byte :=
  if s.hasHead k then
    let x := s.engines.get k
    let c := s.channels.get k
    let d := s.draws.get k
    [byte x.phase.code, byte c.state.code, byte (causeBits c.causes x.out), byte c.count, byte d.status.code,
      optByte (d.terms.map (fun a => a.cls.code)), optByte (d.terms.map Ask.units), byte d.openFrame.code]
  else List.replicate 8 255

/-- Bytes 0 .. 17 of the answer: mode, fault, position and turret (10.2). -/
def stationBytes (s : State) : List Byte :=
  [byte s.unit.mode.code, byte s.unit.fault.code, byte s.unit.causeKind.code, byte s.unit.causeFault.code,
    byte s.unit.held.code, optByte s.unit.g, optByte s.unit.p0, byte s.unit.node, byte s.headCount, byte s.pocketCount,
    byte (s.capacity .steam), byte (s.capacity .drive), byte s.tracker.motion.code, flagByte s.tracker.valid,
    byte s.tracker.c] ++ le16 (if s.tracker.measured then s.tracker.l else 0) ++ [byte s.tracker.phi]

/-- Bytes 18 .. 35 of the answer: view, settings, line and forced run (10.2). -/
def unitBytes (s : State) : List Byte :=
  [flagByte s.view.doubt, byte s.view.clean, byte (s.shareOf .steam), byte (s.pendOf .steam), byte (s.roomOf .steam),
    byte (s.shareOf .drive), byte (s.pendOf .drive), byte (s.roomOf .drive), byte s.view.entries.length,
    byte (flagBits s.settings.usable), flagByte s.settings.good, byte s.receive.errors.check,
    byte s.receive.errors.framing, byte s.receive.errors.truncated, byte s.receive.errors.length,
    byte s.receive.errors.overrun, optByte (s.service.forced.map (fun r => r.head.val)),
    optByte (s.service.forced.map (fun r => r.output.code))]

/-- The 68 bytes of READ-STATE (10.2). -/
def stateBytes (s : State) : List Byte :=
  stationBytes s ++ unitBytes s ++ headBytes s 0 ++ headBytes s 1 ++ headBytes s 2 ++ headBytes s 3

/-- A READ-STATE carried out (R183). -/
def carryReadState (args : List Byte) (s : State) : State :=
  if args.length ≠ 0 then refuse codeReadState .badArgs s else answer codeReadState .ok (stateBytes s) s

/-- READ_STATE (R183). -/
def execReadState (s : State) : Answer := request codeReadState anyMode carryReadState s

/-! ## READ-POCKET (R184) -/

/-- The recipe field: 0FEH absent, 0FFH unusable (10.2). -/
def RecipeRef.code : RecipeRef → Nat
  | .absent => 254 | .unusable => 255 | .number n => n

/-- The flags at offset 9 (10.2). -/
def Record.markBits (r : Record) : Nat :=
  flagBits [r.lateData, r.replaced, r.passed, r.forcedSteam, r.forcedDrive, r.shared, r.verdictPending]

/-- The 30 bytes of READ-POCKET (10.2). -/
def pocketBytes (s : State) (k : Fin 4) : List Byte :=
  let x := s.slots.get k
  let r := x.record
  [byte k.val, optByte x.pocket, byte x.state.code, flagByte r.gauged, byte r.recipe.code,
    optByte (r.condition.map Condition.code)] ++ optWord r.fill ++ [byte (r.headspace.getD 0), byte r.markBits,
    byte r.cap.code] ++ le24 r.fReq ++ le24 r.fEff ++ [byte r.flushEnd.code, byte r.seat.code] ++ le16 r.tauFinal
    ++ le16 r.tauPeak ++ [byte r.torqueEnd.code] ++ le16 r.reasons.bits ++ [optByte (r.verdict.map Verdict.code)]
    ++ le16 r.v ++ [byte r.delivery.code]

/-- The head that an argument names, among 0 .. H − 1 (R184, R187, R188). -/
def State.headArg (s : State) (n : Nat) : Option (Fin 4) := s.heads.find? (fun k => decide (k.val = n))

/-- A READ-POCKET carried out (R184). -/
def carryReadPocket (args : List Byte) (s : State) : State :=
  if args.length ≠ 1 then refuse codeReadPocket .badArgs s
  else match s.headArg (u8 args 0) with
    | none => refuse codeReadPocket .noSuch s
    | some k => answer codeReadPocket .ok (pocketBytes s k) s

/-- READ_POCKET (R184). -/
def execReadPocket (s : State) : Answer := request codeReadPocket anyMode carryReadPocket s

/-! ## READ-VIEW (R185) -/

/-- The entries that one answer returns at most (R185). -/
def viewPage : Nat := 12

/-- The five bytes of an entry (10.2). -/
def ViewEntry.bytes (e : ViewEntry) : List Byte :=
  [byte e.group, byte e.head, byte e.cls.code, byte e.units, byte e.life]

/-- The entries from a start index onward, at most 12 (R185). -/
def State.page (s : State) (start : Nat) : List ViewEntry := (s.view.entries.drop start).take viewPage

/-- The data of READ-VIEW (10.2). -/
def viewBytes (s : State) (start : Nat) : List Byte :=
  [byte s.view.entries.length, byte start, byte (s.page start).length] ++ ((s.page start).map ViewEntry.bytes).flatten

/-- A READ-VIEW carried out (R185). -/
def carryReadView (args : List Byte) (s : State) : State :=
  if args.length ≠ 1 ∨ s.view.entries.length < u8 args 0 then refuse codeReadView .badArgs s
  else answer codeReadView .ok (viewBytes s (u8 args 0)) s

/-- READ_VIEW (R185). -/
def execReadView (s : State) : Answer := request codeReadView anyMode carryReadView s

/-! ## READ-RECORD (R186) -/

/-- The active copy's bytes; before the load completes, all 0 (R186). -/
def State.activeBytes (s : State) (number : Nat) : List Byte :=
  let copy := if number = 0 then s.settings.profile else s.recipe (number - 1)
  if copy.isEmpty then List.replicate (recordBytes number) 0 else copy

/-- The active copy's condition (R186). -/
def State.activeGood (s : State) (number : Nat) : Bool :=
  if number = 0 then s.settings.good else s.usable (number - 1)

/-- The data of READ-RECORD: copy, number, condition, bytes (R186). -/
def recordData (s : State) (copy number : Nat) : List Byte :=
  if copy = 0 then
    [0, byte number, flagByte (goodSum (storedRecord s.settings.store number))] ++ storedRecord s.settings.store number
  else [1, byte number, flagByte (s.activeGood number)] ++ s.activeBytes number

/-- The greatest record number (9.4). -/
def lastRecord : Nat := 8

/-- A READ-RECORD carried out (R186). -/
def carryReadRecord (args : List Byte) (s : State) : State :=
  if args.length ≠ 2 ∨ 1 < u8 args 0 then refuse codeReadRecord .badArgs s
  else if lastRecord < u8 args 1 then refuse codeReadRecord .noSuch s
  else answer codeReadRecord .ok (recordData s (u8 args 0) (u8 args 1)) s

/-- READ_RECORD (R186). -/
def execReadRecord (s : State) : Answer := request codeReadRecord anyMode carryReadRecord s

/-! ## WRITE-RECORD (R178, R179) -/

/-- The modes that allow a WRITE-RECORD (10.3). -/
def writeMode (s : State) : Bool :=
  match s.unit.mode with
  | .learn | .announce | .safe | .fault => true
  | .start | .run | .stand => false

/-- The field checks of a record to be written: a recipe against the active profile when that is good, else by its own
order alone (R178). -/
def State.writableFields (s : State) (number : Nat) (r : List Byte) : Bool :=
  if number = 0 then Profile.fieldsOk r
  else Recipe.fieldsOk r && (!s.settings.good || Recipe.orderAgainst s.settings.profile r)

/-- The 6 ms of a store write in time base steps (R179). -/
def writeSteps : Nat := 600

/-- A write begins (R179, R182). The store keeps the old bytes until the completion (log entry 36). -/
def beginWrite (number : Nat) (r : List Byte) (s : State) : State :=
  { s with service := { s.service with request := .write, write := some ⟨number, r, writeSteps⟩ } }

/-- A record number and a record, by the cases of R178 (R186: 'An ask with no argument byte is answered BAD_ARGS'). -/
def carryWriteRecord (args : List Byte) (s : State) : State :=
  match args with
  | [] => refuse codeWriteRecord .badArgs s
  | b :: r =>
    if lastRecord < b.toNat then refuse codeWriteRecord .noSuch s
    else if r.length ≠ recordBytes b.toNat ∨ ¬goodSum r ∨ ¬s.writableFields b.toNat r then
      refuse codeWriteRecord .badArgs s
    else beginWrite b.toNat r s

/-- WRITE_RECORD (R178). -/
def execWriteRecord (s : State) : Answer := request codeWriteRecord writeMode carryWriteRecord s

/-- The stored record holds the new bytes, and no request is in progress (R179). -/
def writeStored (w : StoreWrite) (s : State) : State :=
  { s with
    settings := { s.settings with store := Store.writeBytes s.settings.store (recordAddress w.number) w.bytes }
    service := { s.service with request := .none, write := none } }

/-- STORE_WRITE_COMPLETION (R179): what is left of the 6 ms passes, the record is stored and the OK answer offered. -/
def execStoreWriteCompletion (s : State) : Answer :=
  .next (unlessReset (fun x =>
    match x.service.write with
    | none => x
    | some w => answer codeWriteRecord .ok [byte w.number] (writeStored w (elapse w.left x))) s)

/-! ## CLEAR-HEAD (R187) -/

/-- A head cleared: OUT becomes IDLE, and an out mark is cleared (R187). -/
def Engine.cleared (x : Engine) : Engine := { x with phase := if x.phase = .out then .idle else x.phase, out := false }

/-- Head `k` and its channel's count cleared (R130, R187). -/
def clearHead (k : Fin 4) (s : State) : State :=
  modChannel k (fun c => { c with count := 0 }) (modEngine k Engine.cleared s)

/-- The data of CLEAR-HEAD: head, head state and count after the request (10.2). -/
def clearedBytes (s : State) (k : Fin 4) : List Byte :=
  [byte k.val, byte (s.engines.get k).phase.code, byte (s.channels.get k).count]

/-- A CLEAR-HEAD carried out (R187). -/
def carryClearHead (args : List Byte) (s : State) : State :=
  if args.length ≠ 1 then refuse codeClearHead .badArgs s
  else match s.headArg (u8 args 0) with
    | none => refuse codeClearHead .noSuch s
    | some k => answer codeClearHead .ok (clearedBytes (clearHead k s) k) (clearHead k s)

/-- CLEAR_HEAD (R187). -/
def execClearHead (s : State) : Answer := request codeClearHead (fun x => x.unit.mode.running) carryClearHead s

/-! ## FORCE-OUTPUT (R188) -/

/-- SAFE with GUARD closed (10.3). -/
def forceMode (s : State) : Bool := decide (s.unit.mode = .safe) && !s.pins.guardOpen

/-- The longest forced run in ms (R188). -/
def longestRun : Nat := 2000

/-- The output of a forced run switched on (R131, R188); a comparator active at the entry to FORWARD trips the channel
(R124). -/
def startOutput (k : Fin 4) (o : Output) (duty : Nat) (s : State) : State :=
  match o with
  | .steam => modEngine k (fun x => { x with steam := true }) s
  | .press => modEngine k (fun x => { x with press := true }) s
  | .drive => watchComparator k (modChannel k (fun c => { c with state := .forward, duty := duty }) s)

/-- A forced run begins (R188). -/
def startForced (k : Fin 4) (o : Output) (duty ms : Nat) (s : State) : State :=
  startOutput k o duty { s with service := { s.service with forced := some ⟨k, o, duty, msSteps * ms⟩ } }

/-- The argument cases of a FORCE-OUTPUT on a head that the station has, from the forced run in force onward (R188). -/
def tryForced (k : Fin 4) (o : Output) (duty ms : Nat) (s : State) : State :=
  if s.service.forced.isSome then refuse codeForceOutput .busy s
  else if (s.engines.get k).inClosure then refuse codeForceOutput .busy s
  else if o = .drive ∧ (s.channels.get k).causes.overcurrent then refuse codeForceOutput .refusedMode s
  else answer codeForceOutput .ok [] (startForced k o duty ms s)

/-- A FORCE-OUTPUT carried out (R188). -/
def carryForceOutput (args : List Byte) (s : State) : State :=
  if args.length ≠ 5 then refuse codeForceOutput .badArgs s
  else match s.headArg (u8 args 0) with
    | none => refuse codeForceOutput .noSuch s
    | some k =>
      match Output.ofCode (u8 args 1) with
      | none => refuse codeForceOutput .badArgs s
      | some o =>
        if within 1 longestRun (u16 args 3) then tryForced k o (u8 args 2) (u16 args 3) s
        else refuse codeForceOutput .badArgs s

/-- FORCE_OUTPUT (R188). -/
def execForceOutput (s : State) : Answer := request codeForceOutput forceMode carryForceOutput s

/-! ## RESTART (R190) and unknown codes (R181) -/

/-- A RESTART carried out: in progress while its OK answer is in the queue; dropped by a full queue, it is not made
(R190). -/
def carryRestart (args : List Byte) (s : State) : State :=
  if args.length ≠ 0 then refuse codeRestart .badArgs s
  else if s.accepts .answer restartOk then
    let s' := enqueue .answer restartOk s
    { s' with service := { s'.service with request := .restart } }
  else s

/-- RESTART (R190). -/
def execRestart (s : State) : Answer := request codeRestart anyMode carryRestart s

/-- An ask with a code that names no request: BUSY while a request is in progress, else NO_SUCH (R181). -/
def refuseUnknown (f : Frame) (s : State) : State :=
  if s.service.request ≠ .none then refuse f.code .busy s else refuse f.code .noSuch s

/-- UNKNOWN_REQUEST (R181). -/
def execUnknownRequest (s : State) : Answer :=
  .next (unlessReset (deliverAsk (fun c => !knownCode c) refuseUnknown) s)

end Sys2Proof.Machine
end

