-- ==== Sys2Proof/Machine/Dispatch.lean ====
section
/-! DEFINITION. The meaning of every command: one arm for each row of spec/opcode_table.json. -/

namespace Sys2Proof.Machine
open Sys2Proof

def exec (i : Instr) (s : State) : Host.Outcome State Fault Refusal :=
  match i with
  | .powerReset => Sys2Proof.Machine.execPowerReset s
  | .pinReset => Sys2Proof.Machine.execPinReset s
  | .resetEnd guardOpen => Sys2Proof.Machine.execResetEnd guardOpen s
  | .loadComplete => Sys2Proof.Machine.execLoadComplete s
  | .pitchPulse dt pins => Sys2Proof.Machine.execPitchPulse dt pins s
  | .zeroPulse dt pins => Sys2Proof.Machine.execZeroPulse dt pins s
  | .eSaturation => Sys2Proof.Machine.execESaturation s
  | .stall => Sys2Proof.Machine.execStall s
  | .thresholdReached k pins => Sys2Proof.Machine.execThresholdReached k pins s
  | .markEdge dt => Sys2Proof.Machine.execMarkEdge dt s
  | .noMark dt pins => Sys2Proof.Machine.execNoMark dt pins s
  | .listeningComplete dt pins => Sys2Proof.Machine.execListeningComplete dt pins s
  | .reAnnounceHoldOffEnd dt pins => Sys2Proof.Machine.execReAnnounceHoldOffEnd dt pins s
  | .position => Sys2Proof.Machine.execPosition s
  | .jarIn => Sys2Proof.Machine.execJarIn s
  | .drawOpen => Sys2Proof.Machine.execDrawOpen s
  | .drawClose => Sys2Proof.Machine.execDrawClose s
  | .halt => Sys2Proof.Machine.execHalt s
  | .resume => Sys2Proof.Machine.execResume s
  | .guardOpens => Sys2Proof.Machine.execGuardOpens s
  | .guardCloses => Sys2Proof.Machine.execGuardCloses s
  | .framingError b lead => Sys2Proof.Machine.execFramingError b lead s
  | .truncatedError b => Sys2Proof.Machine.execTruncatedError b s
  | .lengthError b => Sys2Proof.Machine.execLengthError b s
  | .frameComplete b => Sys2Proof.Machine.execFrameComplete b s
  | .transmissionStart => Sys2Proof.Machine.execTransmissionStart s
  | .transmissionComplete => Sys2Proof.Machine.execTransmissionComplete s
  | .collision bit => Sys2Proof.Machine.execCollision bit s
  | .doubtEnd dt pins => Sys2Proof.Machine.execDoubtEnd dt pins s
  | .viewEntryExpiry dt pins => Sys2Proof.Machine.execViewEntryExpiry dt pins s
  | .closeCountdownEnd dt pins => Sys2Proof.Machine.execCloseCountdownEnd dt pins s
  | .flushTick k => Sys2Proof.Machine.execFlushTick k s
  | .seatSample k seated => Sys2Proof.Machine.execSeatSample k seated s
  | .seatWindowEnd k => Sys2Proof.Machine.execSeatWindowEnd k s
  | .torqueStep k counts => Sys2Proof.Machine.execTorqueStep k counts s
  | .threadFindEnd k counts => Sys2Proof.Machine.execThreadFindEnd k counts s
  | .gapEnd k counts => Sys2Proof.Machine.execGapEnd k counts s
  | .torqueTimeLimit k counts => Sys2Proof.Machine.execTorqueTimeLimit k counts s
  | .overcurrentTrip k => Sys2Proof.Machine.execOvercurrentTrip k s
  | .forcedRunEnd => Sys2Proof.Machine.execForcedRunEnd s
  | .storeWriteCompletion => Sys2Proof.Machine.execStoreWriteCompletion s
  | .readState => Sys2Proof.Machine.execReadState s
  | .readPocket => Sys2Proof.Machine.execReadPocket s
  | .readView => Sys2Proof.Machine.execReadView s
  | .readRecord => Sys2Proof.Machine.execReadRecord s
  | .writeRecord => Sys2Proof.Machine.execWriteRecord s
  | .clearHead => Sys2Proof.Machine.execClearHead s
  | .forceOutput => Sys2Proof.Machine.execForceOutput s
  | .restart => Sys2Proof.Machine.execRestart s
  | .unknownRequest => Sys2Proof.Machine.execUnknownRequest s
  | .byteTaken b lead stop => Sys2Proof.Machine.execByteTaken b lead stop s
  | .pwmPeriodStart => Sys2Proof.Machine.execPwmPeriodStart s

end Sys2Proof.Machine
end

