-- ==== Sys2Proof/Safety.lean ====
section
/-! DEFINITION. What counts as a lawful station: the laws that the manual states of the whole machine, in the terms that
the statements use. -/

namespace Sys2Proof.Machine
open Sys2Proof

/-! ## The transmit queue (R40) -/

/-- A frame of the normal part that opens a draw, by its head field. -/
def TxFrame.opensHead (f : TxFrame) : Option Nat := if f.frame.kind = .drawOpen then some (u8 f.frame.payload 0) else none

/-- A frame in transmission that has left the slot is a HALT; a frame left behind by an entry to FAULT is none. -/
def OnLine.lawful : OnLine → Bool
  | .none | .normal => true
  | .halt f => decide (f.kind = .halt)
  | .orphan x => decide (x.frame.kind ≠ .halt)

/-- 'The transmit queue never holds more than 16 normal frames and one HALT, and never two DRAW-OPEN frames of the same
head' (R40); the normal part holds frames of any kind but HALT, and the slot a HALT (3.2). -/
def Transmit.lawful (t : Transmit) : Bool :=
  decide (t.normalCount ≤ normalBound) && decide (t.normal.filterMap TxFrame.opensHead).Nodup
  && t.normal.all (fun f => decide (f.frame.kind ≠ .halt)) && t.slot.all (fun f => decide (f.kind = .halt))
  && t.onLine.lawful

/-! ## The receive side (R58, R61) -/

/-- Every receive error count is 0 .. 255 (R58). -/
def Errors.lawful (e : Errors) : Bool :=
  decide (e.check ≤ 255) && decide (e.framing ≤ 255) && decide (e.truncated ≤ 255) && decide (e.length ≤ 255)
  && decide (e.overrun ≤ 255)

/-- 'The receive queue never holds more than 4 frames' (R61), and every error count is in range (R58). -/
def Receive.lawful (r : Receive) : Bool := decide (r.queue.length ≤ receiveBound) && r.errors.lawful

/-! ## The view table (R134) -/

/-- An entry's units and life are in range (7.2). -/
def ViewEntry.lawful (e : ViewEntry) : Bool := within 1 3 e.units && within 1 48 e.life

/-- 'The view table never holds more than 32 entries, never two entries with the same group, head and class, and never an
entry whose source group is the station's own group'; 'In START, LEARN and FAULT the table is empty' (R134). -/
def State.viewLawful (s : State) : Bool :=
  decide (s.view.entries.length ≤ viewBound)
  && decide (s.view.entries.map (fun e => (e.group, e.head, e.cls))).Nodup
  && s.view.entries.all (fun e => decide (s.unit.g ≠ some e.group) && e.lawful)
  && (s.unit.mode.keepsView || s.view.entries.isEmpty)

/-! ## The tracker (R1, R3, R16) -/

/-- The tracker takes pulses only with a good profile loaded, C is 0 .. P − 1 once count valid is set, and a reset in force
or a load in progress finds the tracker at rest (1.1, R1, R19, R36). -/
def State.trackLawful (s : State) : Bool :=
  (!s.tracker.begun || (s.settings.good && s.settings.load.isNone && Profile.fieldsOk s.settings.profile))
  && (!s.tracker.valid || (s.tracker.begun && decide (s.tracker.c < s.pocketCount)))
  && decide (s.tracker.e ≤ eSaturated) && decide (s.tracker.l ≤ 65535)
  && (s.inReset.isNone || !s.tracker.begun)

/-! ## Closures, channels, valves (R66, R91, R109, R112) -/

/-- The channel's state agrees with its torque step (6.2). -/
def Channel.stepAgrees (x : Channel) : Bool :=
  match x.step with
  | .none => decide (x.state ≠ .gap)
  | .threadFind => decide (x.state = .reverse)
  | .gap => decide (x.state = .gap)
  | .ramp | .settle => decide (x.state = .forward)

/-- 'The duty buffer is 0 whenever the channel is OFF, GAP or TRIPPED' (R112), and then no switch is on (R110); a bridge
that drives drives the channel's direction; the count of trips is 0 .. 3 (R130). -/
def Channel.lawful (x : Channel) : Bool :=
  x.stepAgrees && (x.drivesNow || (decide (x.duty = 0) && decide (x.bridge = .off)))
  && (decide (x.bridge = .off) || decide (x.bridge = x.state.drives)) && decide (x.count ≤ 3)

/-- A forced run of an output on a head is in force. -/
def State.forces (s : State) (k : Fin 4) (o : Output) : Bool :=
  match s.service.forced with
  | some r => decide (r.head = k) && decide (r.output = o)
  | none => false

/-- An ask stands only while the draw's status is NONE, and a draw has its terms while its status is other than NONE
(R140, R141). -/
def OwnDraw.lawful (d : OwnDraw) : Bool :=
  (d.ask.isNone || decide (d.status = .none)) && (d.terms.isSome == decide (d.status ≠ .none))

/-- The draw that goes with a head state: its class, and whether it is open (R89, R91, R98, R99). -/
def Phase.draw : Phase → Option (DrawClass × Bool)
  | .steamAnnounced => some (.steam, false)
  | .flush => some (.steam, true)
  | .driveAnnounced => some (.drive, false)
  | .torque => some (.drive, true)
  | .idle | .bound | .steamWait | .seat | .driveWait | .dwell | .out => none

/-- The class of the ask that may stand in a head state (R88, R97). -/
def Phase.asks : Phase → Option DrawClass
  | .steamWait => some .steam
  | .driveWait => some .drive
  | .idle | .bound | .steamAnnounced | .flush | .seat | .driveAnnounced | .torque | .dwell | .out => none

/-- A draw agrees with the state of its head: STEAM-ANNOUNCED has a PENDING steam draw and FLUSH an open one,
DRIVE-ANNOUNCED a PENDING drive draw and TORQUE an open one, every other state none; and an ask stands only in the WAIT of
its class (R88 to R99, R140, R141). -/
def OwnDraw.agrees (p : Phase) (d : OwnDraw) : Bool :=
  (match p.draw with
    | some (c, isOpen) => decide (d.terms.map Ask.cls = some c)
        && (if isOpen then d.isOpen else decide (d.status = .pending))
    | none => decide (d.status = .none))
  && (d.ask.isNone || decide (d.ask.map Ask.cls = p.asks))

/-- 'A head's steam valve is on only while that head is in FLUSH with an OPEN or OPEN-FORCED steam draw, or while a
FORCE-OUTPUT on that valve is running in SAFE' (R91). -/
def State.valveLawful (s : State) (k : Fin 4) : Bool :=
  !(s.engines.get k).steam
  || ((s.inPhase k .flush) && (s.draws.get k).isOpen
      && decide ((s.draws.get k).terms.map Ask.cls = some .steam))
  || (s.forces k .steam && decide (s.unit.mode = .safe))

/-- The laws of one head: a closure belongs to a BOUND slot, a torque phase runs exactly in TORQUE, a channel drives only in
a torque phase or a forced run, the draw agrees with the head's state, and the valve, the channel and the draw are
lawful. -/
def State.headLawful (s : State) (k : Fin 4) : Bool :=
  (!(s.engines.get k).inClosure || decide ((s.slots.get k).state = .bound))
  && ((s.channels.get k).phaseRuns == s.inPhase k .torque)
  && (!(s.channels.get k).drivesNow || (s.channels.get k).phaseRuns || s.forces k .drive)
  && (s.channels.get k).lawful && (s.draws.get k).lawful && (s.draws.get k).agrees (s.engines.get k).phase
  && s.valveLawful k

/-- A forced run lasts only in SAFE, on a head that holds no closure (R188, R189). -/
def State.forcedLawful (s : State) : Bool :=
  match s.service.forced with
  | some r => decide (s.unit.mode = .safe) && !(s.engines.get r.head).inClosure
  | none => true

/-- A reset in force finds every head IDLE and no torque phase in any channel: it has brought them to their reset values,
and nothing but a reset is taken while it lasts (R36, R108, R132). -/
def State.restsInReset (s : State) : Bool :=
  s.inReset.isNone || headIndexes.all (fun k => s.inPhase k .idle && !(s.channels.get k).phaseRuns)

/-- The laws of the heads, of a forced run and of a reset in force. -/
def State.headsLawful (s : State) : Bool := headIndexes.all s.headLawful && s.forcedLawful && s.restsInReset

/-! ## Silence (R35) -/

/-- A silenced station holds nothing to send and sends nothing (R35). -/
def Transmit.silent (t : Transmit) : Bool :=
  t.silenced && t.normal.isEmpty && t.slot.isNone && decide (t.onLine = .none)

/-! ## The terms of the statements -/

/-- The state with a receive queue. -/
def State.withFrames (q : List Frame) (s : State) : State := { s with receive := { s.receive with queue := q } }

/-- No reset is in force, and the oldest frame of the receive queue is `f`, of a kind, with `rest` behind it. -/
def State.delivers (s : State) (kind : Kind) (f : Frame) (rest : List Frame) : Prop :=
  s.inReset = none ∧ s.receive.queue = f :: rest ∧ f.kind = kind

/-- A delivered ask of a request code with its arguments, on a station that is not silenced and has no request in
progress. -/
def State.asked (s : State) (code : Nat) (args : List Byte) (rest : List Frame) : Prop :=
  ∃ f, s.delivers .ask f rest ∧ f.code = code ∧ f.args = args ∧ s.transmit.silenced = false
    ∧ s.service.request = .none

/-- The state with the oldest frame of the receive queue gone and an answer at the tail of the normal part, or dropped
where that holds 16 frames (R40, R181). -/
def State.answered (s : State) (rest : List Frame) (payload : List Byte) : State :=
  if s.transmit.normalCount < normalBound then
    { s.withFrames rest with transmit := { s.transmit with
        normal := s.transmit.normal ++ [⟨⟨s.unit.node, .answer, payload⟩, 0, s.transmit.ticket⟩]
        ticket := s.transmit.ticket + 1 } }
  else s.withFrames rest

/-- What only resets, the settings load and the passing of time change: the settings but for the time left of a load, the
dead time, the reset in force and the waiting commands. -/
def State.ground (s : State) : List Host.Cell × Profile × Bool × List Recipe × List Bool × Nat × Option ResetKind
    × List Instr :=
  (s.settings.store, s.settings.profile, s.settings.good, s.settings.recipes, s.settings.usable, s.dead, s.inReset,
    s.pending)

/-- The place that learning gives a station: g, p0 and the node number (R24). -/
def State.place (s : State) : Option Nat × Option Nat × Nat := (s.unit.g, s.unit.p0, s.unit.node)

/-- The engines once the forced run in force has ended, its valve or press off (R189). -/
def State.unforcedEngines (s : State) : Four Engine :=
  match s.service.forced with
  | some r => s.engines.modify r.head (fun x => match r.output with
    | .steam => { x with steam := false }
    | .press => { x with press := false }
    | .drive => x)
  | none => s.engines

/-- The channels once the forced run in force has ended, its motor's channel TRIPPED with its kept causes, or OFF (R131,
R189). -/
def State.unforcedChannels (s : State) : Four Channel :=
  match s.service.forced with
  | some r => s.channels.modify r.head (fun x => match r.output with
    | .drive => { x with
        state := if x.causes = ⟨false, false, false⟩ then .off else .tripped, duty := 0, bridge := .off }
    | _ => x)
  | none => s.channels

/-- What a reset leaves of the store: all of it, or, where it cut a write short, every byte outside the record, and the
record bad by its check byte (R180). -/
def State.cutLeaves (s : State) (m : List Host.Cell) : Prop :=
  (s.service.write = none → m = s.settings.store)
  ∧ ∀ w, s.service.write = some w →
    goodSum (storedRecord m w.number) = false
    ∧ ∀ a, (a < recordAddress w.number ∨ recordAddress w.number + recordBytes w.number ≤ a) →
      Store.read m a = Store.read s.settings.store a

/-- The state is one that a RESTART reset gives (R190). -/
def State.restarted (s : State) : Bool :=
  decide (s.unit.causeKind = .restart) && decide (s.unit.mode = .start) && decide (s.settings.load = some loadSteps)

end Sys2Proof.Machine
end

