-- ==== Sys2Proof/Certificates/Slice0/Obligations.lean ====
section
/-! DEFINITION. The statements for the provers, one definition each. 'R<n>' names a rule of spec/, 'log <n>' a row of
notes/assumptions. -/

open Sys2Proof Sys2Proof.Machine

/-! ## The queue of commands, and reset -/

/-- A step carries out the oldest waiting command on the state without it; with none waiting, one time base step passes
(the model's choice, log 8). -/
def Obligations.StepTakesTheFrontCommand : Prop :=
  ∀ s : State, (∀ c rest, s.pending = c :: rest → step s = exec c { s with pending := rest })
    ∧ (s.pending = [] → step s = .next (elapse 1 s))

/-- The values that the tables of R16, R17, R65, R81, R108, R132, R156 and R191 give for reset, block by block: the
tracker with every reached mark clear and no head held back, the mode unit, the line interface, every slot with its
record, every head engine, channel and draw, the view and the service unit. The start-cause record, the store, the pins,
the time base counts and the model's own frame numbers are not claimed here. -/
def Obligations.ResetLeavesTheTableValues : Prop :=
  State.reset.tracker = ⟨0, false, 0, false, 0, 0, .unknown, false⟩
  ∧ State.reset.tracks = Four.all ⟨⟨false, false, false, false, false, false, false, false⟩, false⟩
  ∧ (State.reset.unit.mode = .start ∧ State.reset.unit.fault = .none ∧ State.reset.unit.held = .clear
    ∧ State.reset.unit.g = none ∧ State.reset.unit.p0 = none ∧ State.reset.unit.node = 15
    ∧ State.reset.unit.learn = 0 ∧ State.reset.unit.listen = 0 ∧ State.reset.unit.holdOff = 0)
  ∧ State.reset.announce = ⟨.none, false, false⟩
  ∧ (State.reset.transmit.normal = [] ∧ State.reset.transmit.slot = none ∧ State.reset.transmit.onLine = .none
    ∧ State.reset.transmit.idle = 0 ∧ State.reset.transmit.byte = none ∧ State.reset.transmit.silenced = false)
  ∧ (State.reset.receive.receiver = .hunt ∧ State.reset.receive.queue = []
    ∧ State.reset.receive.errors = ⟨0, 0, 0, 0, 0⟩)
  ∧ State.reset.view = ⟨[], true, 0⟩ ∧ State.reset.refused = ⟨false, false⟩
  ∧ State.reset.service = ⟨.none, none, none⟩ ∧ State.reset.dead = 2000
  ∧ ∀ k, (∃ ticket, State.reset.slots.get k = ⟨.idle, none, {
      gauged := false, recipe := .absent, condition := none, fill := none, headspace := none, lateData := false
      replaced := false, passed := false, cap := .unknown, fReq := 0, fEff := 0, flushEnd := .none
      forcedSteam := false, forcedDrive := false, shared := false, seat := .unknown, tauFinal := 0, tauPeak := 0
      torqueEnd := .none
      reasons := ⟨false, false, false, false, false, false, false, false, false, false, false⟩
      verdict := none, v := 0, delivery := .none, verdictPending := false, ticket := ticket }⟩)
    ∧ (∃ ms, State.reset.engines.get k = ⟨.idle, none, false, 0, false, false, false, ms⟩)
    ∧ (∃ ms, State.reset.channels.get k
      = ⟨.off, ⟨false, false, false⟩, 0, 0, 0, .off, .none, 0, 0, 0, none, none, none, ms⟩)
    ∧ State.reset.draws.get k = ⟨none, .none, none, .none, ⟨0, 0⟩, ⟨false, false⟩⟩
    ∧ State.reset.bridgeOutputs k = .off

/-- A POWER reset, and a PIN reset that begins, return every block to its reset values and hold the station in the reset
with no load begun; the store, the pins and the waiting commands stay, a write in progress leaves its record bad, and
the start-cause record is set (R36, R37, R180). A PIN held in a reset in force changes nothing (the model's reading, log
28). The end of a reset in force begins the settings load of 2 ms and takes the level of GUARD; GUARD found open makes
the held mark TRIP and trips every channel with cause GUARD (R30, R36, R125, R176). -/
def Obligations.ResetsReturnEveryBlockAndEndInTheLoad : Prop :=
  (∀ s : State, Store.wf s.settings.store = true →
    (∃ m n, s.cutLeaves m ∧ exec .powerReset s = .next { State.reset with
        unit := { causeKind := .power, causeFault := .none }, settings := { store := m, load := none }
        pins := s.pins, inReset := some .power, free := n, pending := s.pending })
    ∧ (s.inReset = none → ∃ m n, s.cutLeaves m ∧ exec .pinReset s = .next { State.reset with
        unit := { causeKind := .pin, causeFault := s.unit.fault }, settings := { store := m, load := none }
        pins := s.pins, inReset := some .pin, free := n, pending := s.pending })
    ∧ (s.inReset.isSome = true → exec .pinReset s = .next s))
  ∧ (∀ s : State, s.inReset.isSome = true →
    exec (.resetEnd false) s = .next { s with
      inReset := none, settings := { s.settings with load := some 200 }, pins := { s.pins with guardOpen := false } }
    ∧ exec (.resetEnd true) s = .next { s with
      inReset := none, settings := { s.settings with load := some 200 }, pins := { s.pins with guardOpen := true }
      unit := { s.unit with held := .trip }, channels := s.channels.map (Channel.tripOrAdd .guard) })

/-- The load completes: the active copies are the stored bytes with their marks, and the station leaves START for LEARN
with its tracker begun and the profile's dead time in force, or for FAULT(SETTINGS) (R19, R111, R176). -/
def Obligations.LoadCompleteLeavesStart : Prop :=
  ∀ (s : State) (left : Nat), s.inReset = none → s.settings.load = some left → s.unit.mode = .start →
    ∃ t, exec .loadComplete s = .next t
      ∧ t.settings.store = s.settings.store ∧ t.settings.load = none
      ∧ t.settings.profile = storedRecord s.settings.store 0
      ∧ t.settings.good = goodProfile (storedRecord s.settings.store 0)
      ∧ (∀ r : Fin 8, t.recipe r.val = storedRecord s.settings.store (r.val + 1)
        ∧ (t.usable r.val = true ↔ t.settings.good = true
          ∧ usableRecipe (storedRecord s.settings.store 0) (storedRecord s.settings.store (r.val + 1)) = true))
      ∧ (t.settings.good = true → t.unit = { s.unit with mode := .learn } ∧ t.tracker.begun = true
        ∧ t.dead = 100 * u8 (storedRecord s.settings.store 0) 12)
      ∧ (t.settings.good = false → t.unit.mode = .fault ∧ t.unit.fault = .settings ∧ t.dead = s.dead
        ∧ t.tracker.begun = s.tracker.begun ∧ t.place = s.place)
      ∧ t.pins = s.pins ∧ t.receive = s.receive ∧ t.pending = s.pending

/-- The sent report of the OK answer of a RESTART makes the restart: every block at its reset values, the load begun,
the start-cause record RESTART with the fault code in force; GUARD open counts as an opening (R36, R37, R190). -/
def Obligations.SentRestartAnswerRestarts : Prop :=
  ∀ (s : State) (x : TxFrame) (rest : List TxFrame), s.inReset = none → s.transmit.onLine = .normal →
    s.transmit.normal = x :: rest → x.frame.kind = .answer → x.frame.payload = [8, 0] →
    s.service.request = .restart →
    exec .transmissionComplete s = .next { State.reset with
      unit := { causeKind := .restart, causeFault := s.unit.fault
                held := if s.pins.guardOpen then .trip else .clear }
      channels := Four.all (if s.pins.guardOpen then { state := .tripped, causes := { guard := true } } else {})
      settings := { store := s.settings.store }, pins := s.pins, free := s.free, pending := s.pending }

/-! ## Motion and travel -/

/-- A PITCH pulse taken counts C, measures L by the pulse stage, sets e to 0 and makes the motion TURNING, whatever the
heads and the draws do at it; the hold-off falls by 1, and the settings and the receive side stay (R3, R4, R9, R11,
R29). In LEARN with count valid and no fixed group it adds 1 to the learn count, short of 2P; in LISTENING it adds 1 to
the listen count, short of P; elsewhere both counts stay (R23, R25; that the learn count stays once learning has
completed is the model's choice, log 7). A pulse in the time base step of the one before comes one step later (the
model's reading of R4, log 15). The end of the hold-off is the pulse that brings it to 0, and no event elsewhere (log
13). -/
def Obligations.PitchPulseCountsTheTurret : Prop :=
  ∀ (dt : Nat) (pins : Levels) (s : State), s.inReset = none → s.tracker.begun = true →
    ∃ t, exec (.pitchPulse dt pins) s = .next t
      ∧ t.tracker = { s.tracker with
          c := if s.tracker.valid then (s.tracker.c + 1) % s.pocketCount else s.tracker.c
          l := if s.tracker.stage = 0 then s.tracker.l else min 65535 (max 1 (min 262143 (s.tracker.e + dt)))
          measured := s.tracker.measured || decide (s.tracker.stage ≠ 0)
          stage := if s.tracker.stage = 0 then 1 else 2
          e := 0
          motion := .turning }
      ∧ t.unit.holdOff = s.unit.holdOff - 1 ∧ t.place = s.place ∧ t.ground = s.ground ∧ t.receive = s.receive
      ∧ t.pins = (setLevels pins s).pins
      ∧ (let learns := s.unit.mode = .learn ∧ s.tracker.valid = true ∧ s.profileField Profile.fixedGroup = 255
        let listens := s.unit.mode = .announce ∧ s.announce.stage = .listening
        (learns → s.unit.learn + 1 < 2 * s.pocketCount →
          t.unit = { s.unit with learn := s.unit.learn + 1, holdOff := s.unit.holdOff - 1 })
        ∧ (listens → s.unit.listen + 1 < s.pocketCount → t.announce.stage = .listening
          ∧ t.unit = { s.unit with listen := s.unit.listen + 1, holdOff := s.unit.holdOff - 1 })
        ∧ (¬learns → ¬listens → t.unit = { s.unit with holdOff := s.unit.holdOff - 1 }))
      ∧ exec (.reAnnounceHoldOffEnd dt pins) s = .next (if s.unit.holdOff = 1 then t else s)

/-- At a PITCH pulse where no entry expires every life falls by 1. In doubt, below P, the clean counter rises by 1 and
doubt stays; out of doubt the counter stays and no doubt begins. The pulse at which the clean counter reaches P ends
doubt: the margin is 0 and the counter P. A pulse at which some entry's life reaches 0 removes the entries that expire,
keeps the others in their order one pitch older, and begins doubt with the clean counter at 0 (R138, R139). That
DOUBT_END and VIEW_ENTRY_EXPIRY are the PITCH pulse of their moment is the model's choice (log 13). -/
def Obligations.ViewAgesAtAPulse : Prop :=
  ∀ (dt : Nat) (pins : Levels) (s : State), s.inReset = none → s.tracker.begun = true →
    s.unit.mode.keepsView = true →
    ((∀ e ∈ s.view.entries, 1 < e.life) → (s.view.doubt = true → s.view.clean + 1 < s.pocketCount) →
      ∃ t, exec (.pitchPulse dt pins) s = .next t
        ∧ t.view = { s.view with
            entries := s.view.entries.map (fun e => { e with life := e.life - 1 })
            clean := if s.view.doubt then s.view.clean + 1 else s.view.clean }
        ∧ t.ground = s.ground ∧ t.receive = s.receive ∧ t.place = s.place)
    ∧ (s.view.doubt = true → s.pocketCount ≤ s.view.clean + 1 → (∀ e ∈ s.view.entries, 1 < e.life) →
      ∃ t, exec (.doubtEnd dt pins) s = .next t ∧ exec (.pitchPulse dt pins) s = .next t
        ∧ t.view.doubt = false ∧ t.view.clean = s.pocketCount
        ∧ t.view.margin = 0 ∧ t.view.entries = s.view.entries.map (fun e => { e with life := e.life - 1 })
        ∧ t.ground = s.ground ∧ t.receive = s.receive ∧ t.place = s.place)
    ∧ ((∃ e ∈ s.view.entries, e.life ≤ 1) →
      ∃ t, exec (.viewEntryExpiry dt pins) s = .next t ∧ exec (.pitchPulse dt pins) s = .next t
        ∧ t.view.entries
          = (s.view.entries.filter (fun e => decide (1 < e.life))).map (fun e => { e with life := e.life - 1 })
        ∧ t.view.doubt = true ∧ t.view.clean = 0 ∧ t.view.margin = 1
        ∧ t.ground = s.ground ∧ t.receive = s.receive ∧ t.place = s.place)

/-- In RUN, STAND and SAFE the pulse that brings a close countdown to 0 leaves no DRAW-CLOSE pending in that class,
whatever closure the head holds: on a head that reports no threshold at the pulse, with no ask and no draw of the class,
and, for STEAM, on a turret that has not stalled (R139, R153). -/
def Obligations.CloseCountdownDropsAPendingClose : Prop :=
  ∀ (dt : Nat) (pins : Levels) (s : State) (k : Fin 4) (c : DrawClass), s.inReset = none → s.tracker.begun = true →
    s.unit.mode.running = true → (countPitch (takePins pins (elapse dt s))).reportsAtPulse k = false →
    (s.draws.get k).ask.map Ask.cls ≠ some c → (s.draws.get k).terms.map Ask.cls ≠ some c →
    (c = .drive ∨ s.tracker.motion ≠ .stalled) →
    (s.draws.get k).closing.get c = true → (s.draws.get k).countdown.get c = 1 →
    ∃ t, exec (.closeCountdownEnd dt pins) s = .next t ∧ (t.draws.get k).closing.get c = false
      ∧ (t.draws.get k).countdown.get c = 0 ∧ t.unit.mode = s.unit.mode
      ∧ t.ground = s.ground ∧ t.receive = s.receive

/-- The pulse that brings the listen count to P takes the station from ANNOUNCE to RUN, STAND or SAFE by its held mark,
which is then CLEAR, with the announce stage NONE and the listen count 0 (R28). An IDLE slot whose head holds no closure
opens, its record cleared, where its travel after the pulse lies at or above the discharge or below the intake close,
and stays IDLE otherwise (R67). -/
def Obligations.ListeningCompletesByTheHeldMark : Prop :=
  ∀ (dt : Nat) (pins : Levels) (s : State), s.inReset = none → s.tracker.begun = true → s.unit.mode = .announce →
    s.announce.stage = .listening → s.pocketCount ≤ s.unit.listen + 1 →
    ∃ t, exec (.listeningComplete dt pins) s = .next t
      ∧ t.unit = { s.unit with
          mode := match s.unit.held with | .clear => .run | .stop => .stand | .trip => .safe
          held := .clear, listen := 0, holdOff := s.unit.holdOff - 1 }
      ∧ t.announce.stage = .none ∧ t.ground = s.ground ∧ t.receive = s.receive
      ∧ (∀ k, s.hasHead k = true → (s.slots.get k).state = .idle → (s.engines.get k).inClosure = false →
        ((s.discharge ≤ t.travel k ∨ t.travel k < s.intakeClose) →
          t.slots.get k = ⟨.opened, (s.slots.get k).pocket, {}⟩)
        ∧ (¬(s.discharge ≤ t.travel k ∨ t.travel k < s.intakeClose) → (t.slots.get k).state = .idle
          ∧ (t.slots.get k).pocket = (s.slots.get k).pocket))

/-- A ZERO pulse sets C to the count that φ expects, and count valid; nothing else of the tracker changes but e by the
time passed (R6, R7). -/
def Obligations.ZeroPulseSetsTheExpectedCount : Prop :=
  ∀ (dt : Nat) (pins : Levels) (s : State), s.inReset = none → s.tracker.begun = true →
    ∃ t, exec (.zeroPulse dt pins) s = .next t
      ∧ t.tracker = { s.tracker with
          e := min 262143 (s.tracker.e + dt)
          c := if (s.tracker.elapse dt).phi < 128 then 0 else s.pocketCount - 1
          valid := true }
      ∧ t.ground = s.ground ∧ t.receive = s.receive ∧ t.pins = (setLevels pins s).pins

/-- A backward slip, with no comparator active: each BOUND slot adds POSITION and each other slot stays; a head carried
back across the infeed is held back; no threshold is reported, so the heads, the channels' states and the draws stay
(R7, R15, R76, R106). -/
def Obligations.BackwardSlipHoldsBack : Prop :=
  ∀ (s : State) (d : Nat), s.inReset = none → s.tracker.begun = true → s.tracker.valid = true →
    s.tracker.e ≤ 262143 → d = minusMod s.pocketCount s.expectedCount s.tracker.c →
    s.expectedCount ≠ s.tracker.c → s.pocketCount / 2 < d →
    ∃ t, exec (.zeroPulse 0 .quiet) s = .next t ∧ t.tracker.c = s.expectedCount
      ∧ (∀ k, t.slots.get k = if (s.slots.get k).state = .bound
          then { s.slots.get k with record := { (s.slots.get k).record with
            reasons := (s.slots.get k).record.reasons.add .position } } else s.slots.get k)
      ∧ (∀ k, t.tracks.get k = if s.travelDefined k = true ∧ s.travel k < 256 * (s.pocketCount - d)
          then { s.tracks.get k with heldBack := true } else s.tracks.get k)
      ∧ t.engines = s.engines ∧ t.channels = s.channels ∧ t.draws = s.draws ∧ t.transmit = s.transmit
      ∧ t.unit = s.unit ∧ t.view = s.view ∧ t.service = s.service ∧ t.ground = s.ground ∧ t.receive = s.receive

/-- A forward slip of d pitches, with no comparator active: the slip report comes first, so that a jar which the slip
releases carries POSITION and is REJECTED; the travel rises by 256·d, and the first profile threshold due is marked; a
head carried across the infeed begins a new pass with its profile marks cleared, and those at or below its new travel
are reached again; a head that is held back stays so, unless it is carried across the infeed, which ends the condition
without a new pass (R7, R14, R15, R76, R106, R168). -/
def Obligations.ForwardSlipCarriesHeadsOn : Prop :=
  ∀ (s : State) (d : Nat), s.inReset = none → s.tracker.begun = true → s.tracker.valid = true →
    s.tracker.e ≤ 262143 → s.tracker.c < s.pocketCount → d = minusMod s.pocketCount s.expectedCount s.tracker.c →
    s.expectedCount ≠ s.tracker.c → d ≤ s.pocketCount / 2 →
    let moved : State := { s with tracker := { s.tracker with c := s.expectedCount } }
    ∃ t, exec (.zeroPulse 0 .quiet) s = .next t ∧ t.tracker = moved.tracker
      ∧ (∀ k, s.travelDefined k = true → let crosses := 256 * s.pocketCount ≤ s.travel k + 256 * d
        let due := moved.due k (some (moved.travel k))
        (¬crosses → t.travel k = s.travel k + 256 * d)
        ∧ (crosses → t.travel k = s.travel k + 256 * d - 256 * s.pocketCount)
        ∧ (¬crosses → (s.tracks.get k).heldBack = true → t.tracks.get k = s.tracks.get k)
        ∧ (crosses → (t.tracks.get k).heldBack = false)
        ∧ (crosses → (s.tracks.get k).heldBack = true → ∀ x, x.isProfile = true →
          (s.tracks.get k).marks.get x = true → (t.tracks.get k).marks.get x = true)
        ∧ (crosses → (s.tracks.get k).heldBack = false → moved.due k none = [] → ∀ x, x.isProfile = true →
          (t.tracks.get k).marks.get x = decide (s.thresholdValue k x ≤ t.travel k))
        ∧ (¬crosses → (s.tracks.get k).heldBack = false → (∀ x rest, due = x :: rest → x.isProfile = true →
          (t.tracks.get k).marks.get x = true)
          ∧ (due = [] → (s.slots.get k).state = .bound → (t.slots.get k).state = .bound
            ∧ (t.slots.get k).record.reasons = { (s.slots.get k).record.reasons with position := true })
          ∧ (due = [.rel] → (s.slots.get k).state = .bound → (s.engines.get k).phase = .dwell →
            (s.slots.get k).record.passed = false → (t.slots.get k).state = .settled
            ∧ (t.slots.get k).record.verdict = some .reject ∧ (t.slots.get k).record.reasons.position = true
            ∧ (t.engines.get k).press = false ∧ (t.engines.get k).recipe = none)))
      ∧ t.unit = s.unit ∧ t.view = s.view ∧ t.ground = s.ground ∧ t.receive = s.receive

/-- The PITCH pulse that counts C to a head's pocket, on a lawful tracker, a turret that has not stalled and with no
comparator active: a head that is held back no longer is, and keeps its marks; any other begins a new pass with the
marks of intake close and discharge cleared, and reaches again those of value 0. In a running mode a discharge that the
ending pass had not reached reopens a slot that is not BOUND, with its record cleared but for the pocket number, and
marks the jar of a BOUND one as past its discharge (R13, R15, R66, R68, R79). -/
def Obligations.PitchPulseBeginsANewPass : Prop :=
  ∀ (dt : Nat) (s : State) (k : Fin 4), s.inReset = none → s.trackLawful = true → s.tracker.begun = true →
    s.tracker.motion ≠ .stalled →
    let counted := countPitch (takePins .quiet (elapse dt s))
    s.travelDefined k = true → s.tracker.valid = true → counted.tracker.c = s.pocketOf k →
    ∃ t, exec (.pitchPulse dt .quiet) s = .next t ∧ (t.tracks.get k).heldBack = false
      ∧ ((s.tracks.get k).heldBack = true → ∀ x, x.isProfile = true →
        (s.tracks.get k).marks.get x = true → (t.tracks.get k).marks.get x = true)
      ∧ ((s.tracks.get k).heldBack = false → (counted.due k none = [] ∨ counted.due k none = [.discharge]) →
        ∀ x, x.isProfile = true →
        (t.tracks.get k).marks.get x = decide (s.thresholdValue k x = 0))
      ∧ ((s.tracks.get k).heldBack = false → counted.due k none = [.discharge] → s.unit.mode.running = true →
        0 < s.intakeClose → 0 < s.discharge →
        ((s.slots.get k).state ≠ .bound → t.slots.get k = ⟨.opened, (s.slots.get k).pocket, {}⟩)
        ∧ ((s.slots.get k).state = .bound → (t.slots.get k).state = .bound ∧ (t.slots.get k).record.passed = true))
      ∧ t.ground = s.ground ∧ t.receive = s.receive

/-- e reaches its saturation value and nothing but time has passed, and then it holds there (R2). In TURNING, e at the
stall limit makes the motion STALLED and the pulse stage 0; then no head of the station flushes, and none in STEAM-WAIT
still asks; where every draw is lawful, a head in FLUSH that has nothing to report on the way ends its flush with CUT in
SEAT, the valve off, the press on, and its draw closed (R10, R93, R94, R103, R152). Both rows let the time left pass
first (the model's choice, log 9). -/
def Obligations.SaturationAndStall : Prop :=
  (∀ s : State, s.inReset = none → s.tracker.e ≤ 262143 →
    exec .eSaturation s = .next (elapse (262143 - s.tracker.e) s)
    ∧ (elapse (262143 - s.tracker.e) s).tracker = { s.tracker with e := 262143 }
    ∧ ∀ n, (elapse (262143 - s.tracker.e + n) s).tracker.e = 262143)
  ∧ (∀ s : State, s.inReset = none → s.tracker.begun = true → s.tracker.motion = .turning →
    ∃ t, exec .stall s = .next t
      ∧ t.tracker = { s.tracker with
          e := min 262143 (s.tracker.e + (s.stallLimit - s.tracker.e)), motion := .stalled, stage := 0 }
      ∧ (∀ k, s.hasHead k = true → (t.engines.get k).phase ≠ .flush
        ∧ ((t.engines.get k).phase = .steamWait → (t.engines.get k).asking = false))
      ∧ ((∀ j, (s.draws.get j).lawful = true) → ∀ k a, s.hasHead k = true → (s.engines.get k).phase = .flush →
        (s.slots.get k).state = .bound → (s.draws.get k).isOpen = true → (s.draws.get k).terms = some a →
        (elapse (s.stallLimit - s.tracker.e) s).hasDue k = false →
        (t.engines.get k).phase = .seat ∧ (t.engines.get k).steam = false ∧ (t.engines.get k).press = true
        ∧ (t.engines.get k).samples = 0 ∧ (t.slots.get k).state = .bound
        ∧ (t.slots.get k).record.flushEnd = .cut ∧ (t.slots.get k).record.fEff = (s.slots.get k).record.fEff
        ∧ (t.draws.get k).status = .none ∧ (t.draws.get k).ask = none)
      ∧ t.unit = s.unit ∧ t.view = s.view ∧ t.ground = s.ground ∧ t.receive = s.receive)

/-- A profile threshold that φ reaches first on its way is marked as reached; where nothing is due on the way, nothing
but the time and the levels changes (R13). The discharge, reached alone, marks the jar of a BOUND slot as past its
discharge and reopens any other slot, with its record cleared but for the pocket number, in the running modes, and
touches no slot elsewhere (R66, R68, R79). That φ advances to the next threshold is the model's choice (log 9), and so
is that the levels come with the row (log 23). -/
def Obligations.RisingPhaseReachesAThreshold : Prop :=
  ∀ (k : Fin 4) (s : State), s.inReset = none → s.tracker.begun = true → s.tracker.motion ≠ .stalled →
    s.travelDefined k = true → (s.tracks.get k).heldBack = false →
    let moved := advancePhase k (takePins .quiet s)
    (∀ x rest, moved.due k (some (moved.travel k)) = x :: rest → x.isProfile = true →
      ∃ t, exec (.thresholdReached k .quiet) s = .next t ∧ (t.tracks.get k).marks.get x = true
        ∧ t.tracker = moved.tracker ∧ t.unit = s.unit ∧ t.ground = s.ground ∧ t.receive = s.receive
        ∧ (x = .discharge → rest = [] → t.engines = moved.engines ∧ t.draws = s.draws ∧ t.transmit = moved.transmit
          ∧ t.slots = if s.unit.mode.running = false then s.slots else s.slots.modify k (fun y =>
            if y.state = .bound then { y with record := { y.record with passed := true } }
            else ⟨.opened, y.pocket, {}⟩)))
    ∧ (moved.due k (some (moved.travel k)) = [] → exec (.thresholdReached k .quiet) s = .next moved)

/-- A recipe threshold that a head reaches alone, with no comparator active (R13, R86). A_cap in BOUND, before A_fe and
A_rel: the cap is sampled, and a cap gives STEAM-WAIT, none NO_CAP and DWELL (R87). A_fe in STEAM-WAIT: the head asks
for the recipe's steam units, and the ask stands or is granted (R88, R89). A_fx in FLUSH: the flush ends with LIMIT in
SEAT, and its draw is closed (R93, R94). A_rel in TORQUE: the phase ends with ANGLE, the channel is OFF with its count
0, and the jar is released (R99, R101, R121, R122). That φ advances to the next threshold and that the levels come with
the row are the model's choices (log 9, log 23). -/
def Obligations.RecipeThresholdsMoveTheHead : Prop :=
  ∀ (k : Fin 4) (cap : Bool) (s : State), s.inReset = none → s.tracker.begun = true → s.tracker.motion ≠ .stalled →
    s.travelDefined k = true → (s.tracks.get k).heldBack = false → (s.slots.get k).state = .bound →
    let pins : Levels := ⟨Four.all cap, Four.all false⟩
    let moved := advancePhase k (takePins pins s)
    let r := (s.slots.get k).record
    let d := s.draws.get k
    let ch := s.channels.get k
    ∀ x, moved.due k (some (moved.travel k)) = [x] → ∃ t, exec (.thresholdReached k pins) s = .next t
      ∧ (x = .cap → (s.engines.get k).phase = .bound → s.reached k .fe = false → s.reached k .rel = false →
        (t.engines.get k).phase = (if cap then .steamWait else .dwell)
        ∧ (t.engines.get k).press = (s.engines.get k).press ∧ t.draws = s.draws
        ∧ t.slots = s.slots.modify k (fun y => { y with record := if cap then { r with cap := .yes }
          else { r with cap := .no, reasons := r.reasons.add .noCap } }))
      ∧ (x = .fe → (s.engines.get k).phase = .steamWait → d.status = .none →
        let a : Ask := ⟨.steam, (s.boundRecipe k).steamUnits, (s.boundRecipe k).aFl, (s.boundRecipe k).aFx⟩
        t.slots = s.slots
        ∧ (((t.engines.get k).phase = .steamWait ∧ (t.engines.get k).asking = true
          ∧ (t.draws.get k).status = .none ∧ (t.draws.get k).ask = some a)
        ∨ ((t.engines.get k).phase = .steamAnnounced ∧ (t.engines.get k).asking = false
          ∧ (t.draws.get k).status = .pending ∧ (t.draws.get k).ask = none ∧ (t.draws.get k).terms = some a
          ∧ (t.draws.get k).openFrame = .inQueue)))
      ∧ (x = .fx → (s.engines.get k).phase = .flush → d.isOpen = true → d.terms ≠ none →
        (t.engines.get k).phase = .seat ∧ (t.engines.get k).steam = false ∧ (t.engines.get k).press = true
        ∧ (t.engines.get k).samples = 0 ∧ (t.slots.get k).state = .bound
        ∧ (t.slots.get k).record.flushEnd = .limit ∧ (t.slots.get k).record.fEff = r.fEff
        ∧ (t.draws.get k).status = .none ∧ (t.draws.get k).ask = none)
      ∧ (x = .rel → (s.engines.get k).phase = .torque →
        (t.channels.get k).state = .off ∧ (t.channels.get k).bridge = .off ∧ (t.channels.get k).duty = 0
        ∧ (t.channels.get k).step = .none ∧ (t.channels.get k).count = 0
        ∧ (t.engines.get k).press = false ∧ (t.engines.get k).recipe = none
        ∧ (t.engines.get k).phase = (if (s.engines.get k).out then .out else .idle)
        ∧ (d.isOpen = true → d.terms ≠ none → (t.draws.get k).status = .none ∧ (t.draws.get k).ask = none)
        ∧ (r.passed = false → (t.slots.get k).state = .settled ∧ (t.slots.get k).record.torqueEnd = .angle
          ∧ (t.slots.get k).record.tauFinal = ch.last.getD 0 ∧ (t.slots.get k).record.tauPeak = ch.peak.getD 0
          ∧ (t.slots.get k).record.verdict ≠ none))
      ∧ t.unit = s.unit ∧ t.view = s.view ∧ t.ground = s.ground ∧ t.receive = s.receive

/-- A latest start that a head reaches alone opens its draw forced at once, whatever Room says, with no comparator
active: A_fl in STEAM-WAIT or STEAM-ANNOUNCED gives FLUSH with the valve on, or SEAT with COMPLETE where no flush is
required; A_dl in DRIVE-WAIT or DRIVE-ANNOUNCED, on a channel in OFF, gives TORQUE in THREAD-FIND, or in GAP where t_tf
is 0. The forced mark of the class is set. The draw of an ANNOUNCED head keeps its terms and its queued frame; a head in
WAIT draws the units of its recipe, announced when the queue accepts the frame and unannounced when it refuses it (R86,
R90, R91, R98, R114, R140, R150, R151). That φ advances to the next threshold and that the levels come with the row are
the model's choices (log 9, log 23). -/
def Obligations.LatestStartsForceTheDraw : Prop :=
  ∀ (k : Fin 4) (s : State), s.inReset = none → s.tracker.begun = true → s.tracker.motion ≠ .stalled →
    s.travelDefined k = true → (s.tracks.get k).heldBack = false → (s.slots.get k).state = .bound →
    let moved := advancePhase k (takePins .quiet s)
    let q := s.boundRecipe k
    let d := s.draws.get k
    let forced (t : State) (own : Ask) : Prop := (t.draws.get k).status = .openForced ∧ (t.draws.get k).ask = none
      ∧ (d.status = .pending → (t.draws.get k).terms = d.terms ∧ (t.draws.get k).openFrame = d.openFrame)
      ∧ (d.status = .none → (t.draws.get k).terms = some own
        ∧ (t.draws.get k).openFrame = if s.accepts .drawOpen [byte k.val] then .inQueue else .none)
    (moved.due k (some (moved.travel k)) = [.fl] →
      (((s.engines.get k).phase = .steamWait ∧ d.status = .none)
        ∨ ((s.engines.get k).phase = .steamAnnounced ∧ d.status = .pending ∧ d.ask = none)) →
      ∃ t, exec (.thresholdReached k .quiet) s = .next t ∧ (t.slots.get k).record.forcedSteam = true
        ∧ ((s.slots.get k).record.fReq ≠ 0 → (t.engines.get k).phase = .flush ∧ (t.engines.get k).steam = true
          ∧ (t.engines.get k).asking = false ∧ forced t ⟨.steam, q.steamUnits, q.aFl, q.aFx⟩)
        ∧ ((s.slots.get k).record.fReq = 0 → (t.engines.get k).phase = .seat ∧ (t.engines.get k).steam = false
          ∧ (t.slots.get k).record.flushEnd = .complete)
        ∧ t.unit = s.unit ∧ t.view = s.view ∧ t.ground = s.ground ∧ t.receive = s.receive)
    ∧ (moved.due k (some (moved.travel k)) = [.dl] → (s.channels.get k).state = .off →
      (((s.engines.get k).phase = .driveWait ∧ d.status = .none)
        ∨ ((s.engines.get k).phase = .driveAnnounced ∧ d.status = .pending ∧ d.ask = none)) →
      ∃ t, exec (.thresholdReached k .quiet) s = .next t ∧ (t.slots.get k).record.forcedDrive = true
        ∧ (t.engines.get k).phase = .torque ∧ (t.engines.get k).asking = false
        ∧ forced t ⟨.drive, q.driveUnits, q.aDl, q.aRel⟩
        ∧ (t.channels.get k).state = (if q.threadFindTime = 0 then .gap else .reverse)
        ∧ (t.channels.get k).step = (if q.threadFindTime = 0 then .gap else .threadFind)
        ∧ t.unit = s.unit ∧ t.view = s.view ∧ t.ground = s.ground ∧ t.receive = s.receive)

/-! ## Learning -/

/-- Learning completes at the first ZERO with a fixed group, p0 = g·H; and at the first MARK edge without one, which
fixes p0 by φ: a multiple of H gives g = p0 / H. The station takes g, p0, the node g, a pocket for each head, and
ANNOUNCE, with doubt and the clean counter at 0. Another p0 gives FAULT(MISALIGNED) and no group; that p0 then stays is
the model's reading (log 17). The pulse that brings the learn count to 2P without a MARK gives FAULT(NO_MARK), and with
node 15 queues no HALT (R21 to R24, R34, R155). -/
def Obligations.LearningFixesTheGroup : Prop :=
  ∀ (dt : Nat) (s : State), s.inReset = none → s.unit.mode = .learn →
    let learned (g p0 : Nat) (t : State) : Prop := t.unit.mode = .announce ∧ t.place = (some g, some p0, g)
      ∧ (∀ k, s.hasHead k = true → (t.slots.get k).pocket = some (p0 + k.val))
      ∧ t.view.doubt = true ∧ t.view.clean = 0 ∧ t.ground = s.ground ∧ t.receive = s.receive
    (∀ f, s.tracker.begun = true → s.tracker.valid = false → s.profileField Profile.fixedGroup = f → f ≠ 255 →
      ∃ t, exec (.zeroPulse dt .quiet) s = .next t ∧ learned f (f * s.headCount) t)
    ∧ (∀ p, s.tracker.valid = true → s.profileField Profile.fixedGroup = 255 →
      p = (if (s.tracker.elapse dt).phi < 128 then s.tracker.c else (s.tracker.c + 1) % s.pocketCount) →
      ∃ t, exec (.markEdge dt) s = .next t ∧ t.tracker = s.tracker.elapse dt
        ∧ (p % s.headCount = 0 → learned (p / s.headCount) p t)
        ∧ (p % s.headCount ≠ 0 → t.unit.mode = .fault ∧ t.unit.fault = .misaligned ∧ t.unit.p0 = some p
          ∧ t.unit.g = s.unit.g ∧ t.unit.node = s.unit.node ∧ t.ground = s.ground ∧ t.receive = s.receive))
    ∧ (∀ pins, s.tracker.begun = true → s.tracker.valid = true → s.profileField Profile.fixedGroup = 255 →
      2 * s.pocketCount ≤ s.unit.learn + 1 →
      ∃ t, exec (.noMark dt pins) s = .next t ∧ t.unit.mode = .fault ∧ t.unit.fault = .noMark ∧ t.place = s.place
        ∧ t.transmit.normal = [] ∧ (s.unit.node = 15 → t.transmit.slot = s.transmit.slot)
        ∧ t.ground = s.ground ∧ t.receive = s.receive)

/-! ## Delivered frames and the door -/

/-- A POSITION frame taken in ANNOUNCE: the own group in its source or its conflict mark gives FAULT(CONFLICT), another
turret FAULT(MISMATCH), each with a HALT STOP of that cause in an empty slot; any other frame leaves the queue and
changes nothing (R27, R34). One taken in a running mode that claims the own group or another turret is answered with the
own POSITION frame, conflict mark clear, when no hold-off and no other re-announcement stands in the way: queued, or
pending on a refusal. Any other POSITION frame leaves the queue and changes nothing (R29). -/
def Obligations.PositionFramesAreChecked : Prop :=
  (∀ (s : State) (f : Frame) (rest : List Frame) (g : Nat), s.delivers .position f rest → f.payload.length = 5 →
    s.unit.mode = .announce → s.unit.g = some g →
    let claims := f.source = g ∨ u8 f.payload 4 = g
    let differs := ¬(u8 f.payload 0 = s.headCount ∧ u8 f.payload 1 = s.pocketCount
      ∧ u8 f.payload 2 = s.capacity .steam ∧ u8 f.payload 3 = s.capacity .drive)
    (∀ code : FaultCode, ((claims ∧ code = .conflict) ∨ (¬claims ∧ differs ∧ code = .mismatch)) →
      ∃ t, exec .position s = .next t ∧ t.unit.mode = .fault ∧ t.unit.fault = code ∧ t.place = s.place
        ∧ t.transmit.normal = [] ∧ t.receive = (s.withFrames rest).receive ∧ t.ground = s.ground
        ∧ (s.unit.node ≤ 11 → s.transmit.silenced = false → s.transmit.slot = none →
          t.transmit.slot = some ⟨s.unit.node, .halt, [1, byte code.code]⟩))
    ∧ (¬claims → ¬differs → exec .position s = .next (s.withFrames rest)))
  ∧ (∀ (s : State) (f : Frame) (rest : List Frame) (g : Nat), s.delivers .position f rest → f.payload.length = 5 →
    s.unit.mode.running = true → s.unit.g = some g →
    let calls := f.source = g ∨ u8 f.payload 4 = g ∨ u8 f.payload 0 ≠ s.headCount ∨ u8 f.payload 1 ≠ s.pocketCount
      ∨ u8 f.payload 2 ≠ s.capacity .steam ∨ u8 f.payload 3 ≠ s.capacity .drive
    let own : List Byte := [byte s.headCount, byte s.pocketCount, byte (s.capacity .steam), byte (s.capacity .drive), 255]
    let free := s.unit.holdOff = 0 ∧ s.announce.rePending = false ∧ s.announce.reQueued = false
    (calls → free → s.accepts .position own = true → exec .position s = .next { s.withFrames rest with
      announce := { s.announce with reQueued := true }
      transmit := { s.transmit with
        normal := s.transmit.normal ++ [⟨⟨s.unit.node, .position, own⟩, 0, s.transmit.ticket⟩]
        ticket := s.transmit.ticket + 1 } })
    ∧ (calls → free → s.accepts .position own = false → exec .position s = .next { s.withFrames rest with
      announce := { s.announce with rePending := true } })
    ∧ (¬(calls ∧ free) → exec .position s = .next (s.withFrames rest)))

/-- A JAR-IN of 7 bytes in a running mode: the slot of its pocket, when OPEN, takes the ranged fields and REPLACED if it
was gauged; when BOUND, sets LATE_DATA; when IDLE or SETTLED, takes nothing. A pocket that is not the station's, another
length and another mode discard the frame (R69 to R71). -/
def Obligations.JarInReachesItsSlot : Prop :=
  ∀ (s : State) (f : Frame) (rest : List Frame), s.delivers .jarIn f rest →
    (∀ (k : Fin 4) (p0 : Nat), f.payload.length = 7 → s.unit.mode.running = true → s.unit.p0 = some p0 →
      s.hasHead k = true → u8 f.payload 0 = p0 + k.val →
      exec .jarIn s = .next { s.withFrames rest with
        slots := s.slots.modify k (fun x => match x.state with
          | .opened => { x with record := { x.record with
              gauged := true, replaced := x.record.replaced || x.record.gauged
              recipe := if u8 f.payload 1 < 8 ∧ s.usable (u8 f.payload 1) = true then .number (u8 f.payload 1)
                else .unusable
              condition := some (if u8 f.payload 2 = 0 then .ok else if u8 f.payload 2 = 1 then .noJar
                else if u8 f.payload 2 = 3 then .lowFill else .damaged)
              fill := if (f.payload.getD 3 0).getLsbD 0 = true then some (min 1200 (u16 f.payload 4)) else none
              headspace := if (f.payload.getD 3 0).getLsbD 1 = true ∧ u8 f.payload 6 ≠ 0
                then some (min 250 (max 20 (u8 f.payload 6))) else none } }
          | .bound => { x with record := { x.record with lateData := true } }
          | .idle | .settled => x) })
    ∧ ((f.payload.length ≠ 7 ∨ s.unit.mode.running = false
        ∨ ∀ (k : Fin 4) (p0 : Nat), s.unit.p0 = some p0 → s.hasHead k = true → u8 f.payload 0 ≠ p0 + k.val) →
      exec .jarIn s = .next (s.withFrames rest))

/-- The tests of a DRAW-OPEN: another length, a node 12 to 14, and, from another group, a head at or above H, a class
other than STEAM and DRIVE and units of 0 discard it; the own group gives FAULT(DUPLICATE) whatever the other fields
(R134, R135). One that passes the tests replaces the entry of its key in its place, or stands at the tail, or finds 32
entries, when it is not recorded and doubt begins; units above 3 are 3, and the life is 1 to 48 (R135, R136). -/
def Obligations.DrawOpenIsTestedAndRecorded : Prop :=
  (∀ (s : State) (f : Frame) (rest : List Frame) (g : Nat), s.delivers .drawOpen f rest → s.unit.g = some g → g ≤ 11 →
    ((s.unit.mode.keepsView = false ∨ f.payload.length ≠ 4 ∨ (12 ≤ f.source ∧ f.source ≤ 14)
        ∨ (f.source ≠ g ∧ (s.headCount ≤ u8 f.payload 0 ∨ 1 < u8 f.payload 1 ∨ u8 f.payload 2 = 0))) →
      exec .drawOpen s = .next (s.withFrames rest))
    ∧ (s.unit.mode.keepsView = true → f.payload.length = 4 → f.source = g →
      ∃ t, exec .drawOpen s = .next t ∧ t.unit.mode = .fault ∧ t.unit.fault = .duplicate ∧ t.place = s.place
        ∧ t.view = ⟨[], true, 0⟩ ∧ t.receive = (s.withFrames rest).receive ∧ t.ground = s.ground))
  ∧ (∀ (s : State) (f : Frame) (rest : List Frame) (c : DrawClass), s.delivers .drawOpen f rest → f.payload.length = 4 →
    s.unit.mode.keepsView = true → ¬(12 ≤ f.source ∧ f.source ≤ 14) → s.unit.g ≠ some f.source →
    u8 f.payload 0 < s.headCount → u8 f.payload 1 = c.code → u8 f.payload 2 ≠ 0 →
    let e : ViewEntry := ⟨f.source, u8 f.payload 0, c, min 3 (u8 f.payload 2), min 48 (max 1 (u8 f.payload 3))⟩
    let known := ∃ x ∈ s.view.entries, x.group = f.source ∧ x.head = u8 f.payload 0 ∧ x.cls = c
    ∃ t, exec .drawOpen s = .next t
      ∧ (known → t.view = { s.view with entries :=
          (s.view.entries.map (fun x => if x.group = f.source ∧ x.head = u8 f.payload 0 ∧ x.cls = c then e else x)) })
      ∧ (¬known → s.view.entries.length < 32 → t.view = { s.view with entries := s.view.entries ++ [e] })
      ∧ (¬known → 32 ≤ s.view.entries.length → t.view = ⟨s.view.entries, true, 0⟩)
      ∧ t.unit = s.unit ∧ t.tracker = s.tracker ∧ t.receive = (s.withFrames rest).receive ∧ t.ground = s.ground)

/-- A DRAW-CLOSE of another group removes the entry of its key and no other; one that finds none, or is discarded,
leaves the queue and changes nothing (R137). -/
def Obligations.DrawCloseRemovesItsEntry : Prop :=
  ∀ (s : State) (f : Frame) (rest : List Frame), s.delivers .drawClose f rest →
    (∀ c : DrawClass, f.payload.length = 2 → s.unit.mode.keepsView = true → ¬(12 ≤ f.source ∧ f.source ≤ 14) →
      s.unit.g ≠ some f.source → u8 f.payload 1 = c.code →
      ∃ t, exec .drawClose s = .next t
        ∧ t.view = { s.view with entries := (s.view.entries.filter
          (fun x => !(decide (x.group = f.source) && decide (x.head = u8 f.payload 0) && decide (x.cls = c)))) }
        ∧ t.unit = s.unit ∧ t.tracker = s.tracker ∧ t.receive = (s.withFrames rest).receive ∧ t.ground = s.ground)
    ∧ ((f.payload.length ≠ 2 ∨ s.unit.mode.keepsView = false ∨ (12 ≤ f.source ∧ f.source ≤ 14)
        ∨ s.unit.g = some f.source ∨ 1 < u8 f.payload 1
        ∨ ∀ x ∈ s.view.entries, ¬(x.group = f.source ∧ x.head = u8 f.payload 0 ∧ x.cls.code = u8 f.payload 1)) →
      exec .drawClose s = .next (s.withFrames rest))

/-- A run of the arbiter for a class, in a mode that keeps the view: a head that does not ask in the class keeps its
draw and its engine; an asking head keeps them too, or is granted: PENDING with its units, its DRAW-OPEN in the queue
with a life of ceil(d / 256) + 1 pitches in 1 .. 48, which the close countdown takes, and its head ANNOUNCED. The first
fitting head in ascending order of slack, then of index, is granted where the queue takes its frame. A grant leaves U +
Pend within Room, and an asking head of the station that is left fits no more, or has had its frame refused and waits
for a queue removal (R89, R98, R144 to R146). A DRAW-CLOSE that makes room runs the arbiter: the only asking head, if it
then fits, is granted (R134, R144). -/
def Obligations.ArbiterGrantsByLeastSlack : Prop :=
  (∀ (s : State) (c : DrawClass), s.unit.mode.keepsView = true → (∀ k, (s.draws.get k).lawful = true) →
    let t := arbiter c s
    let life (k : Fin 4) (a : Ask) : Nat := min 48 (max 1 ((s.distance k a.life + 255) / 256 + 1))
    let granted (k : Fin 4) (a : Ask) : Prop :=
      t.draws.get k = { s.draws.get k with
        ask := none, status := .pending, terms := some a, openFrame := .inQueue
        countdown := (s.draws.get k).countdown.put c (life k a) }
      ∧ t.engines.get k = (match (s.engines.get k).phase with
        | .steamWait => { s.engines.get k with phase := .steamAnnounced, asking := false }
        | .driveWait => { s.engines.get k with phase := .driveAnnounced, asking := false }
        | _ => s.engines.get k)
      ∧ ∃ x ∈ t.transmit.normal,
        x.frame = ⟨s.unit.node, .drawOpen, [byte k.val, byte c.code, byte a.units, byte (life k a)]⟩
    (∀ k, s.asks c k = false → t.draws.get k = s.draws.get k ∧ t.engines.get k = s.engines.get k)
    ∧ (∀ k a, (s.draws.get k).ask = some a → a.cls = c →
      (granted k a ∧ s.hasHead k = true ∧ t.shareOf c + t.pendOf c ≤ t.roomOf c)
      ∨ (t.draws.get k = s.draws.get k ∧ t.engines.get k = s.engines.get k
        ∧ (s.hasHead k = true → t.roomOf c < t.shareOf c + t.pendOf c + a.units
          ∨ (t.accepts .drawOpen [byte k.val] = false ∧ t.refused.get c = true))))
    ∧ (∀ k a, (s.draws.get k).ask = some a → a.cls = c → s.hasHead k = true →
      s.shareOf c + s.pendOf c + a.units ≤ s.roomOf c → s.accepts .drawOpen [byte k.val] = true →
      (∀ j b, (s.draws.get j).ask = some b → b.cls = c → s.hasHead j = true →
        s.shareOf c + s.pendOf c + b.units ≤ s.roomOf c →
        s.slack k < s.slack j ∨ (s.slack k = s.slack j ∧ k ≤ j)) → granted k a)
    ∧ t.shareOf c = s.shareOf c ∧ s.transmit.normal <+: t.transmit.normal ∧ t.slots = s.slots
    ∧ t.channels = s.channels ∧ t.unit = s.unit ∧ t.view = s.view ∧ t.receive = s.receive ∧ t.ground = s.ground)
  ∧ ∀ (s : State) (f : Frame) (rest : List Frame) (c : DrawClass) (k : Fin 4) (a : Ask), s.delivers .drawClose f rest →
    f.payload.length = 2 → s.unit.mode.keepsView = true → ¬(12 ≤ f.source ∧ f.source ≤ 14) → s.unit.g ≠ some f.source →
    u8 f.payload 1 = c.code → (∃ x ∈ s.view.entries, x.group = f.source ∧ x.head = u8 f.payload 0 ∧ x.cls = c) →
    let after : State := { s with view := { s.view with entries := (s.view.entries.filter
      (fun x => !(decide (x.group = f.source) && decide (x.head = u8 f.payload 0) && decide (x.cls = c)))) } }
    (s.draws.get k).ask = some a → a.cls = c → s.hasHead k = true → (∀ j, j ≠ k → s.asks c j = false) →
    after.overRoom c = false → after.shareOf c + after.pendOf c + a.units ≤ after.roomOf c →
    s.accepts .drawOpen [byte k.val] = true →
    ∃ t, exec .drawClose s = .next t ∧ t.view = after.view ∧ (t.draws.get k).status = .pending
      ∧ (t.draws.get k).terms = some a ∧ (t.draws.get k).ask = none ∧ (t.draws.get k).openFrame = .inQueue
      ∧ t.transmit.normal = s.transmit.normal ++ [⟨⟨s.unit.node, .drawOpen, [byte k.val, byte c.code, byte a.units,
        byte (min 48 (max 1 ((s.distance k a.life + 255) / 256 + 1)))]⟩, 0, s.transmit.ticket⟩]
      ∧ t.unit = s.unit ∧ t.receive = (s.withFrames rest).receive ∧ t.ground = s.ground

/-- The withdrawals of a check for a class: with U + Pend within Room nothing changes. Otherwise PENDING draws of the
class lose their frame and their status, the ask is restored, but none for STEAM on a stalled turret, and the head
returns to its WAIT; no other draw, head or frame changes. A draw with more slack goes before one with less, and of
equal slack the higher index first. At the end U + Pend is within Room, or no PENDING draw of the class is left but one
whose frame is in transmission or gone (R44, R147, R148). Where every draw is lawful, a DRAW-OPEN whose entry leaves no
room withdraws the only PENDING draw of its class (R134, R136, R147). -/
def Obligations.WithdrawalCheckTakesBackGrants : Prop :=
  (∀ (s : State) (c : DrawClass), (∀ k, (s.draws.get k).lawful = true) →
    let t := withdrawals c s
    let back (k : Fin 4) (a : Ask) : Prop :=
      t.draws.get k = { s.draws.get k with
        ask := if c = .steam ∧ s.tracker.motion = .stalled then none else some a
        status := .none, terms := none, openFrame := .none }
      ∧ t.engines.get k = (match (s.engines.get k).phase with
        | .steamAnnounced => { s.engines.get k with
            phase := .steamWait, asking := decide (¬(c = .steam ∧ s.tracker.motion = .stalled)) }
        | .driveAnnounced => { s.engines.get k with
            phase := .driveWait, asking := decide (¬(c = .steam ∧ s.tracker.motion = .stalled)) }
        | _ => s.engines.get k)
    let pends (u : State) (k : Fin 4) (a : Ask) : Prop :=
      (u.draws.get k).status = .pending ∧ (u.draws.get k).terms = some a ∧ a.cls = c
    (s.shareOf c + s.pendOf c ≤ s.roomOf c → t = s)
    ∧ (∀ k, (t.draws.get k = s.draws.get k ∧ t.engines.get k = s.engines.get k)
      ∨ ∃ a, pends s k a ∧ s.withdrawable k = true ∧ back k a)
    ∧ (∀ j k a b, pends s j a → pends s k b → (t.draws.get j).status = .none → (t.draws.get k).status = .pending →
      s.withdrawable k = true → s.slack k < s.slack j ∨ (s.slack k = s.slack j ∧ k < j))
    ∧ (t.shareOf c + t.pendOf c ≤ t.roomOf c ∨ ∀ k a, pends t k a → t.withdrawable k = false)
    ∧ t.transmit.normal = s.transmit.normal.filter (fun x => headIndexes.all (fun k =>
      !(x.frame.isDrawOpenOf k && decide ((s.draws.get k).status = .pending)
        && decide ((t.draws.get k).status = .none))))
    ∧ t.slots = s.slots ∧ t.channels = s.channels ∧ t.unit = s.unit ∧ t.view = s.view ∧ t.receive = s.receive
    ∧ t.ground = s.ground)
  ∧ ∀ (s : State) (f : Frame) (rest : List Frame) (c : DrawClass) (k : Fin 4) (a : Ask), s.delivers .drawOpen f rest →
    f.payload.length = 4 → s.unit.mode.keepsView = true → ¬(12 ≤ f.source ∧ f.source ≤ 14) →
    s.unit.g ≠ some f.source → u8 f.payload 0 < s.headCount → u8 f.payload 1 = c.code → u8 f.payload 2 ≠ 0 →
    (∀ j, (s.draws.get j).lawful = true) →
    (∀ x ∈ s.view.entries, ¬(x.group = f.source ∧ x.head = u8 f.payload 0 ∧ x.cls = c)) → s.view.entries.length < 32 →
    let after : State := { s with view := { s.view with entries := s.view.entries
      ++ [⟨f.source, u8 f.payload 0, c, min 3 (u8 f.payload 2), min 48 (max 1 (u8 f.payload 3))⟩] } }
    (s.draws.get k).status = .pending → (s.draws.get k).terms = some a → a.cls = c → (s.draws.get k).ask = none →
    (∀ j, j ≠ k → (s.draws.get j).status ≠ .pending) → s.withdrawable k = true → after.overRoom c = true →
    (c = .drive ∨ s.tracker.motion ≠ .stalled) →
    (s.engines.get k).phase = (if c = .steam then .steamAnnounced else .driveAnnounced) →
    ∃ t, exec .drawOpen s = .next t ∧ t.view = after.view ∧ (t.draws.get k).status = .none
      ∧ (t.draws.get k).ask = some a ∧ (t.draws.get k).terms = none ∧ (t.draws.get k).openFrame = .none
      ∧ (t.engines.get k).phase = (if c = .steam then .steamWait else .driveWait)
      ∧ (t.engines.get k).asking = true ∧ (∀ x ∈ t.transmit.normal, x.frame.isDrawOpenOf k = false)
      ∧ t.unit = s.unit ∧ t.receive = (s.withFrames rest).receive ∧ t.ground = s.ground

/-- A HALT of 2 bytes, STOP or TRIP: before the running modes it is kept in the held mark, RUN enters STAND or SAFE,
STAND enters SAFE on a TRIP, SAFE and FAULT stay; a TRIP ends a forced run, in SAFE with its output off; the station
queues no HALT of its own. At the entry to STAND or SAFE an IDLE slot opens, its record cleared, where its travel lies
at or above the discharge or below the intake close, and stays IDLE otherwise (at SAFE, of a head that holds no
closure); at the entry to STAND no other slot changes, and without an entry no slot does. Any other HALT is discarded
(R30, R31, R67, R131, R189). -/
def Obligations.HaltChangesTheMode : Prop :=
  ∀ (s : State) (f : Frame) (rest : List Frame), s.delivers .halt f rest →
    (∀ trip : Bool, f.payload.length = 2 → u8 f.payload 0 = (if trip then 2 else 1) →
      ∃ t, exec .halt s = .next t
        ∧ t.unit = { s.unit with
            mode := match s.unit.mode with
              | .run => if trip then .safe else .stand
              | .stand => if trip then .safe else .stand
              | m => m
            held := match s.unit.mode with
              | .start | .learn | .announce => if trip then .trip else if s.unit.held = .clear then .stop else s.unit.held
              | _ => s.unit.held }
        ∧ (trip = true → t.service.forced = none) ∧ t.transmit.slot = s.transmit.slot
        ∧ (trip = true → s.unit.mode = .safe → t.engines = s.unforcedEngines ∧ t.channels = s.unforcedChannels)
        ∧ (let opens (k : Fin 4) : Prop := s.discharge ≤ s.travel k ∨ s.travel k < s.intakeClose
          (s.unit.mode = .run → trip = false → ∀ k, s.hasHead k = true →
            ((s.slots.get k).state = .idle → opens k → t.slots.get k = ⟨.opened, (s.slots.get k).pocket, {}⟩)
            ∧ (((s.slots.get k).state ≠ .idle ∨ ¬opens k) → t.slots.get k = s.slots.get k))
          ∧ ((s.unit.mode = .run ∨ s.unit.mode = .stand) → trip = true → ∀ k, s.hasHead k = true →
            (s.slots.get k).state = .idle → (s.engines.get k).inClosure = false →
            (opens k → t.slots.get k = ⟨.opened, (s.slots.get k).pocket, {}⟩)
            ∧ (¬opens k → (t.slots.get k).state = .idle ∧ (t.slots.get k).pocket = (s.slots.get k).pocket))
          ∧ ((s.unit.mode ≠ .run ∧ (s.unit.mode ≠ .stand ∨ trip = false)) → t.slots = s.slots))
        ∧ t.receive = (s.withFrames rest).receive ∧ t.ground = s.ground ∧ t.tracker = s.tracker ∧ t.view = s.view)
    ∧ ((f.payload.length ≠ 2 ∨ (u8 f.payload 0 ≠ 1 ∧ u8 f.payload 0 ≠ 2)) → exec .halt s = .next (s.withFrames rest))

/-- The entry of RUN or STAND to SAFE, by a HALT TRIP: every channel is TRIPPED with SAFE, and each head in a closure
adds HALTED, has its valve off and asks no more, with no draw and no ask left. A head whose A_rel is not reached is in
DWELL with its press as it was and its jar BOUND; a flush awaited or in progress ends with ABORTED and keeps its F_eff,
and so does a drive awaited or in progress. A head in SEAT or BOUND whose A_rel is reached releases its jar at once,
with a REJECT (R31, R101, R105, R126, R154). That the channels of absent heads trip too is the model's reading (log 21).
-/
def Obligations.SafeEntryEndsTheClosures : Prop :=
  ∀ (s : State) (f : Frame) (rest : List Frame), s.delivers .halt f rest → f.payload.length = 2 → u8 f.payload 0 = 2 →
    (s.unit.mode = .run ∨ s.unit.mode = .stand) → s.headsLawful = true →
    ∃ t, exec .halt s = .next t ∧ t.unit = { s.unit with mode := .safe }
      ∧ (∀ k, (t.channels.get k).state = .tripped ∧ (t.channels.get k).causes.safe = true
        ∧ (t.channels.get k).duty = 0 ∧ (t.channels.get k).bridge = .off ∧ (t.channels.get k).step = .none)
      ∧ (∀ k, s.hasHead k = true → (s.engines.get k).inClosure = true →
        let p := (s.engines.get k).phase
        let r := (s.slots.get k).record
        let u := (t.slots.get k).record
        (t.engines.get k).steam = false ∧ (t.engines.get k).asking = false
        ∧ (t.draws.get k).status = .none ∧ (t.draws.get k).ask = none
        ∧ (s.reached k .rel = false → (t.engines.get k).phase = .dwell
          ∧ (t.engines.get k).press = (s.engines.get k).press ∧ (t.slots.get k).state = .bound
          ∧ u.reasons = { r.reasons with halted := true } ∧ u.fEff = r.fEff
          ∧ u.flushEnd = (if p = .steamWait ∨ p = .steamAnnounced ∨ p = .flush then .aborted else r.flushEnd)
          ∧ u.torqueEnd = (if p = .driveWait ∨ p = .driveAnnounced ∨ p = .torque then .aborted else r.torqueEnd)
          ∧ (p = .torque → u.tauFinal = (s.channels.get k).last.getD 0
            ∧ u.tauPeak = (s.channels.get k).peak.getD 0))
        ∧ (s.reached k .rel = true → (p = .seat ∨ p = .bound) → (t.engines.get k).press = false
          ∧ (t.engines.get k).phase = (if (s.engines.get k).out then .out else .idle)
          ∧ (r.passed = false → (t.slots.get k).state = .settled ∧ u.verdict = some .reject
            ∧ u.reasons.halted = true)))
      ∧ t.receive = (s.withFrames rest).receive ∧ t.ground = s.ground ∧ t.tracker = s.tracker ∧ t.view = s.view

/-- A RESUME with GUARD closed clears the held mark before the running modes and takes STAND and SAFE to RUN. There a
forced run ends first, as by time: its valve or press is off, its motor's channel TRIPPED with its kept causes, or OFF;
then a TRIPPED channel keeps OVERCURRENT alone, or is OFF, and any other stays; and an IDLE slot opens, its record
cleared, where its travel lies at or above the discharge or below the intake close, while every other slot stays. In the
other modes no head, channel or slot changes; with GUARD open, or with a payload, the RESUME is ignored (R30, R32, R67,
R129, R131, R189). -/
def Obligations.ResumeReturnsToRun : Prop :=
  ∀ (s : State) (f : Frame) (rest : List Frame), s.delivers .resume f rest →
    (f.payload.length = 0 → s.pins.guardOpen = false →
      ∃ t, exec .resume s = .next t
        ∧ t.unit = { s.unit with
            mode := match s.unit.mode with | .stand | .safe => .run | m => m
            held := match s.unit.mode with | .start | .learn | .announce => .clear | _ => s.unit.held }
        ∧ ((s.unit.mode = .stand ∨ s.unit.mode = .safe) → t.service.forced = none ∧ t.engines = s.unforcedEngines
          ∧ (∀ k, let x := s.unforcedChannels.get k
            t.channels.get k = if x.state ≠ .tripped then x
              else if x.causes.overcurrent then { x with causes := ⟨true, false, false⟩ }
              else { x with state := .off, duty := 0, bridge := .off, causes := ⟨false, false, false⟩ })
          ∧ ∀ k, let opens := s.discharge ≤ s.travel k ∨ s.travel k < s.intakeClose
            ((s.hasHead k = true ∧ (s.slots.get k).state = .idle ∧ opens) →
              t.slots.get k = ⟨.opened, (s.slots.get k).pocket, {}⟩)
            ∧ (¬(s.hasHead k = true ∧ (s.slots.get k).state = .idle ∧ opens) → t.slots.get k = s.slots.get k))
        ∧ ((s.unit.mode ≠ .stand ∧ s.unit.mode ≠ .safe) → t.engines = s.engines ∧ t.channels = s.channels
          ∧ t.slots = s.slots ∧ t.service = s.service)
        ∧ t.receive = (s.withFrames rest).receive ∧ t.ground = s.ground ∧ t.tracker = s.tracker ∧ t.view = s.view
        ∧ t.transmit = s.transmit ∧ t.draws = s.draws)
    ∧ ((f.payload.length ≠ 0 ∨ s.pins.guardOpen = true) → exec .resume s = .next (s.withFrames rest))

/-- The closed GUARD opens: every channel is TRIPPED with cause GUARD, those of absent heads too (the model's reading,
log 21), no forced run is left, RUN and STAND enter SAFE, the held mark is TRIP before the running modes, and from
ANNOUNCE on a HALT TRIP with cause GUARD stands in a slot that held nothing stronger (R30, R33, R42, R125, R189). GUARD
that is open opens no further (the model's choice, log 13), and GUARD closing changes its level alone. -/
def Obligations.GuardOpeningHaltsTheStation : Prop :=
  ∀ s : State, s.inReset = none →
    (s.pins.guardOpen = false → ∃ t, exec .guardOpens s = .next t
      ∧ t.unit = { s.unit with
          mode := match s.unit.mode with | .run | .stand => .safe | m => m
          held := match s.unit.mode with | .start | .learn | .announce => .trip | _ => s.unit.held }
      ∧ (∀ k, (t.channels.get k).state = .tripped ∧ (t.channels.get k).causes.guard = true)
      ∧ t.service.forced = none ∧ t.pins = { s.pins with guardOpen := true }
      ∧ ((s.unit.mode = .announce ∨ s.unit.mode.running = true) → s.transmit.silenced = false →
        (∀ q, s.transmit.slot = some q → q.severity ≤ 2) →
        t.transmit.slot = some ⟨s.unit.node, .halt, [2, 16]⟩)
      ∧ (s.unit.mode = .start ∨ s.unit.mode = .learn ∨ s.unit.mode = .fault → t.transmit.slot = s.transmit.slot)
      ∧ t.ground = s.ground ∧ t.receive = s.receive ∧ t.tracker = s.tracker ∧ t.view = s.view)
    ∧ (s.pins.guardOpen = true → exec .guardOpens s = .next s)
    ∧ exec .guardCloses s = .next { s with pins := { s.pins with guardOpen := false } }

/-! ## The receiver -/

/-- Bytes build a frame: in HUNT a byte with its lead bit set begins one, and any other is ignored; a length byte of 0
.. 72 gives CHECK or PAYLOAD; payload bytes are kept until the number given has been taken (R53). A frame begun while
the station sends is its own (R59, R60). Another node's byte ends the idle time at its start bit; what is left of its
eleven bit-times passes, and the line is idle again from the end of its stop bit (R38, R46); a byte that follows another
within a time base step follows it at once, and a byte of the own frame takes its time in the transmission (the model's
choices, log 26). -/
def Obligations.BytesBuildAFrame : Prop :=
  ∀ (s : State) (b : Byte), s.inReset = none →
    (s.transmit.onLine ≠ .none → passByte s = s)
    ∧ (s.transmit.onLine = .none → ∃ m n, passByte s = { elapse n s with
        transmit := { s.transmit with byte := none, idle := m + 5 * n - 11 } }
      ∧ s.transmit.byte.getD (if s.transmit.idle < 5 then s.transmit.idle else 0) = m
      ∧ 11 ≤ m + 5 * n ∧ (n = 0 ∨ m + 5 * (n - 1) < 11))
    ∧ (s.receive.receiver = .hunt → ∀ lead stop, exec (.byteTaken b lead stop) s = .next { passByte s with
      receive := if lead = true ∧ stop = true
        then { s.receive with receiver := .length b, own := decide (s.transmit.onLine ≠ .none) } else s.receive })
    ∧ (∀ l, s.receive.receiver = .length l → b.toNat ≤ 72 → exec (.byteTaken b false true) s = .next { passByte s with
      receive := { s.receive with receiver := if b.toNat = 0 then .check l [] else .payload l b.toNat [] } })
    ∧ (∀ l n got, s.receive.receiver = .payload l n got → exec (.byteTaken b false true) s = .next { passByte s with
      receive := { s.receive with
        receiver := if n ≤ got.length + 1 then .check l (got ++ [b]) else .payload l n (got ++ [b]) } })

/-- Within a frame, a dominant stop bit is a FRAMING error whatever the lead bit, and a set lead bit with a recessive
stop bit a TRUNCATED error, whose byte begins a new frame; a length byte above 72 is a LENGTH error. Each is counted up
to 255 and begins doubt in the modes that keep the view (R53, R55, R56, R57, R58, R138). That BYTE_TAKEN of the same
byte is the same event is the model's choice (log 13). -/
def Obligations.ReceiveErrorsAreCounted : Prop :=
  ∀ (s : State) (b : Byte) (lead : Bool), s.inReset = none → s.receive.receiver ≠ .hunt →
    let errors := s.receive.errors
    let same (t : State) : Prop :=
      t.view = (if s.unit.mode.keepsView then { s.view with doubt := true, clean := 0 } else s.view)
      ∧ t.unit = s.unit ∧ t.tracker = (passByte s).tracker ∧ t.ground = s.ground
    (∃ t, exec (.framingError b lead) s = .next t ∧ exec (.byteTaken b lead false) s = .next t
      ∧ t.receive = { s.receive with
          receiver := .hunt, own := false, errors := { errors with framing := min 255 (errors.framing + 1) } }
      ∧ same t)
    ∧ (∃ t, exec (.truncatedError b) s = .next t ∧ exec (.byteTaken b true true) s = .next t
      ∧ t.receive = { s.receive with
          receiver := .length b, own := decide (s.transmit.onLine ≠ .none)
          errors := { errors with truncated := min 255 (errors.truncated + 1) } }
      ∧ same t)
    ∧ (∀ l, s.receive.receiver = .length l → 72 < b.toNat → ∃ t, exec (.lengthError b) s = .next t
      ∧ exec (.byteTaken b false true) s = .next t
      ∧ t.receive = { s.receive with
          receiver := .hunt, own := false, errors := { errors with length := min 255 (errors.length + 1) } }
      ∧ same t)

/-- R57: a length byte above 72 is a LENGTH error, as its count shows: the frame is discarded and the state becomes
HUNT; from there bytes without a lead bit are ignored, and the next byte whose lead bit is 1 begins a frame. -/
def Obligations.LengthErrorIgnoresTheRest : Prop :=
  ∀ (s : State) (b l : Byte), s.inReset = none → s.receive.receiver = .length l → 72 < b.toNat →
    ∃ t, exec (.byteTaken b false true) s = .next t
      ∧ t.receive = { s.receive with
          receiver := .hunt, own := false
          errors := { s.receive.errors with length := min 255 (s.receive.errors.length + 1) } }
      ∧ ∀ u : State, u.inReset = none → u.receive = t.receive →
        (∀ (c : Byte) (stop : Bool), ∃ v, exec (.byteTaken c false stop) u = .next v ∧ v.receive = u.receive)
        ∧ ∀ c : Byte, ∃ v, exec (.byteTaken c true true) u = .next v
          ∧ v.receive = { u.receive with receiver := .length c, own := decide (u.transmit.onLine ≠ .none) }

/-- The check byte: a sum other than 0 is a CHECK error; the station's own frame is dropped; a good HALT of another node
discards a queued HALT of equal or lower severity; the screening drops what the table of R59 names; a frame that passes
stands at the tail of the receive queue, or is an OVERRUN when 4 wait (R43, R54, R59, R61). That the HALT comparison
comes before the screening, whatever the source and the queue, is the model's reading (log 20). -/
def Obligations.FrameCompletes : Prop :=
  ∀ (s : State) (l b : Byte) (got : List Byte), s.inReset = none → s.receive.receiver = .check l got →
    let node := l.toNat / 16
    let kind := l.toNat % 16
    let drops := node = 15 ∨ 9 ≤ kind ∨ (kind = 0 ∧ 12 ≤ node) ∨ (kind = 1 ∧ node ≠ 13) ∨ kind = 4 ∨ kind = 8
      ∨ (kind = 7 ∧ (node ≠ 12 ∨ got.length < 2 ∨ u8 got 0 ≠ s.unit.node ∨ s.transmit.silenced = true))
    let good := sumBytes ([l, byte got.length] ++ got ++ [b]) = 0
    let meets := kind = 5 ∧ got.length = 2 ∧ (u8 got 0 = 1 ∨ u8 got 0 = 2)
    let slot := match s.transmit.slot with
      | some q => if meets ∧ q.severity ≤ u8 got 0 then none else some q
      | none => none
    let view := if s.unit.mode.keepsView then { s.view with doubt := true, clean := 0 } else s.view
    (¬good → ∃ t, exec (.frameComplete b) s = .next t
      ∧ t.receive = { s.receive with
          receiver := .hunt, own := false
          errors := { s.receive.errors with check := min 255 (s.receive.errors.check + 1) } }
      ∧ t.view = view ∧ t.unit = s.unit ∧ t.ground = s.ground)
    ∧ (good → s.receive.own = true → exec (.frameComplete b) s = .next { passByte s with
      receive := { s.receive with receiver := .hunt, own := false } })
    ∧ (good → s.receive.own = false → drops → exec (.frameComplete b) s = .next { passByte s with
      transmit := { (passByte s).transmit with slot := slot }
      receive := { s.receive with receiver := .hunt, own := false } })
    ∧ (good → s.receive.own = false → ¬drops → s.receive.queue.length < 4 →
      exec (.frameComplete b) s = .next { passByte s with
      transmit := { (passByte s).transmit with slot := slot }
      receive := { s.receive with
          receiver := .hunt, own := false
          queue := s.receive.queue ++ [⟨node, Kind.ofCode kind, got⟩] } })
    ∧ (good → s.receive.own = false → ¬drops → 4 ≤ s.receive.queue.length → ∃ t, exec (.frameComplete b) s = .next t
      ∧ t.receive = { s.receive with
          receiver := .hunt, own := false
          errors := { s.receive.errors with overrun := min 255 (s.receive.errors.overrun + 1) } }
      ∧ t.transmit.slot = slot ∧ t.view = view ∧ t.unit = s.unit ∧ t.ground = s.ground)

/-! ## The transmitter -/

/-- A station that is not silenced, sends nothing, finds no other node's byte on the line and has an empty receive queue
begins the HALT of the slot, else the head of the normal part, once the line has been idle for the gap of that frame: 12
bit-times for a HALT, 14 + 2·n otherwise. No other station begins a frame (R38, R41, R46). The wait is a whole number of
time base steps (the model's choice, log 9). -/
def Obligations.TransmissionStartsAfterItsGap : Prop :=
  ∀ s : State, s.inReset = none →
    let sent (f : Frame) (t : State) (slot : Option Frame) (on : OnLine) : Prop := ∃ n,
      (if f.kind = .halt then 12 else 14 + 2 * f.source) ≤ s.transmit.idle + 5 * n
      ∧ (n = 0 ∨ s.transmit.idle + 5 * (n - 1) < (if f.kind = .halt then 12 else 14 + 2 * f.source))
      ∧ t = { elapse n s with
          transmit := { s.transmit with idle := s.transmit.idle + 5 * n, slot := slot, onLine := on, bits := 0 } }
    (s.transmit.silenced = false → s.transmit.onLine = .none → s.transmit.byte = none → s.receive.queue = [] →
      (∀ f, s.transmit.slot = some f → ∃ t, exec .transmissionStart s = .next t ∧ sent f t none (.halt f))
      ∧ (∀ x rest, s.transmit.slot = none → s.transmit.normal = x :: rest →
        ∃ t, exec .transmissionStart s = .next t ∧ sent x.frame t none .normal))
    ∧ ((s.transmit.silenced = true ∨ s.transmit.onLine ≠ .none ∨ s.transmit.byte ≠ none ∨ s.receive.queue ≠ []
        ∨ (s.transmit.slot = none ∧ s.transmit.normal = [])) → exec .transmissionStart s = .next s)

/-- The sent reports: a HALT is gone and gives no queue removal; a POSITION frame begins the listening in ANNOUNCE and
sets the hold-off to P in a running mode; a VERDICT makes the delivery of its slot SENT and clears verdict-pending; what
stands behind a sent normal frame keeps its order (R25, R29, R45, R52, R78). -/
def Obligations.SentFramesAreReported : Prop :=
  ∀ s : State, s.inReset = none →
    (∀ f, s.transmit.onLine = .halt f → ∃ n, exec .transmissionComplete s = .next { elapse n s with
      transmit := { s.transmit with onLine := .none, bits := 0, idle := 0, byte := none } })
    ∧ (∀ x rest, s.transmit.onLine = .normal → s.transmit.normal = x :: rest →
      (x.frame.kind = .position → s.unit.mode = .announce → ∃ t, exec .transmissionComplete s = .next t
        ∧ t.announce.stage = .listening ∧ t.unit = { s.unit with listen := 0 } ∧ rest <+: t.transmit.normal
        ∧ t.transmit.onLine = .none ∧ t.ground = s.ground ∧ t.receive = s.receive ∧ t.view = s.view)
      ∧ (x.frame.kind = .position → s.unit.mode.running = true → s.announce.reQueued = true →
        s.announce.rePending = false → ∃ t, exec .transmissionComplete s = .next t ∧ t.announce.reQueued = false
        ∧ t.unit = { s.unit with holdOff := s.pocketCount } ∧ rest <+: t.transmit.normal
        ∧ t.transmit.onLine = .none ∧ t.ground = s.ground ∧ t.receive = s.receive ∧ t.view = s.view)
      ∧ (∀ k, x.frame.kind = .verdict → (s.slots.get k).record.delivery = .queued →
        (s.slots.get k).record.ticket = some x.ticket → ∃ t, exec .transmissionComplete s = .next t
        ∧ t.slots.get k = { s.slots.get k with record := { (s.slots.get k).record with
            delivery := .sent, verdictPending := false } }
        ∧ rest <+: t.transmit.normal ∧ t.transmit.onLine = .none ∧ t.unit = s.unit ∧ t.ground = s.ground
        ∧ t.receive = s.receive ∧ t.view = s.view))

/-- Where every draw is lawful, the sent report of a PENDING draw's DRAW-OPEN opens the draw. Its head, STEAM-ANNOUNCED,
enters FLUSH with the valve on, or SEAT with COMPLETE where no flush is required and with CUT on a stalled turret (R91,
R93, R149); DRIVE-ANNOUNCED, it enters TORQUE on a channel in OFF whose comparator is inactive, and on a TRIPPED one
ends in DWELL, with TRIP for OVERCURRENT and ABORTED otherwise, and the draw is closed (R99, R114, R123, R152). The
report of an OPEN-FORCED draw makes its open frame SENT and changes nothing else of the draw, its head, the channels and
the share figures (R149). -/
def Obligations.SentDrawOpenOpensItsDraw : Prop :=
  ∀ (s : State) (k : Fin 4) (x : TxFrame) (rest : List TxFrame) (a : Ask), s.inReset = none →
    s.transmit.onLine = .normal → s.transmit.normal = x :: rest → x.frame.kind = .drawOpen →
    u8 x.frame.payload 0 = k.val → u8 x.frame.payload 1 = a.cls.code → (∀ j, (s.draws.get j).lawful = true) →
    (s.draws.get k).openFrame = .inQueue → (s.draws.get k).ask = none → (s.draws.get k).terms = some a →
    let d := s.draws.get k
    let r := (s.slots.get k).record
    let opens (t : State) : Prop := (t.draws.get k).status = .opened ∧ (t.draws.get k).openFrame = .sent
      ∧ (t.draws.get k).terms = some a ∧ t.shareOf a.cls = s.shareOf a.cls + a.units
    ∃ t, exec .transmissionComplete s = .next t
      ∧ (d.status = .pending → a.cls = .steam → (s.engines.get k).phase = .steamAnnounced →
        (r.fReq ≠ 0 → s.tracker.motion ≠ .stalled →
          opens t ∧ (t.engines.get k).phase = .flush ∧ (t.engines.get k).steam = true)
        ∧ ((r.fReq = 0 ∨ s.tracker.motion = .stalled) → (s.slots.get k).state = .bound →
          (t.engines.get k).phase = .seat ∧ (t.engines.get k).steam = false ∧ (t.engines.get k).press = true
          ∧ (t.slots.get k).record.flushEnd = (if r.fReq = 0 then .complete else .cut)
          ∧ (t.draws.get k).status = .none))
      ∧ (d.status = .pending → a.cls = .drive → (s.engines.get k).phase = .driveAnnounced →
        ((s.channels.get k).state = .off → (s.pins.heads.get k).oc = false →
          opens t ∧ (t.engines.get k).phase = .torque
          ∧ (t.channels.get k).state = (if (s.boundRecipe k).threadFindTime = 0 then .gap else .reverse))
        ∧ (∀ oc, (s.channels.get k).state = .tripped → (s.channels.get k).causes.overcurrent = oc →
          (s.slots.get k).state = .bound → s.reached k .rel = false →
          (t.engines.get k).phase = .dwell ∧ (t.draws.get k).status = .none
          ∧ (t.slots.get k).record.torqueEnd = (if oc then .trip else .aborted)
          ∧ (t.slots.get k).record.tauFinal = 0))
      ∧ (d.status = .openForced → (t.draws.get k).status = .openForced ∧ (t.draws.get k).openFrame = .sent
        ∧ (t.draws.get k).terms = some a ∧ (t.draws.get k).ask = none ∧ (∀ c, t.shareOf c = s.shareOf c)
        ∧ ∃ n, t.engines.get k = (elapse n s).engines.get k ∧ t.channels = (elapse n s).channels)
      ∧ rest <+: t.transmit.normal ∧ t.unit = s.unit ∧ t.view = s.view ∧ t.ground = s.ground ∧ t.receive = s.receive

/-- A HALT that collides meets the slot rule: an empty slot takes it, and a weaker HALT there is replaced (R50); one of
equal or greater severity there discards it, where the equal case is the model's reading (log 16). Nothing else but the
time of the bits sent changes, and the prevailing byte goes on (R47). A collision of a normal frame that is no POSITION
frame: below the fourth it stays at the head with its count one higher; the fourth is FAULT(LINE), or in FAULT the
silence with the code LINE: both parts of the queue empty, nothing sent, and no HALT queued (R35, R47, R48). -/
def Obligations.CollisionsOfHaltsAndOtherFrames : Prop :=
  (∀ (s : State) (f : Frame) (bit : Nat), s.inReset = none → s.transmit.onLine = .halt f →
    f.bits[bit]? = some true →
    ∃ n, exec (.collision bit) s = .next { elapse n s with
      receive := { s.receive with own := false }
      transmit := { s.transmit with
        onLine := .none, bits := 0, idle := 0, byte := some (s.transmit.bits + 5 * n - 11 * (bit / 11))
        slot := match s.transmit.slot with
          | none => some f
          | some q => if q.severity < f.severity then some f else some q } })
  ∧ (∀ (s : State) (x : TxFrame) (rest : List TxFrame) (bit : Nat), s.inReset = none → s.transmit.onLine = .normal →
    s.transmit.normal = x :: rest → x.frame.bits[bit]? = some true → x.frame.kind ≠ .position →
    (x.collisions + 1 < 4 → ∃ n, exec (.collision bit) s = .next { elapse n s with
      receive := { s.receive with own := false }
      transmit := { s.transmit with
        onLine := .none, bits := 0, idle := 0, byte := some (s.transmit.bits + 5 * n - 11 * (bit / 11))
        normal := { x with collisions := x.collisions + 1 } :: rest } })
    ∧ (4 ≤ x.collisions + 1 → ∃ t, exec (.collision bit) s = .next t ∧ t.unit.mode = .fault ∧ t.unit.fault = .line
      ∧ t.transmit.silent = true ∧ t.place = s.place ∧ t.receive = { s.receive with own := false }
      ∧ t.ground = s.ground))

/-- A collision of a POSITION frame: in ANNOUNCE at the stage QUEUED it stays at the head with the own group as its
conflict mark, and the stage is RETRY; at RETRY the station enters FAULT(CONFLICT); in a running mode the frame is
removed and not retried, and the hold-off stays (R26, R29, R51). -/
def Obligations.PositionCollision : Prop :=
  ∀ (s : State) (x : TxFrame) (rest : List TxFrame) (bit g : Nat), s.inReset = none → s.transmit.onLine = .normal →
    s.transmit.normal = x :: rest → x.frame.bits[bit]? = some true → x.frame.kind = .position → s.unit.g = some g →
    (s.unit.mode = .announce → s.announce.stage = .queued → ∃ n, exec (.collision bit) s = .next { elapse n s with
      receive := { s.receive with own := false }, announce := { s.announce with stage := .retry }
      transmit := { s.transmit with
        onLine := .none, bits := 0, idle := 0, byte := some (s.transmit.bits + 5 * n - 11 * (bit / 11))
        normal := { x with
          collisions := x.collisions + 1
          frame := { x.frame with payload := x.frame.payload.set 4 (byte g) } } :: rest } })
    ∧ (s.unit.mode = .announce → s.announce.stage = .retry → ∃ t, exec (.collision bit) s = .next t
      ∧ t.unit.mode = .fault ∧ t.unit.fault = .conflict ∧ t.transmit.normal = [] ∧ t.place = s.place
      ∧ t.ground = s.ground)
    ∧ (s.unit.mode.running = true → s.announce.rePending = false → ∃ t, exec (.collision bit) s = .next t
      ∧ t.announce.reQueued = false ∧ rest <+: t.transmit.normal ∧ t.unit = s.unit
      ∧ t.transmit.onLine = .none ∧ t.view = s.view ∧ t.ground = s.ground)

/-! ## The closure -/

/-- A flush tick adds the gain, 16 while U_steam is at most Sc, else the greater of 1 and floor(16·Sc / U_steam), and
sets the shared mark when U_steam exceeds Sc; with F_req not reached the head flushes on and nothing else but the time
changes (R92, R143). One that brings F_eff to F_req ends the flush with COMPLETE: the valve off, the open draw closed,
and the head in SEAT with the press on and no sample taken (R92, R93, R94, R152). -/
def Obligations.FlushTicksAddUntilComplete : Prop :=
  (∀ (k : Fin 4) (s : State), s.inReset = none → (s.engines.get k).phase = .flush → (s.slots.get k).state = .bound →
    let u := s.shareOf .steam
    let w := if u ≤ s.capacity .steam then 16 else max 1 (16 * s.capacity .steam / u)
    (s.slots.get k).record.fEff + w < (s.slots.get k).record.fReq →
    ∃ n m, exec (.flushTick k) s = .next { elapse n s with
      engines := (elapse n s).engines.modify k (fun x => { x with ms := m })
      slots := s.slots.modify k (fun x => { x with record := { x.record with
        fEff := x.record.fEff + w, shared := x.record.shared || decide (s.capacity .steam < u) } }) })
  ∧ (∀ (k : Fin 4) (s : State) (a : Ask), s.inReset = none → (s.engines.get k).phase = .flush →
    (s.slots.get k).state = .bound → (s.draws.get k).isOpen = true → (s.draws.get k).terms = some a →
    let u := s.shareOf .steam
    let w := if u ≤ s.capacity .steam then 16 else max 1 (16 * s.capacity .steam / u)
    (s.slots.get k).record.fReq ≤ (s.slots.get k).record.fEff + w →
    ∃ t, exec (.flushTick k) s = .next t
      ∧ (t.engines.get k).phase = .seat ∧ (t.engines.get k).steam = false ∧ (t.engines.get k).press = true
      ∧ (t.engines.get k).samples = 0
      ∧ (t.slots.get k).record.fEff = (s.slots.get k).record.fEff + w
      ∧ (t.slots.get k).record.flushEnd = .complete ∧ (t.slots.get k).state = .bound
      ∧ (t.draws.get k).status = .none ∧ (t.draws.get k).ask = none ∧ (t.draws.get k).openFrame = .none
      ∧ t.unit = s.unit ∧ t.view = s.view ∧ t.ground = s.ground ∧ t.receive = s.receive)

/-- A seat sample that reads not seated before the window's last is counted, and the window goes on. The window's last,
not seated, gives NOT_SEATED and the reason SEAT, and DWELL with the press on; where A_rel has been reached, the release
follows at once (R95, R96, R101). That SEAT_WINDOW_END and the last SEAT_SAMPLE are one event is the model's choice (log
13). -/
def Obligations.SeatWindowRunsOut : Prop :=
  ∀ (k : Fin 4) (s : State), s.inReset = none → (s.engines.get k).phase = .seat → (s.slots.get k).state = .bound →
    ((s.engines.get k).samples + 1 < (s.boundRecipe k).seatWindow →
      ∃ n m, exec (.seatSample k false) s = .next { elapse n s with
        pins := { s.pins with heads := s.pins.heads.modify k (fun x => { x with seat := false }) }
        engines := (elapse n s).engines.modify k (fun x => { x with ms := m, samples := x.samples + 1 }) })
    ∧ ((s.boundRecipe k).seatWindow ≤ (s.engines.get k).samples + 1 →
      ∃ t, exec (.seatSample k false) s = .next t ∧ exec (.seatWindowEnd k) s = .next t
      ∧ (s.reached k .rel = false → (t.engines.get k).phase = .dwell ∧ (t.engines.get k).press = (s.engines.get k).press
        ∧ t.slots = s.slots.modify k (fun x => { x with record := { x.record with
          seat := .notSeated, reasons := x.record.reasons.add .seat } }))
      ∧ (s.reached k .rel = true → (t.engines.get k).press = false ∧ (t.engines.get k).recipe = none
        ∧ (t.engines.get k).phase = (if (s.engines.get k).out then .out else .idle)
        ∧ ((s.slots.get k).record.passed = false → (t.slots.get k).state = .settled
          ∧ (t.slots.get k).record.verdict = some .reject ∧ (t.slots.get k).record.reasons.seat = true))
      ∧ t.unit = s.unit ∧ t.view = s.view ∧ t.ground = s.ground ∧ t.receive = s.receive)

/-- A seated sample ends the window with SEATED and decides the drive phase by the first case that applies. On a TRIPPED
channel the phase ends before it starts, with TRIP and DRIVE_TRIP for OVERCURRENT and ABORTED otherwise; with A_rel
reached it ends with ANGLE and τ 0; before A_dl the head waits for its drive draw or has it granted; from A_dl on the
draw opens forced and the torque phase begins. A phase that ends before it starts gives DWELL, or the release where
A_rel is reached (R95, R97, R101, R123, R150, R151). -/
def Obligations.SeatedCapDecidesTheDrive : Prop :=
  ∀ (k : Fin 4) (s : State), s.inReset = none → (s.engines.get k).phase = .seat → (s.slots.get k).state = .bound →
    (s.draws.get k).status = .none →
    let x := s.channels.get k
    let q := s.boundRecipe k
    ∃ t, exec (.seatSample k true) s = .next t
      ∧ (∀ kind, ((x.state = .tripped ∧ x.causes.overcurrent = true ∧ kind = .trip)
          ∨ (x.state = .tripped ∧ x.causes.overcurrent = false ∧ kind = .aborted)
          ∨ (x.state ≠ .tripped ∧ s.reached k .rel = true ∧ kind = .angle)) →
        let u := (t.slots.get k).record
        let ended := u.seat = .seated ∧ u.torqueEnd = kind ∧ u.tauFinal = 0 ∧ u.tauPeak = 0
          ∧ (kind = .trip → u.reasons.driveTrip = true)
        (s.reached k .rel = false → (t.engines.get k).phase = .dwell
          ∧ (t.engines.get k).press = (s.engines.get k).press ∧ (t.slots.get k).state = .bound ∧ ended)
        ∧ (s.reached k .rel = true → (t.engines.get k).press = false ∧ (t.engines.get k).recipe = none
          ∧ (t.engines.get k).phase = (if (s.engines.get k).out then .out else .idle)
          ∧ ((s.slots.get k).record.passed = false → (t.slots.get k).state = .settled ∧ ended
            ∧ u.verdict ≠ none)))
      ∧ (x.state ≠ .tripped → s.reached k .rel = false → s.reached k .dl = false →
        (t.slots.get k).record.seat = .seated
        ∧ (((t.engines.get k).phase = .driveWait ∧ (t.draws.get k).status = .none
          ∧ (t.draws.get k).ask = some ⟨.drive, q.driveUnits, q.aDl, q.aRel⟩)
        ∨ ((t.engines.get k).phase = .driveAnnounced ∧ (t.draws.get k).status = .pending
          ∧ (t.draws.get k).openFrame = .inQueue)))
      ∧ (x.state = .off → s.reached k .rel = false → s.reached k .dl = true → (s.pins.heads.get k).oc = false →
        (t.slots.get k).record.seat = .seated
        ∧ (t.engines.get k).phase = .torque ∧ (t.draws.get k).status = .openForced
        ∧ (t.slots.get k).record.forcedDrive = true
        ∧ (t.channels.get k).state = (if q.threadFindTime = 0 then .gap else .reverse))
      ∧ t.unit = s.unit ∧ t.view = s.view ∧ t.ground = s.ground ∧ t.receive = s.receive

/-! ## The drive -/

/-- A torque step in RAMP or SETTLE, short of the time limit: below the settle threshold the duty rises by the ramp step
up to the ceiling and the settle count is 0; at or above it the count rises and the duty is held under the ceiling; at
the settle samples the phase ends with DONE, τ_final the least of the settled run, the channel OFF with its count 0
(R113, R117, R118, R119, R121, R122). -/
def Obligations.TorqueStepRampsSettlesAndEnds : Prop :=
  ∀ (k : Fin 4) (counts : BitVec 12) (s : State), s.inReset = none →
    ((s.channels.get k).step = .ramp ∨ (s.channels.get k).step = .settle) →
    (s.channels.get k).steps + 1 < (s.boundRecipe k).timeLimit → (s.slots.get k).state = .bound →
    (s.engines.get k).phase = .torque → s.reached k .rel = false →
    let x := s.channels.get k
    let r := s.boundRecipe k
    let u := s.shareOf .drive
    let ceiling := if u ≤ s.capacity .drive then r.maxDuty else r.maxDuty * s.capacity .drive / u
    let tau := (counts.toNat - s.profileField (fun p => p.torqueZero k.val))
      * s.profileField (fun p => p.torqueGain k.val) / 1024
    let peak := max (x.peak.getD 0) tau
    let run := if x.step = .settle then x.settle + 1 else 1
    let least := if x.step = .settle then min (x.least.getD tau) tau else tau
    ∃ t, exec (.torqueStep k counts) s = .next t
      ∧ (tau < r.target - r.band → ∃ ms, t.channels.get k = { x with
          steps := x.steps + 1, step := .ramp, settle := 0, least := none, last := some tau, peak := some peak
          ceiling := ceiling, duty := min ceiling (x.duty + r.rampStep), ms := ms })
      ∧ (r.target - r.band ≤ tau → run < r.settleSamples → ∃ ms, t.channels.get k = { x with
          steps := x.steps + 1, step := .settle, settle := run, least := some least, last := some tau
          peak := some peak, ceiling := ceiling, duty := min ceiling x.duty, ms := ms })
      ∧ (r.target - r.band ≤ tau → r.settleSamples ≤ run →
        (t.channels.get k).state = .off ∧ (t.channels.get k).bridge = .off ∧ (t.channels.get k).duty = 0
        ∧ (t.channels.get k).step = .none ∧ (t.channels.get k).count = 0 ∧ (t.engines.get k).phase = .dwell
        ∧ (t.slots.get k).record.torqueEnd = .done ∧ (t.slots.get k).record.tauFinal = least
        ∧ (t.slots.get k).record.tauPeak = peak)
      ∧ t.unit = s.unit ∧ t.view = s.view ∧ t.ground = s.ground ∧ t.receive = s.receive

/-- The step at which the step count reaches t_tf ends THREAD-FIND with every switch off; the step of GAP ends it with
FORWARD in RAMP at the start duty under the ceiling, where the comparator is inactive; both short of the time limit
(R112, R115, R116). The step of the time limit, not ended with DONE, ends the phase with TIME: τ_final is the sample of
a RAMP or SETTLE step, and the last τ or 0 where the step was THREAD-FIND or GAP; the channel is OFF with its count 0
(R120, R121, R122, R130). That each of these rows is the TORQUE_STEP of its moment is the model's choice (log 13), and
so is the ceiling held at the step of GAP (log 33). -/
def Obligations.ThreadFindGapAndTimeLimitEnd : Prop :=
  (∀ (k : Fin 4) (counts : BitVec 12) (s : State), s.inReset = none →
    (s.channels.get k).steps + 1 < (s.boundRecipe k).timeLimit →
    let x := s.channels.get k
    let r := s.boundRecipe k
    let u := s.shareOf .drive
    let ceiling := if u ≤ s.capacity .drive then r.maxDuty else r.maxDuty * s.capacity .drive / u
    (x.step = .threadFind → r.threadFindTime ≤ x.steps + 1 → ∃ t, exec (.threadFindEnd k counts) s = .next t
      ∧ exec (.torqueStep k counts) s = .next t
      ∧ (∃ ms, t.channels.get k = { x with
          state := .gap, step := .gap, steps := x.steps + 1, duty := 0, bridge := .off, ceiling := ceiling, ms := ms })
      ∧ t.slots = s.slots ∧ t.draws = s.draws ∧ t.unit = s.unit ∧ t.view = s.view ∧ t.ground = s.ground)
    ∧ (x.step = .gap → (s.pins.heads.get k).oc = false → ∃ t, exec (.gapEnd k counts) s = .next t
      ∧ exec (.torqueStep k counts) s = .next t
      ∧ (∃ ms, t.channels.get k = { x with
          state := .forward, step := .ramp, steps := x.steps + 1, duty := min ceiling r.startDuty
          ceiling := ceiling, ms := ms })
      ∧ t.slots = s.slots ∧ t.draws = s.draws ∧ t.unit = s.unit ∧ t.view = s.view ∧ t.ground = s.ground))
  ∧ (∀ (k : Fin 4) (counts : BitVec 12) (s : State), s.inReset = none → (s.slots.get k).state = .bound →
    (s.engines.get k).phase = .torque → s.reached k .rel = false →
    (s.boundRecipe k).timeLimit ≤ (s.channels.get k).steps + 1 →
    let tau := (counts.toNat - s.profileField (fun p => p.torqueZero k.val))
      * s.profileField (fun p => p.torqueGain k.val) / 1024
    let threshold := (s.boundRecipe k).target - (s.boundRecipe k).band
    let run := if (s.channels.get k).step = .settle then (s.channels.get k).settle + 1 else 1
    ∀ final, (((s.channels.get k).step = .ramp ∨ (s.channels.get k).step = .settle)
        ∧ (threshold ≤ tau → run < (s.boundRecipe k).settleSamples) ∧ final = tau)
      ∨ ((s.channels.get k).step = .threadFind ∧ final = (s.channels.get k).last.getD 0)
      ∨ ((s.channels.get k).step = .gap ∧ (s.pins.heads.get k).oc = false
        ∧ final = (s.channels.get k).last.getD 0) →
    ∃ t, exec (.torqueTimeLimit k counts) s = .next t ∧ exec (.torqueStep k counts) s = .next t
      ∧ (t.channels.get k).state = .off ∧ (t.channels.get k).bridge = .off ∧ (t.channels.get k).duty = 0
      ∧ (t.channels.get k).step = .none ∧ (t.channels.get k).count = 0 ∧ (t.engines.get k).phase = .dwell
      ∧ (t.slots.get k).record.torqueEnd = .time ∧ (t.slots.get k).record.tauFinal = final
      ∧ t.unit = s.unit ∧ t.view = s.view ∧ t.ground = s.ground ∧ t.receive = s.receive)

/-- OCk active on a channel in FORWARD or REVERSE trips it with OVERCURRENT, raises its count up to 3, and ends a torque
phase with TRIP, DRIVE_TRIP and the last τ; at the third trip the head carries the out mark. A forced run of the motor
ends. On another channel the input changes its level alone (R102, R121, R124, R127, R130, R131). -/
def Obligations.OvercurrentTripsADrivingChannel : Prop :=
  ∀ (k : Fin 4) (s : State), s.inReset = none →
    let x := s.channels.get k
    ((x.state = .forward ∨ x.state = .reverse) → ∃ t, exec (.overcurrentTrip k) s = .next t
      ∧ (t.channels.get k).state = .tripped ∧ (t.channels.get k).duty = 0 ∧ (t.channels.get k).bridge = .off
      ∧ (t.channels.get k).step = .none ∧ (t.channels.get k).causes = { x.causes with overcurrent := true }
      ∧ (t.channels.get k).count = min 3 (x.count + 1) ∧ t.forces k .drive = false
      ∧ (x.step ≠ .none → (s.slots.get k).state = .bound → (s.engines.get k).phase = .torque →
        s.reached k .rel = false → (t.engines.get k).phase = .dwell
        ∧ (t.engines.get k).out = ((s.engines.get k).out || decide (2 ≤ x.count))
        ∧ (t.slots.get k).record.torqueEnd = .trip ∧ (t.slots.get k).record.tauFinal = x.last.getD 0
        ∧ (t.slots.get k).record.reasons.driveTrip = true)
      ∧ t.unit = s.unit ∧ t.view = s.view ∧ t.ground = s.ground ∧ t.receive = s.receive)
    ∧ (x.state = .off ∨ x.state = .gap ∨ x.state = .tripped → exec (.overcurrentTrip k) s = .next { s with
      pins := { s.pins with heads := s.pins.heads.modify k (fun p => { p with oc := true }) } })

/-- FORCE-OUTPUT is refused outside SAFE and while GUARD is open. With its five arguments in order it is BUSY while a
run is in force or the head holds a closure, refused for a motor whose channel keeps OVERCURRENT, and otherwise switches
the named output on for the duration, 1 to 2000 ms, the motor FORWARD at the duty; a comparator already active trips the
motor's channel at once, which ends the run, and at its third trip takes an idle head OUT (R102, R124, R130, R131,
R188). A forced run that ends by time switches its output off: the valve, the press, or the motor, whose channel returns
to TRIPPED with its kept causes or to OFF; nothing else but the time changes (R131, R189). -/
def Obligations.ForcedRunsBeginAndEnd : Prop :=
  (∀ (s : State) (args : List Byte) (rest : List Frame), s.asked 7 args rest →
    ((s.unit.mode ≠ .safe ∨ s.pins.guardOpen = true) → exec .forceOutput s = .next (s.answered rest [7, 2]))
    ∧ (s.unit.mode = .safe → s.pins.guardOpen = false →
      ((args.length ≠ 5 ∨ (∃ k, s.hasHead k = true ∧ u8 args 0 = k.val
          ∧ (2 < u8 args 1 ∨ u16 args 3 = 0 ∨ 2000 < u16 args 3))) →
        exec .forceOutput s = .next (s.answered rest [7, 3]))
      ∧ (args.length = 5 → s.headCount ≤ u8 args 0 → exec .forceOutput s = .next (s.answered rest [7, 4]))
      ∧ ∀ k, args.length = 5 → s.hasHead k = true → u8 args 0 = k.val → u8 args 1 ≤ 2 → 1 ≤ u16 args 3 →
        u16 args 3 ≤ 2000 →
        let run (o : Output) : Service := { s.service with forced := some ⟨k, o, u8 args 2, 100 * u16 args 3⟩ }
        ((s.service.forced.isSome = true ∨ (s.engines.get k).inClosure = true) →
          exec .forceOutput s = .next (s.answered rest [7, 1]))
        ∧ (s.service.forced = none → (s.engines.get k).inClosure = false →
          (u8 args 1 = 0 → exec .forceOutput s = .next ({ s with
            service := run .steam
            engines := s.engines.modify k (fun x => { x with steam := true }) }.answered rest [7, 0]))
          ∧ (u8 args 1 = 1 → exec .forceOutput s = .next ({ s with
            service := run .press
            engines := s.engines.modify k (fun x => { x with press := true }) }.answered rest [7, 0]))
          ∧ (u8 args 1 = 2 → (s.channels.get k).causes.overcurrent = true →
            exec .forceOutput s = .next (s.answered rest [7, 2]))
          ∧ (u8 args 1 = 2 → (s.channels.get k).causes.overcurrent = false → (s.pins.heads.get k).oc = false →
            exec .forceOutput s = .next ({ s with
              service := run .drive
              channels := s.channels.modify k (fun x => { x with state := .forward, duty := u8 args 2 }) }.answered
                rest [7, 0]))
          ∧ (u8 args 1 = 2 → (s.channels.get k).causes.overcurrent = false → (s.pins.heads.get k).oc = true →
            (s.channels.get k).step = .none →
            exec .forceOutput s = .next ({ s with
              engines := if 2 ≤ (s.channels.get k).count
                then s.engines.modify k (fun x => { x with phase := if x.phase = Phase.idle then Phase.out else x.phase })
                else s.engines
              channels := s.channels.modify k (fun x => { x with
                state := .tripped, duty := 0, bridge := .off, causes := { x.causes with overcurrent := true }
                count := min 3 (x.count + 1) }) }.answered rest [7, 0])))))
  ∧ (∀ (s : State) (r : ForcedRun), s.inReset = none → s.service.forced = some r →
    ∃ n, exec .forcedRunEnd s = .next { elapse n s with
      service := { (elapse n s).service with forced := none }
      engines := (elapse n s).engines.modify r.head (fun x => match r.output with
        | .steam => { x with steam := false }
        | .press => { x with press := false }
        | .drive => x)
      channels := (elapse n s).channels.modify r.head (fun x => match r.output with
        | .drive => { x with
            state := if x.causes = ⟨false, false, false⟩ then .off else .tripped, duty := 0, bridge := .off }
        | _ => x) })

/-- A PWM period begins when what is left of the 50 µs has passed (the model's choice, log 9), for every channel at once
(log 31): each channel's duty buffer becomes its duty in force, and its bridge takes the direction of its state. At
every moment of a period, at every duty and dead time, the two switches of a leg are never on together, and a bridge
that drives neither way has every switch off (R109, R110). -/
def Obligations.PwmPeriodTakesTheDutyAndShortsNoLeg : Prop :=
  (∀ s : State, s.inReset = none → s.pwm ≤ 5 →
    exec .pwmPeriodStart s = .next { elapse (5 - s.pwm) s with
      pwm := 0
      channels := (elapse (5 - s.pwm) s).channels.map (fun x => { x with
        force := x.duty
        bridge := match x.state with | .forward => .forward | .reverse => .reverse | _ => .off }) })
  ∧ ∀ (x : Channel) (dead t : Nat),
    ((x.bridgeAt dead t).ah = true → (x.bridgeAt dead t).al = false)
    ∧ ((x.bridgeAt dead t).bh = true → (x.bridgeAt dead t).bl = false)
    ∧ (x.bridge = .off → x.bridgeAt dead t = ⟨false, false, false, false⟩)

/-! ## The jar at intake close and at its release -/

/-- Intake close reached by the pocket of an OPEN slot: in STAND and SAFE the jar is SKIPPED with HALTED alone; in RUN
an empty pocket is EMPTY, a damaged jar SKIPPED without a reason, a jar without a usable recipe SKIPPED with RECIPE, one
on a head that is OUT SKIPPED with HEAD_OUT, and a jar of a usable recipe on a head that is not OUT, no threshold of
that recipe passed yet, is bound: the slot BOUND with F_req = ceil(16·base·h / h_nom), LOW_FILL for that condition, and
the head in BOUND with the recipe. A jar without gauge data is UNGAUGED with the default recipe (R72 to R75, R85, R158).
-/
def Obligations.IntakeCloseDecidesTheJar : Prop :=
  ∀ (k : Fin 4) (s : State), s.inReset = none → s.tracker.begun = true → s.tracker.motion ≠ .stalled →
    s.travelDefined k = true → (s.tracks.get k).heldBack = false → (s.slots.get k).state = .opened →
    (s.engines.get k).recipe = none →
    let moved := advancePhase k (takePins .quiet s)
    moved.due k (some (moved.travel k)) = [.intakeClose] →
    let r := (s.slots.get k).record
    let given := if r.gauged then r.condition else some .ungauged
    let chosen := if r.gauged then r.recipe else s.recipeRef (s.profileField Profile.defaultRecipe)
    ∃ t, exec (.thresholdReached k .quiet) s = .next t
      ∧ ((s.unit.mode = .stand ∨ s.unit.mode = .safe) → (t.slots.get k).state = .settled
        ∧ (t.slots.get k).record.verdict = some .skipped ∧ (t.slots.get k).record.reasons = { halted := true })
      ∧ (s.unit.mode = .run → given = some .noJar → (t.slots.get k).state = .settled
        ∧ (t.slots.get k).record.verdict = some .empty ∧ (t.slots.get k).record.reasons = {})
      ∧ (s.unit.mode = .run → given = some .damaged → (t.slots.get k).state = .settled
        ∧ (t.slots.get k).record.verdict = some .skipped ∧ (t.slots.get k).record.reasons = {})
      ∧ (s.unit.mode = .run → given ≠ some .noJar → given ≠ some .damaged →
        (∀ n, chosen = .number n → s.usable n = false) → (t.slots.get k).state = .settled
        ∧ (t.slots.get k).record.verdict = some .skipped ∧ (t.slots.get k).record.reasons = { recipe := true })
      ∧ (s.unit.mode = .run → given ≠ some .noJar → given ≠ some .damaged → ∀ n, chosen = .number n →
        s.usable n = true → (s.engines.get k).phase = .out → (t.slots.get k).state = .settled
        ∧ (t.slots.get k).record.verdict = some .skipped ∧ (t.slots.get k).record.reasons = { headOut := true }
        ∧ (t.engines.get k).phase = .out)
      ∧ (s.unit.mode = .run → given ≠ some .noJar → given ≠ some .damaged → ∀ n, chosen = .number n →
        s.usable n = true → (s.engines.get k).phase ≠ .out →
        let q := s.recipe n
        (∀ x ∈ [q.aCap, q.aFe, q.aFl, q.aFx, q.aDl, q.aRel], moved.travel k < x) →
        (t.slots.get k).state = .bound ∧ (t.engines.get k).phase = .bound ∧ (t.engines.get k).recipe = some n
        ∧ (t.slots.get k).record.condition = given
        ∧ (t.slots.get k).record.fReq
          = (16 * q.flushBase * (if r.gauged then r.headspace.getD q.hNom else q.hNom) + q.hNom - 1) / q.hNom
        ∧ (given = some .lowFill → (t.slots.get k).record.reasons.lowFill = true))
      ∧ t.unit = s.unit ∧ t.view = s.view ∧ t.ground = s.ground ∧ t.receive = s.receive

/-- A_rel reached by a head in DWELL releases the jar: the displacement D, 0 without a flush, 1000 where none is
required, else min(1000, floor(1000·F_eff / F_req)), and V_T give V = floor(V_T·D / 1000); the three checks add their
reasons to those held, and the verdict is PASS exactly when no reason is held; the press is off and the head IDLE, or
OUT with its mark cleared. Before the discharge the slot is SETTLED and its VERDICT queued, or waiting on a refusal.
After it the frame is offered once, and the slot reopens where its travel lies in the intake window, else is SETTLED
(R77 to R79, R101, R157, R159, R162 to R164, R167). -/
def Obligations.ReleaseJudgesTheJar : Prop :=
  ∀ (k : Fin 4) (s : State), s.inReset = none → s.tracker.begun = true → s.tracker.motion ≠ .stalled →
    s.travelDefined k = true → (s.tracks.get k).heldBack = false → (s.slots.get k).state = .bound →
    (s.engines.get k).phase = .dwell →
    let moved := advancePhase k (takePins .quiet s)
    moved.due k (some (moved.travel k)) = [.rel] →
    let r := (s.slots.get k).record
    let q := s.boundRecipe k
    let d := if r.flushEnd = .none then 0 else if r.fReq = 0 then 1000 else min 1000 (1000 * r.fEff / r.fReq)
    let v := attainableVacuum q (r.fill.getD q.assumedFill) * d / 1000
    let reasons : Reasons := { r.reasons with
      vacuumLow := r.reasons.vacuumLow || decide (v < q.vMin)
      torqueLow := r.reasons.torqueLow || decide (r.tauFinal < q.tauMin)
      torqueHigh := r.reasons.torqueHigh || decide (q.tauMax < r.tauPeak) }
    let judged : Record := { r with
      v := v, reasons := reasons, verdict := some (if reasons = {} then .pass else .reject) }
    let frame : TxFrame := ⟨⟨s.unit.node, .verdict, verdictPayload ((s.slots.get k).pocket.getD 0) judged⟩, 0,
      s.transmit.ticket⟩
    let window := s.discharge ≤ moved.travel k ∨ moved.travel k < s.intakeClose
    ∃ t, exec (.thresholdReached k .quiet) s = .next t
      ∧ t.transmit.normal = s.transmit.normal ++ (if s.accepts .verdict [] then [frame] else [])
      ∧ (r.passed = false → t.slots.get k = { s.slots.get k with state := .settled, record := if s.accepts .verdict []
          then { judged with delivery := .queued, ticket := some s.transmit.ticket }
          else { judged with delivery := .waiting, verdictPending := true } })
      ∧ (r.passed = true → t.slots.get k = if window then ⟨.opened, (s.slots.get k).pocket, {}⟩
        else { s.slots.get k with state := .settled, record := if s.accepts .verdict []
          then { judged with delivery := .queued, ticket := some s.transmit.ticket } else judged })
      ∧ (t.engines.get k).press = false ∧ (t.engines.get k).recipe = none ∧ (t.engines.get k).out = false
      ∧ (t.engines.get k).phase = (if (s.engines.get k).out then .out else .idle)
      ∧ t.unit = s.unit ∧ t.view = s.view ∧ t.ground = s.ground ∧ t.receive = s.receive

/-- R161: on a table that passes its checks, V_T is V_0 up to T_0 and V_5 from T_5 on; between them one segment holds
Tf, and V_T is the floor of its line, from V_i at T_i up to at most V_(i+1); V_T lies within 0 .. 999. -/
def Obligations.AttainableVacuumIsInterpolated : Prop :=
  ∀ (q : Recipe) (tf : Nat), q.tableOk = true →
    (tf ≤ q.tableT 0 → attainableVacuum q tf = q.tableV 0)
    ∧ (q.tableT 5 ≤ tf → attainableVacuum q tf = q.tableV 5)
    ∧ (q.tableT 0 ≤ tf → tf < q.tableT 5 → ∃ i, i < 5 ∧ q.tableT i ≤ tf ∧ tf < q.tableT (i + 1)
      ∧ ∀ j, j < 5 → q.tableT j ≤ tf → tf < q.tableT (j + 1) → j = i)
    ∧ (∀ i, i < 5 → q.tableT i ≤ tf → tf < q.tableT (i + 1) →
      1 ≤ q.tableT (i + 1) - q.tableT i
      ∧ attainableVacuum q tf
        = q.tableV i + (q.tableV (i + 1) - q.tableV i) * (tf - q.tableT i) / (q.tableT (i + 1) - q.tableT i)
      ∧ q.tableV i ≤ attainableVacuum q tf ∧ attainableVacuum q tf ≤ q.tableV (i + 1)
      ∧ (tf = q.tableT i → attainableVacuum q tf = q.tableV i))
    ∧ attainableVacuum q tf ≤ 999

/-! ## Service requests -/

/-- The four reads, in any mode: the answer stands at the tail of the normal part, or is dropped by a full one, and
nothing else changes but the ask's leaving. READ-STATE gives the 68 bytes of its layout, eight for each head and 0FFH
for an absent one; READ-POCKET of one of the station's heads the 30 bytes of its layout, and NO_SUCH for another;
READ-VIEW up to 12 entries from the start index, and BAD_ARGS beyond the table; READ-RECORD the stored bytes with their
check, or the active copy with its condition, all 0 before the load completes, and NO_SUCH above record 8 (R181, R183 to
R186). -/
def Obligations.ReadsAreAnswered : Prop :=
  ∀ (s : State) (args : List Byte) (rest : List Frame),
    (s.asked 1 args rest → (args ≠ [] → exec .readState s = .next (s.answered rest [1, 3]))
      ∧ (args = [] →
        let headData (k : Fin 4) : List Byte := if s.hasHead k = true then
            [byte (s.engines.get k).phase.code, byte (s.channels.get k).state.code,
              byte ((if (s.channels.get k).causes.overcurrent then 1 else 0)
                + (if (s.channels.get k).causes.guard then 2 else 0) + (if (s.channels.get k).causes.safe then 4 else 0)
                + (if (s.engines.get k).out then 128 else 0)),
              byte (s.channels.get k).count, byte (s.draws.get k).status.code,
              optByte ((s.draws.get k).terms.map (fun a => a.cls.code)),
              optByte ((s.draws.get k).terms.map (fun a => a.units)), byte (s.draws.get k).openFrame.code]
          else [255, 255, 255, 255, 255, 255, 255, 255]
        let data : List Byte := [byte s.unit.mode.code, byte s.unit.fault.code, byte s.unit.causeKind.code,
            byte s.unit.causeFault.code, byte s.unit.held.code, optByte s.unit.g, optByte s.unit.p0, byte s.unit.node,
            byte s.headCount, byte s.pocketCount, byte (s.capacity .steam), byte (s.capacity .drive),
            byte s.tracker.motion.code, flagByte s.tracker.valid, byte s.tracker.c]
          ++ le16 (if s.tracker.measured then s.tracker.l else 0)
          ++ [byte s.tracker.phi, flagByte s.view.doubt, byte s.view.clean, byte (s.shareOf .steam),
            byte (s.pendOf .steam), byte (s.roomOf .steam), byte (s.shareOf .drive), byte (s.pendOf .drive),
            byte (s.roomOf .drive), byte s.view.entries.length, byte (flagBits s.settings.usable),
            flagByte s.settings.good, byte s.receive.errors.check, byte s.receive.errors.framing,
            byte s.receive.errors.truncated, byte s.receive.errors.length, byte s.receive.errors.overrun,
            optByte (s.service.forced.map (fun r => r.head.val)),
            optByte (s.service.forced.map (fun r => r.output.code))]
          ++ headData 0 ++ headData 1 ++ headData 2 ++ headData 3
        data.length = 68 ∧ exec .readState s = .next (s.answered rest ([1, 0] ++ data))))
    ∧ (s.asked 2 args rest → (args.length ≠ 1 → exec .readPocket s = .next (s.answered rest [2, 3]))
      ∧ ∀ b, args = [b] → (s.headCount ≤ b.toNat → exec .readPocket s = .next (s.answered rest [2, 4]))
        ∧ ∀ k, s.hasHead k = true → b.toNat = k.val →
          let r := (s.slots.get k).record
          let marks := flagBits [r.lateData, r.replaced, r.passed, r.forcedSteam, r.forcedDrive, r.shared,
            r.verdictPending]
          let recipe := match r.recipe with | .absent => 254 | .unusable => 255 | .number n => n
          let data : List Byte := [byte k.val, optByte (s.slots.get k).pocket, byte (s.slots.get k).state.code,
              flagByte r.gauged, byte recipe, optByte (r.condition.map Condition.code)] ++ optWord r.fill
            ++ [byte (r.headspace.getD 0), byte marks, byte r.cap.code] ++ le24 r.fReq ++ le24 r.fEff
            ++ [byte r.flushEnd.code, byte r.seat.code] ++ le16 r.tauFinal ++ le16 r.tauPeak
            ++ [byte r.torqueEnd.code] ++ le16 r.reasons.bits ++ [optByte (r.verdict.map Verdict.code)] ++ le16 r.v
            ++ [byte r.delivery.code]
          data.length = 30 ∧ exec .readPocket s = .next (s.answered rest ([2, 0] ++ data)))
    ∧ (s.asked 3 args rest → (args.length ≠ 1 → exec .readView s = .next (s.answered rest [3, 3]))
      ∧ ∀ b, args = [b] → let shown := (s.view.entries.drop b.toNat).take 12
        (s.view.entries.length < b.toNat → exec .readView s = .next (s.answered rest [3, 3]))
        ∧ (b.toNat ≤ s.view.entries.length → exec .readView s = .next (s.answered rest
          ([3, 0, byte s.view.entries.length, b, byte shown.length] ++ (shown.map (fun e =>
            [byte e.group, byte e.head, byte e.cls.code, byte e.units, byte e.life])).flatten))))
    ∧ (s.asked 4 args rest → (args.length ≠ 2 → exec .readRecord s = .next (s.answered rest [4, 3]))
      ∧ ∀ c n, args = [c, n] → (1 < c.toNat → exec .readRecord s = .next (s.answered rest [4, 3]))
        ∧ (c.toNat ≤ 1 → 8 < n.toNat → exec .readRecord s = .next (s.answered rest [4, 4]))
        ∧ (c.toNat = 0 → n.toNat ≤ 8 → exec .readRecord s = .next (s.answered rest
          ([4, 0, 0, n, flagByte (goodSum (storedRecord s.settings.store n.toNat))]
            ++ storedRecord s.settings.store n.toNat)))
        ∧ (c.toNat = 1 → n.toNat = 0 → exec .readRecord s = .next (s.answered rest
          ([4, 0, 1, n, flagByte s.settings.good]
            ++ if s.settings.profile = [] then List.replicate 32 0 else s.settings.profile)))
        ∧ (c.toNat = 1 → 1 ≤ n.toNat → n.toNat ≤ 8 → exec .readRecord s = .next (s.answered rest
          ([4, 0, 1, n, flagByte (s.usable (n.toNat - 1))]
            ++ if s.recipe (n.toNat - 1) = [] then List.replicate 64 0 else s.recipe (n.toNat - 1)))))

/-- A WRITE-RECORD is refused in START, RUN and STAND; elsewhere a record of another length, with a bad sum or with
fields that fail their checks is BAD_ARGS, a number above 8 NO_SUCH, and a good one begins a write of 6 ms without an
answer; that the store keeps the old bytes until the completion is the model's choice (log 36). At the completion the
store reads the new bytes at the record's place and the old ones at every other address, no request is in progress, and
the OK answer with the record number is offered (R178, R179). -/
def Obligations.WritesAreCheckedAndStored : Prop :=
  ∀ s : State, (∀ args rest, s.asked 5 args rest →
      ((s.unit.mode = .start ∨ s.unit.mode = .run ∨ s.unit.mode = .stand) →
        exec .writeRecord s = .next (s.answered rest [5, 2]))
      ∧ ((s.unit.mode = .learn ∨ s.unit.mode = .announce ∨ s.unit.mode = .safe ∨ s.unit.mode = .fault) →
        (args = [] → exec .writeRecord s = .next (s.answered rest [5, 3]))
        ∧ ∀ b r, args = b :: r → let good := r.length = (if b.toNat = 0 then 32 else 64) ∧ goodSum r = true
            ∧ (b.toNat = 0 → Profile.fieldsOk r = true)
            ∧ (b.toNat ≠ 0 → Recipe.fieldsOk r = true
              ∧ (s.settings.good = true → Recipe.orderAgainst s.settings.profile r = true))
          (8 < b.toNat → exec .writeRecord s = .next (s.answered rest [5, 4]))
          ∧ (b.toNat ≤ 8 → ¬good → exec .writeRecord s = .next (s.answered rest [5, 3]))
          ∧ (b.toNat ≤ 8 → good → exec .writeRecord s = .next { s.withFrames rest with
              service := { s.service with request := .write, write := some ⟨b.toNat, r, 600⟩ } })))
    ∧ ∀ w, s.inReset = none → s.service.write = some w → Store.wf s.settings.store = true →
      s.transmit.silenced = false → s.transmit.normalCount < 16 →
      ∃ t n, exec .storeWriteCompletion s = .next t
        ∧ (∀ a, Store.read t.settings.store a
          = if recordAddress w.number ≤ a ∧ a < recordAddress w.number + w.bytes.length
            then w.bytes.getD (a - recordAddress w.number) 0 else Store.read s.settings.store a)
        ∧ t = { elapse n s with
            settings := { (elapse n s).settings with store := t.settings.store }
            service := { (elapse n s).service with request := .none, write := none }
            transmit := { (elapse n s).transmit with
              normal := s.transmit.normal
                ++ [⟨⟨s.unit.node, .answer, [5, 0, byte w.number]⟩, 0, s.transmit.ticket⟩]
              ticket := s.transmit.ticket + 1 } }

/-- CLEAR-HEAD in a running mode takes an OUT head to IDLE, clears its out mark and its channel's count, and answers
with the head, its state and the count; another head is NO_SUCH, and the other modes refuse (R130, R187). -/
def Obligations.ClearHeadReturnsAHead : Prop :=
  ∀ (s : State) (args : List Byte) (rest : List Frame), s.asked 6 args rest →
    (s.unit.mode.running = false → exec .clearHead s = .next (s.answered rest [6, 2]))
    ∧ (s.unit.mode.running = true →
      (args.length ≠ 1 → exec .clearHead s = .next (s.answered rest [6, 3]))
      ∧ ∀ b, args = [b] → (s.headCount ≤ b.toNat → exec .clearHead s = .next (s.answered rest [6, 4]))
        ∧ ∀ k, s.hasHead k = true → b.toNat = k.val →
          let phase := if (s.engines.get k).phase = .out then Phase.idle else (s.engines.get k).phase
          exec .clearHead s = .next ({ s with
            engines := s.engines.modify k (fun x => { x with phase := phase, out := false })
            channels := s.channels.modify k (fun x => { x with count := 0 }) }.answered rest
              [6, 0, byte k.val, byte phase.code, 0]))

/-- A RESTART without arguments queues its OK answer and is in progress; dropped by a full queue, it is not made. A code
that names no request is NO_SUCH. While a request is in progress every ask is BUSY, a code without a name too (R181,
R182, R190). -/
def Obligations.RestartUnknownAndBusy : Prop :=
  ∀ s : State,
    (∀ args rest, s.asked 8 args rest →
      (args ≠ [] → exec .restart s = .next (s.answered rest [8, 3]))
      ∧ (args = [] → s.transmit.normalCount < 16 → exec .restart s = .next { s.answered rest [8, 0] with
          service := { s.service with request := .restart } })
      ∧ (args = [] → 16 ≤ s.transmit.normalCount → exec .restart s = .next (s.withFrames rest)))
    ∧ ∀ f rest, s.delivers .ask f rest → s.transmit.silenced = false →
      ((f.code = 0 ∨ 8 < f.code) → exec .unknownRequest s = .next (s.answered rest
        [byte f.code, if s.service.request = .none then 4 else 1]))
      ∧ (s.service.request ≠ .none → ∀ p ∈ [(1, Instr.readState), (2, .readPocket), (3, .readView), (4, .readRecord),
          (5, .writeRecord), (6, .clearHead), (7, .forceOutput), (8, .restart)], f.code = p.1 →
        exec p.2 s = .next (s.answered rest [byte f.code, 1]))

/-! ## What every step keeps -/

/-- The transmit queue stays lawful: at most 16 normal frames and one HALT, never two DRAW-OPEN frames of one head
(R40). -/
def Obligations.TransmitQueueStaysLawful : Prop :=
  ∀ s t : State, s.transmit.lawful = true → step s = .next t → t.transmit.lawful = true

/-- The receive queue never holds more than 4 frames, every error count stays in 0 .. 255, and the store keeps its
canonical form (R58, R61). -/
def Obligations.ReceiveSideAndStoreStayLawful : Prop :=
  ∀ s t : State, s.receive.lawful = true → Store.wf s.settings.store = true → step s = .next t →
    t.receive.lawful = true ∧ Store.wf t.settings.store = true

/-- The view table never holds more than 32 entries, never two with one key, never one of the own group, and is empty in
the modes that keep no view (R134). -/
def Obligations.ViewStaysLawful : Prop :=
  ∀ s t : State, s.viewLawful = true → step s = .next t → t.viewLawful = true

/-- The tracker counts only with a good profile loaded, C stays below P once valid, and e and L stay in range (R1, R2,
R3). -/
def Obligations.TrackerStaysLawful : Prop :=
  ∀ s t : State, s.trackLawful = true → step s = .next t → t.trackLawful = true

/-- Every head stays lawful: a closure belongs to a BOUND slot, and a torque phase runs exactly in TORQUE; the draw
agrees with the head: STEAM-ANNOUNCED has a PENDING steam draw and FLUSH an open one, DRIVE-ANNOUNCED a PENDING drive
draw and TORQUE an open one, every other state none, and an ask stands only in the WAIT of its class; a channel drives
only in a torque phase or a forced run, its duty buffer is 0 whenever it is OFF, GAP or TRIPPED, and a steam valve is on
only in FLUSH with an open steam draw or in a forced run in SAFE; a reset in force finds every head IDLE and no torque
phase (R36, R88, R91, R97, R99, R108, R109, R112, R132, R140, R188). -/
def Obligations.HeadsStayLawful : Prop :=
  ∀ s t : State, s.headsLawful = true → step s = .next t → t.headsLawful = true

/-- Whatever command brings a lawful station to FAULT, the entry leaves every slot IDLE with its record cleared but for
the pocket number; every head in IDLE with no recipe, valve and press off, and no recipe threshold marked; every channel
TRIPPED with SAFE among its causes, OVERCURRENT kept, all switches off and no torque phase; every draw and ask gone, the
view empty and in doubt; no normal frame queued; no forced run and no RESTART in progress; and the group and the node
kept (R34, R64, R80, R107, R126, R132, R155, R189, R191). That the channels of absent heads trip too is the model's
reading (log 21). -/
def Obligations.EveryEntryToFaultClearsTheStation : Prop :=
  ∀ s t : State, s.headsLawful = true → s.unit.mode ≠ .fault → step s = .next t → t.unit.mode = .fault →
    t.unit.fault ≠ .none ∧ t.unit.g = s.unit.g ∧ t.unit.node = s.unit.node
    ∧ (∀ k, t.slots.get k = ⟨.idle, (s.slots.get k).pocket, {}⟩
      ∧ (t.engines.get k).phase = .idle ∧ (t.engines.get k).recipe = none ∧ (t.engines.get k).asking = false
      ∧ (t.engines.get k).samples = 0 ∧ (t.engines.get k).out = false ∧ (t.engines.get k).steam = false
      ∧ (t.engines.get k).press = false
      ∧ (∀ x : Threshold, x.isProfile = false → (t.tracks.get k).marks.get x = false)
      ∧ (t.channels.get k).state = .tripped ∧ (t.channels.get k).causes.safe = true
      ∧ ((s.channels.get k).causes.overcurrent = true → (t.channels.get k).causes.overcurrent = true)
      ∧ (t.channels.get k).duty = 0 ∧ (t.channels.get k).bridge = .off ∧ (t.channels.get k).step = .none
      ∧ t.draws.get k = {})
    ∧ t.view = ⟨[], true, 0⟩ ∧ t.refused = ⟨false, false⟩ ∧ t.transmit.normal = []
    ∧ t.service.forced = none ∧ t.service.request ≠ .restart

/-- The state after reset meets every law that the steps keep. -/
def Obligations.ResetIsLawful : Prop :=
  State.reset.transmit.lawful = true ∧ State.reset.receive.lawful = true
  ∧ Store.wf State.reset.settings.store = true ∧ State.reset.viewLawful = true ∧ State.reset.trackLawful = true
  ∧ State.reset.headsLawful = true

/-- Only a reset leaves FAULT, and only a reset ends the silence of a station: whatever the command, a station in FAULT
stays there with its place, and a silenced one holds nothing to send and sends nothing, unless a POWER or PIN reset
begins or a RESTART is made (R34, R35). -/
def Obligations.OnlyAResetLeavesFaultAndSilence : Prop :=
  ∀ s t : State, step s = .next t →
    (s.unit.mode = .fault → (t.unit.mode = .fault ∧ t.place = s.place) ∨ t.inReset.isSome = true ∨ t.restarted = true)
    ∧ (s.transmit.silent = true → t.transmit.silent = true ∨ t.inReset.isSome = true)
end

