-- ==== Sys2Proof/Laws/State.lean ====
section
/-! SUPPORT. What each update of the state leaves and changes, field by field, and the group of four heads. -/

namespace Sys2Proof

/-! ## The four heads -/

@[simp] theorem Four.get_modify_same {α : Type} (f : Four α) (k : Fin 4) (g : α → α) :
    (f.modify k g).get k = g (f.get k) := by
  match k with
  | 0 | 1 | 2 | 3 => rfl

theorem Four.get_modify_other {α : Type} (f : Four α) {j k : Fin 4} (g : α → α) (h : j ≠ k) :
    (f.modify k g).get j = f.get j := by
  match j, k with
  | 0, 0 | 1, 1 | 2, 2 | 3, 3 => exact absurd rfl h
  | 0, 1 | 0, 2 | 0, 3 | 1, 0 | 1, 2 | 1, 3 | 2, 0 | 2, 1 | 2, 3 | 3, 0 | 3, 1 | 3, 2 => rfl

theorem Four.get_modify {α : Type} (f : Four α) (j k : Fin 4) (g : α → α) :
    (f.modify k g).get j = if j = k then g (f.get j) else f.get j := by
  split
  · next h => subst h; exact Four.get_modify_same f j g
  · next h => exact Four.get_modify_other f g h

@[simp] theorem Four.get_map {α β : Type} (f : Four α) (k : Fin 4) (g : α → β) :
    (f.map g).get k = g (f.get k) := by
  match k with
  | 0 | 1 | 2 | 3 => rfl

@[simp] theorem Four.get_all {α : Type} (x : α) (k : Fin 4) : (Four.all x).get k = x := by
  match k with
  | 0 | 1 | 2 | 3 => rfl

theorem Four.ext_get {α : Type} (f g : Four α) (h : ∀ k, f.get k = g.get k) : f = g := by
  have h0 := h 0
  have h1 := h 1
  have h2 := h 2
  have h3 := h 3
  cases f
  cases g
  simp only [Four.get] at h0 h1 h2 h3
  subst h0 h1 h2 h3
  rfl

end Sys2Proof

namespace Sys2Proof.Machine
open Sys2Proof

/-! ## modEngine -/

@[simp] theorem modEngine_tracker (k : Fin 4) (f : Engine → Engine) (s : State) :
    (modEngine k f s).tracker = s.tracker := rfl
@[simp] theorem modEngine_unit (k : Fin 4) (f : Engine → Engine) (s : State) : (modEngine k f s).unit = s.unit := rfl
@[simp] theorem modEngine_announce (k : Fin 4) (f : Engine → Engine) (s : State) :
    (modEngine k f s).announce = s.announce := rfl
@[simp] theorem modEngine_transmit (k : Fin 4) (f : Engine → Engine) (s : State) :
    (modEngine k f s).transmit = s.transmit := rfl
@[simp] theorem modEngine_receive (k : Fin 4) (f : Engine → Engine) (s : State) :
    (modEngine k f s).receive = s.receive := rfl
@[simp] theorem modEngine_view (k : Fin 4) (f : Engine → Engine) (s : State) : (modEngine k f s).view = s.view := rfl
@[simp] theorem modEngine_refused (k : Fin 4) (f : Engine → Engine) (s : State) :
    (modEngine k f s).refused = s.refused := rfl
@[simp] theorem modEngine_tracks (k : Fin 4) (f : Engine → Engine) (s : State) :
    (modEngine k f s).tracks = s.tracks := rfl
@[simp] theorem modEngine_engines (k : Fin 4) (f : Engine → Engine) (s : State) :
    (modEngine k f s).engines = s.engines.modify k f := rfl
@[simp] theorem modEngine_slots (k : Fin 4) (f : Engine → Engine) (s : State) :
    (modEngine k f s).slots = s.slots := rfl
@[simp] theorem modEngine_channels (k : Fin 4) (f : Engine → Engine) (s : State) :
    (modEngine k f s).channels = s.channels := rfl
@[simp] theorem modEngine_draws (k : Fin 4) (f : Engine → Engine) (s : State) :
    (modEngine k f s).draws = s.draws := rfl
@[simp] theorem modEngine_settings (k : Fin 4) (f : Engine → Engine) (s : State) :
    (modEngine k f s).settings = s.settings := rfl
@[simp] theorem modEngine_service (k : Fin 4) (f : Engine → Engine) (s : State) :
    (modEngine k f s).service = s.service := rfl
@[simp] theorem modEngine_pins (k : Fin 4) (f : Engine → Engine) (s : State) : (modEngine k f s).pins = s.pins := rfl
@[simp] theorem modEngine_pwm (k : Fin 4) (f : Engine → Engine) (s : State) : (modEngine k f s).pwm = s.pwm := rfl
@[simp] theorem modEngine_dead (k : Fin 4) (f : Engine → Engine) (s : State) : (modEngine k f s).dead = s.dead := rfl
@[simp] theorem modEngine_inReset (k : Fin 4) (f : Engine → Engine) (s : State) :
    (modEngine k f s).inReset = s.inReset := rfl
@[simp] theorem modEngine_free (k : Fin 4) (f : Engine → Engine) (s : State) : (modEngine k f s).free = s.free := rfl
@[simp] theorem modEngine_pending (k : Fin 4) (f : Engine → Engine) (s : State) :
    (modEngine k f s).pending = s.pending := rfl

/-! ## modSlot -/

@[simp] theorem modSlot_tracker (k : Fin 4) (f : Slot → Slot) (s : State) : (modSlot k f s).tracker = s.tracker := rfl
@[simp] theorem modSlot_unit (k : Fin 4) (f : Slot → Slot) (s : State) : (modSlot k f s).unit = s.unit := rfl
@[simp] theorem modSlot_announce (k : Fin 4) (f : Slot → Slot) (s : State) :
    (modSlot k f s).announce = s.announce := rfl
@[simp] theorem modSlot_transmit (k : Fin 4) (f : Slot → Slot) (s : State) :
    (modSlot k f s).transmit = s.transmit := rfl
@[simp] theorem modSlot_receive (k : Fin 4) (f : Slot → Slot) (s : State) : (modSlot k f s).receive = s.receive := rfl
@[simp] theorem modSlot_view (k : Fin 4) (f : Slot → Slot) (s : State) : (modSlot k f s).view = s.view := rfl
@[simp] theorem modSlot_refused (k : Fin 4) (f : Slot → Slot) (s : State) : (modSlot k f s).refused = s.refused := rfl
@[simp] theorem modSlot_tracks (k : Fin 4) (f : Slot → Slot) (s : State) : (modSlot k f s).tracks = s.tracks := rfl
@[simp] theorem modSlot_engines (k : Fin 4) (f : Slot → Slot) (s : State) : (modSlot k f s).engines = s.engines := rfl
@[simp] theorem modSlot_slots (k : Fin 4) (f : Slot → Slot) (s : State) :
    (modSlot k f s).slots = s.slots.modify k f := rfl
@[simp] theorem modSlot_channels (k : Fin 4) (f : Slot → Slot) (s : State) :
    (modSlot k f s).channels = s.channels := rfl
@[simp] theorem modSlot_draws (k : Fin 4) (f : Slot → Slot) (s : State) : (modSlot k f s).draws = s.draws := rfl
@[simp] theorem modSlot_settings (k : Fin 4) (f : Slot → Slot) (s : State) :
    (modSlot k f s).settings = s.settings := rfl
@[simp] theorem modSlot_service (k : Fin 4) (f : Slot → Slot) (s : State) : (modSlot k f s).service = s.service := rfl
@[simp] theorem modSlot_pins (k : Fin 4) (f : Slot → Slot) (s : State) : (modSlot k f s).pins = s.pins := rfl
@[simp] theorem modSlot_pwm (k : Fin 4) (f : Slot → Slot) (s : State) : (modSlot k f s).pwm = s.pwm := rfl
@[simp] theorem modSlot_dead (k : Fin 4) (f : Slot → Slot) (s : State) : (modSlot k f s).dead = s.dead := rfl
@[simp] theorem modSlot_inReset (k : Fin 4) (f : Slot → Slot) (s : State) : (modSlot k f s).inReset = s.inReset := rfl
@[simp] theorem modSlot_free (k : Fin 4) (f : Slot → Slot) (s : State) : (modSlot k f s).free = s.free := rfl
@[simp] theorem modSlot_pending (k : Fin 4) (f : Slot → Slot) (s : State) : (modSlot k f s).pending = s.pending := rfl

/-! ## modChannel -/

@[simp] theorem modChannel_tracker (k : Fin 4) (f : Channel → Channel) (s : State) :
    (modChannel k f s).tracker = s.tracker := rfl
@[simp] theorem modChannel_unit (k : Fin 4) (f : Channel → Channel) (s : State) :
    (modChannel k f s).unit = s.unit := rfl
@[simp] theorem modChannel_announce (k : Fin 4) (f : Channel → Channel) (s : State) :
    (modChannel k f s).announce = s.announce := rfl
@[simp] theorem modChannel_transmit (k : Fin 4) (f : Channel → Channel) (s : State) :
    (modChannel k f s).transmit = s.transmit := rfl
@[simp] theorem modChannel_receive (k : Fin 4) (f : Channel → Channel) (s : State) :
    (modChannel k f s).receive = s.receive := rfl
@[simp] theorem modChannel_view (k : Fin 4) (f : Channel → Channel) (s : State) :
    (modChannel k f s).view = s.view := rfl
@[simp] theorem modChannel_refused (k : Fin 4) (f : Channel → Channel) (s : State) :
    (modChannel k f s).refused = s.refused := rfl
@[simp] theorem modChannel_tracks (k : Fin 4) (f : Channel → Channel) (s : State) :
    (modChannel k f s).tracks = s.tracks := rfl
@[simp] theorem modChannel_engines (k : Fin 4) (f : Channel → Channel) (s : State) :
    (modChannel k f s).engines = s.engines := rfl
@[simp] theorem modChannel_slots (k : Fin 4) (f : Channel → Channel) (s : State) :
    (modChannel k f s).slots = s.slots := rfl
@[simp] theorem modChannel_channels (k : Fin 4) (f : Channel → Channel) (s : State) :
    (modChannel k f s).channels = s.channels.modify k f := rfl
@[simp] theorem modChannel_draws (k : Fin 4) (f : Channel → Channel) (s : State) :
    (modChannel k f s).draws = s.draws := rfl
@[simp] theorem modChannel_settings (k : Fin 4) (f : Channel → Channel) (s : State) :
    (modChannel k f s).settings = s.settings := rfl
@[simp] theorem modChannel_service (k : Fin 4) (f : Channel → Channel) (s : State) :
    (modChannel k f s).service = s.service := rfl
@[simp] theorem modChannel_pins (k : Fin 4) (f : Channel → Channel) (s : State) :
    (modChannel k f s).pins = s.pins := rfl
@[simp] theorem modChannel_pwm (k : Fin 4) (f : Channel → Channel) (s : State) : (modChannel k f s).pwm = s.pwm := rfl
@[simp] theorem modChannel_dead (k : Fin 4) (f : Channel → Channel) (s : State) :
    (modChannel k f s).dead = s.dead := rfl
@[simp] theorem modChannel_inReset (k : Fin 4) (f : Channel → Channel) (s : State) :
    (modChannel k f s).inReset = s.inReset := rfl
@[simp] theorem modChannel_free (k : Fin 4) (f : Channel → Channel) (s : State) :
    (modChannel k f s).free = s.free := rfl
@[simp] theorem modChannel_pending (k : Fin 4) (f : Channel → Channel) (s : State) :
    (modChannel k f s).pending = s.pending := rfl

/-! ## modDraw -/

@[simp] theorem modDraw_tracker (k : Fin 4) (f : OwnDraw → OwnDraw) (s : State) :
    (modDraw k f s).tracker = s.tracker := rfl
@[simp] theorem modDraw_unit (k : Fin 4) (f : OwnDraw → OwnDraw) (s : State) : (modDraw k f s).unit = s.unit := rfl
@[simp] theorem modDraw_announce (k : Fin 4) (f : OwnDraw → OwnDraw) (s : State) :
    (modDraw k f s).announce = s.announce := rfl
@[simp] theorem modDraw_transmit (k : Fin 4) (f : OwnDraw → OwnDraw) (s : State) :
    (modDraw k f s).transmit = s.transmit := rfl
@[simp] theorem modDraw_receive (k : Fin 4) (f : OwnDraw → OwnDraw) (s : State) :
    (modDraw k f s).receive = s.receive := rfl
@[simp] theorem modDraw_view (k : Fin 4) (f : OwnDraw → OwnDraw) (s : State) : (modDraw k f s).view = s.view := rfl
@[simp] theorem modDraw_refused (k : Fin 4) (f : OwnDraw → OwnDraw) (s : State) :
    (modDraw k f s).refused = s.refused := rfl
@[simp] theorem modDraw_tracks (k : Fin 4) (f : OwnDraw → OwnDraw) (s : State) :
    (modDraw k f s).tracks = s.tracks := rfl
@[simp] theorem modDraw_engines (k : Fin 4) (f : OwnDraw → OwnDraw) (s : State) :
    (modDraw k f s).engines = s.engines := rfl
@[simp] theorem modDraw_slots (k : Fin 4) (f : OwnDraw → OwnDraw) (s : State) : (modDraw k f s).slots = s.slots := rfl
@[simp] theorem modDraw_channels (k : Fin 4) (f : OwnDraw → OwnDraw) (s : State) :
    (modDraw k f s).channels = s.channels := rfl
@[simp] theorem modDraw_draws (k : Fin 4) (f : OwnDraw → OwnDraw) (s : State) :
    (modDraw k f s).draws = s.draws.modify k f := rfl
@[simp] theorem modDraw_settings (k : Fin 4) (f : OwnDraw → OwnDraw) (s : State) :
    (modDraw k f s).settings = s.settings := rfl
@[simp] theorem modDraw_service (k : Fin 4) (f : OwnDraw → OwnDraw) (s : State) :
    (modDraw k f s).service = s.service := rfl
@[simp] theorem modDraw_pins (k : Fin 4) (f : OwnDraw → OwnDraw) (s : State) : (modDraw k f s).pins = s.pins := rfl
@[simp] theorem modDraw_pwm (k : Fin 4) (f : OwnDraw → OwnDraw) (s : State) : (modDraw k f s).pwm = s.pwm := rfl
@[simp] theorem modDraw_dead (k : Fin 4) (f : OwnDraw → OwnDraw) (s : State) : (modDraw k f s).dead = s.dead := rfl
@[simp] theorem modDraw_inReset (k : Fin 4) (f : OwnDraw → OwnDraw) (s : State) :
    (modDraw k f s).inReset = s.inReset := rfl
@[simp] theorem modDraw_free (k : Fin 4) (f : OwnDraw → OwnDraw) (s : State) : (modDraw k f s).free = s.free := rfl
@[simp] theorem modDraw_pending (k : Fin 4) (f : OwnDraw → OwnDraw) (s : State) :
    (modDraw k f s).pending = s.pending := rfl

/-! ## modTrack -/

@[simp] theorem modTrack_tracker (k : Fin 4) (f : Track → Track) (s : State) :
    (modTrack k f s).tracker = s.tracker := rfl
@[simp] theorem modTrack_unit (k : Fin 4) (f : Track → Track) (s : State) : (modTrack k f s).unit = s.unit := rfl
@[simp] theorem modTrack_announce (k : Fin 4) (f : Track → Track) (s : State) :
    (modTrack k f s).announce = s.announce := rfl
@[simp] theorem modTrack_transmit (k : Fin 4) (f : Track → Track) (s : State) :
    (modTrack k f s).transmit = s.transmit := rfl
@[simp] theorem modTrack_receive (k : Fin 4) (f : Track → Track) (s : State) :
    (modTrack k f s).receive = s.receive := rfl
@[simp] theorem modTrack_view (k : Fin 4) (f : Track → Track) (s : State) : (modTrack k f s).view = s.view := rfl
@[simp] theorem modTrack_refused (k : Fin 4) (f : Track → Track) (s : State) :
    (modTrack k f s).refused = s.refused := rfl
@[simp] theorem modTrack_tracks (k : Fin 4) (f : Track → Track) (s : State) :
    (modTrack k f s).tracks = s.tracks.modify k f := rfl
@[simp] theorem modTrack_engines (k : Fin 4) (f : Track → Track) (s : State) :
    (modTrack k f s).engines = s.engines := rfl
@[simp] theorem modTrack_slots (k : Fin 4) (f : Track → Track) (s : State) : (modTrack k f s).slots = s.slots := rfl
@[simp] theorem modTrack_channels (k : Fin 4) (f : Track → Track) (s : State) :
    (modTrack k f s).channels = s.channels := rfl
@[simp] theorem modTrack_draws (k : Fin 4) (f : Track → Track) (s : State) : (modTrack k f s).draws = s.draws := rfl
@[simp] theorem modTrack_settings (k : Fin 4) (f : Track → Track) (s : State) :
    (modTrack k f s).settings = s.settings := rfl
@[simp] theorem modTrack_service (k : Fin 4) (f : Track → Track) (s : State) :
    (modTrack k f s).service = s.service := rfl
@[simp] theorem modTrack_pins (k : Fin 4) (f : Track → Track) (s : State) : (modTrack k f s).pins = s.pins := rfl
@[simp] theorem modTrack_pwm (k : Fin 4) (f : Track → Track) (s : State) : (modTrack k f s).pwm = s.pwm := rfl
@[simp] theorem modTrack_dead (k : Fin 4) (f : Track → Track) (s : State) : (modTrack k f s).dead = s.dead := rfl
@[simp] theorem modTrack_inReset (k : Fin 4) (f : Track → Track) (s : State) :
    (modTrack k f s).inReset = s.inReset := rfl
@[simp] theorem modTrack_free (k : Fin 4) (f : Track → Track) (s : State) : (modTrack k f s).free = s.free := rfl
@[simp] theorem modTrack_pending (k : Fin 4) (f : Track → Track) (s : State) :
    (modTrack k f s).pending = s.pending := rfl

/-! ## writeRecord -/

@[simp] theorem writeRecord_tracker (k : Fin 4) (f : Record → Record) (s : State) :
    (writeRecord k f s).tracker = s.tracker := rfl
@[simp] theorem writeRecord_unit (k : Fin 4) (f : Record → Record) (s : State) :
    (writeRecord k f s).unit = s.unit := rfl
@[simp] theorem writeRecord_announce (k : Fin 4) (f : Record → Record) (s : State) :
    (writeRecord k f s).announce = s.announce := rfl
@[simp] theorem writeRecord_transmit (k : Fin 4) (f : Record → Record) (s : State) :
    (writeRecord k f s).transmit = s.transmit := rfl
@[simp] theorem writeRecord_receive (k : Fin 4) (f : Record → Record) (s : State) :
    (writeRecord k f s).receive = s.receive := rfl
@[simp] theorem writeRecord_view (k : Fin 4) (f : Record → Record) (s : State) :
    (writeRecord k f s).view = s.view := rfl
@[simp] theorem writeRecord_refused (k : Fin 4) (f : Record → Record) (s : State) :
    (writeRecord k f s).refused = s.refused := rfl
@[simp] theorem writeRecord_tracks (k : Fin 4) (f : Record → Record) (s : State) :
    (writeRecord k f s).tracks = s.tracks := rfl
@[simp] theorem writeRecord_engines (k : Fin 4) (f : Record → Record) (s : State) :
    (writeRecord k f s).engines = s.engines := rfl
@[simp] theorem writeRecord_slots (k : Fin 4) (f : Record → Record) (s : State) :
    (writeRecord k f s).slots = s.slots.modify k (Slot.write f) := rfl
@[simp] theorem writeRecord_channels (k : Fin 4) (f : Record → Record) (s : State) :
    (writeRecord k f s).channels = s.channels := rfl
@[simp] theorem writeRecord_draws (k : Fin 4) (f : Record → Record) (s : State) :
    (writeRecord k f s).draws = s.draws := rfl
@[simp] theorem writeRecord_settings (k : Fin 4) (f : Record → Record) (s : State) :
    (writeRecord k f s).settings = s.settings := rfl
@[simp] theorem writeRecord_service (k : Fin 4) (f : Record → Record) (s : State) :
    (writeRecord k f s).service = s.service := rfl
@[simp] theorem writeRecord_pins (k : Fin 4) (f : Record → Record) (s : State) :
    (writeRecord k f s).pins = s.pins := rfl
@[simp] theorem writeRecord_pwm (k : Fin 4) (f : Record → Record) (s : State) : (writeRecord k f s).pwm = s.pwm := rfl
@[simp] theorem writeRecord_dead (k : Fin 4) (f : Record → Record) (s : State) :
    (writeRecord k f s).dead = s.dead := rfl
@[simp] theorem writeRecord_inReset (k : Fin 4) (f : Record → Record) (s : State) :
    (writeRecord k f s).inReset = s.inReset := rfl
@[simp] theorem writeRecord_free (k : Fin 4) (f : Record → Record) (s : State) :
    (writeRecord k f s).free = s.free := rfl
@[simp] theorem writeRecord_pending (k : Fin 4) (f : Record → Record) (s : State) :
    (writeRecord k f s).pending = s.pending := rfl

/-! ## addReason -/

@[simp] theorem addReason_tracker (k : Fin 4) (r : Reason) (s : State) : (addReason k r s).tracker = s.tracker := rfl
@[simp] theorem addReason_unit (k : Fin 4) (r : Reason) (s : State) : (addReason k r s).unit = s.unit := rfl
@[simp] theorem addReason_announce (k : Fin 4) (r : Reason) (s : State) : (addReason k r s).announce = s.announce := rfl
@[simp] theorem addReason_transmit (k : Fin 4) (r : Reason) (s : State) : (addReason k r s).transmit = s.transmit := rfl
@[simp] theorem addReason_receive (k : Fin 4) (r : Reason) (s : State) : (addReason k r s).receive = s.receive := rfl
@[simp] theorem addReason_view (k : Fin 4) (r : Reason) (s : State) : (addReason k r s).view = s.view := rfl
@[simp] theorem addReason_refused (k : Fin 4) (r : Reason) (s : State) : (addReason k r s).refused = s.refused := rfl
@[simp] theorem addReason_tracks (k : Fin 4) (r : Reason) (s : State) : (addReason k r s).tracks = s.tracks := rfl
@[simp] theorem addReason_engines (k : Fin 4) (r : Reason) (s : State) : (addReason k r s).engines = s.engines := rfl
@[simp] theorem addReason_slots (k : Fin 4) (r : Reason) (s : State) :
    (addReason k r s).slots = s.slots.modify k (Slot.write (fun x => { x with reasons := x.reasons.add r })) := rfl
@[simp] theorem addReason_channels (k : Fin 4) (r : Reason) (s : State) : (addReason k r s).channels = s.channels := rfl
@[simp] theorem addReason_draws (k : Fin 4) (r : Reason) (s : State) : (addReason k r s).draws = s.draws := rfl
@[simp] theorem addReason_settings (k : Fin 4) (r : Reason) (s : State) : (addReason k r s).settings = s.settings := rfl
@[simp] theorem addReason_service (k : Fin 4) (r : Reason) (s : State) : (addReason k r s).service = s.service := rfl
@[simp] theorem addReason_pins (k : Fin 4) (r : Reason) (s : State) : (addReason k r s).pins = s.pins := rfl
@[simp] theorem addReason_pwm (k : Fin 4) (r : Reason) (s : State) : (addReason k r s).pwm = s.pwm := rfl
@[simp] theorem addReason_dead (k : Fin 4) (r : Reason) (s : State) : (addReason k r s).dead = s.dead := rfl
@[simp] theorem addReason_inReset (k : Fin 4) (r : Reason) (s : State) : (addReason k r s).inReset = s.inReset := rfl
@[simp] theorem addReason_free (k : Fin 4) (r : Reason) (s : State) : (addReason k r s).free = s.free := rfl
@[simp] theorem addReason_pending (k : Fin 4) (r : Reason) (s : State) : (addReason k r s).pending = s.pending := rfl

/-! ## markReached -/

@[simp] theorem markReached_tracker (k : Fin 4) (t : Threshold) (s : State) :
    (markReached k t s).tracker = s.tracker := rfl
@[simp] theorem markReached_unit (k : Fin 4) (t : Threshold) (s : State) : (markReached k t s).unit = s.unit := rfl
@[simp] theorem markReached_announce (k : Fin 4) (t : Threshold) (s : State) :
    (markReached k t s).announce = s.announce := rfl
@[simp] theorem markReached_transmit (k : Fin 4) (t : Threshold) (s : State) :
    (markReached k t s).transmit = s.transmit := rfl
@[simp] theorem markReached_receive (k : Fin 4) (t : Threshold) (s : State) :
    (markReached k t s).receive = s.receive := rfl
@[simp] theorem markReached_view (k : Fin 4) (t : Threshold) (s : State) : (markReached k t s).view = s.view := rfl
@[simp] theorem markReached_refused (k : Fin 4) (t : Threshold) (s : State) :
    (markReached k t s).refused = s.refused := rfl
@[simp] theorem markReached_tracks (k : Fin 4) (t : Threshold) (s : State) :
    (markReached k t s).tracks = s.tracks.modify k (fun x => { x with marks := x.marks.set t }) := rfl
@[simp] theorem markReached_engines (k : Fin 4) (t : Threshold) (s : State) :
    (markReached k t s).engines = s.engines := rfl
@[simp] theorem markReached_slots (k : Fin 4) (t : Threshold) (s : State) : (markReached k t s).slots = s.slots := rfl
@[simp] theorem markReached_channels (k : Fin 4) (t : Threshold) (s : State) :
    (markReached k t s).channels = s.channels := rfl
@[simp] theorem markReached_draws (k : Fin 4) (t : Threshold) (s : State) : (markReached k t s).draws = s.draws := rfl
@[simp] theorem markReached_settings (k : Fin 4) (t : Threshold) (s : State) :
    (markReached k t s).settings = s.settings := rfl
@[simp] theorem markReached_service (k : Fin 4) (t : Threshold) (s : State) :
    (markReached k t s).service = s.service := rfl
@[simp] theorem markReached_pins (k : Fin 4) (t : Threshold) (s : State) : (markReached k t s).pins = s.pins := rfl
@[simp] theorem markReached_pwm (k : Fin 4) (t : Threshold) (s : State) : (markReached k t s).pwm = s.pwm := rfl
@[simp] theorem markReached_dead (k : Fin 4) (t : Threshold) (s : State) : (markReached k t s).dead = s.dead := rfl
@[simp] theorem markReached_inReset (k : Fin 4) (t : Threshold) (s : State) :
    (markReached k t s).inReset = s.inReset := rfl
@[simp] theorem markReached_free (k : Fin 4) (t : Threshold) (s : State) : (markReached k t s).free = s.free := rfl
@[simp] theorem markReached_pending (k : Fin 4) (t : Threshold) (s : State) :
    (markReached k t s).pending = s.pending := rfl

/-! ## consulted -/

@[simp] theorem consulted_tracker (s : State) : (consulted s).tracker = s.tracker := rfl
@[simp] theorem consulted_unit (s : State) : (consulted s).unit = s.unit := rfl
@[simp] theorem consulted_announce (s : State) : (consulted s).announce = s.announce := rfl
@[simp] theorem consulted_transmit (s : State) : (consulted s).transmit = s.transmit := rfl
@[simp] theorem consulted_receive (s : State) : (consulted s).receive = s.receive := rfl
@[simp] theorem consulted_view (s : State) : (consulted s).view = s.view := rfl
@[simp] theorem consulted_refused (s : State) : (consulted s).refused = s.refused := rfl
@[simp] theorem consulted_tracks (s : State) : (consulted s).tracks = s.tracks := rfl
@[simp] theorem consulted_engines (s : State) : (consulted s).engines = s.engines := rfl
@[simp] theorem consulted_slots (s : State) : (consulted s).slots = s.slots := rfl
@[simp] theorem consulted_channels (s : State) : (consulted s).channels = s.channels := rfl
@[simp] theorem consulted_draws (s : State) : (consulted s).draws = s.draws := rfl
@[simp] theorem consulted_settings (s : State) : (consulted s).settings = s.settings := rfl
@[simp] theorem consulted_service (s : State) : (consulted s).service = s.service := rfl
@[simp] theorem consulted_pins (s : State) : (consulted s).pins = s.pins := rfl
@[simp] theorem consulted_pwm (s : State) : (consulted s).pwm = s.pwm := rfl
@[simp] theorem consulted_dead (s : State) : (consulted s).dead = s.dead := rfl
@[simp] theorem consulted_inReset (s : State) : (consulted s).inReset = s.inReset := rfl
@[simp] theorem consulted_free (s : State) : (consulted s).free = s.free + 1 := rfl
@[simp] theorem consulted_pending (s : State) : (consulted s).pending = s.pending := rfl

/-! ## endHolds -/

@[simp] theorem endHolds_tracker (ends : Fin 4 → Bool) (s : State) : (endHolds ends s).tracker = s.tracker := rfl
@[simp] theorem endHolds_unit (ends : Fin 4 → Bool) (s : State) : (endHolds ends s).unit = s.unit := rfl
@[simp] theorem endHolds_announce (ends : Fin 4 → Bool) (s : State) : (endHolds ends s).announce = s.announce := rfl
@[simp] theorem endHolds_transmit (ends : Fin 4 → Bool) (s : State) : (endHolds ends s).transmit = s.transmit := rfl
@[simp] theorem endHolds_receive (ends : Fin 4 → Bool) (s : State) : (endHolds ends s).receive = s.receive := rfl
@[simp] theorem endHolds_view (ends : Fin 4 → Bool) (s : State) : (endHolds ends s).view = s.view := rfl
@[simp] theorem endHolds_refused (ends : Fin 4 → Bool) (s : State) : (endHolds ends s).refused = s.refused := rfl
/-- Every head's track, with its held-back condition ended where it ends (R14, R15). -/
@[simp] theorem endHolds_tracks_get (ends : Fin 4 → Bool) (s : State) (k : Fin 4) :
    (endHolds ends s).tracks.get k = (s.tracks.get k).endHold (ends k) := by
  match k with
  | 0 | 1 | 2 | 3 => rfl
@[simp] theorem Track.endHold_marks (ends : Bool) (x : Track) : (x.endHold ends).marks = x.marks := by
  cases ends <;> rfl
@[simp] theorem Track.endHold_heldBack (ends : Bool) (x : Track) : (x.endHold ends).heldBack = (x.heldBack && !ends) := by
  cases ends <;> simp [Track.endHold]
@[simp] theorem endHolds_engines (ends : Fin 4 → Bool) (s : State) : (endHolds ends s).engines = s.engines := rfl
@[simp] theorem endHolds_slots (ends : Fin 4 → Bool) (s : State) : (endHolds ends s).slots = s.slots := rfl
@[simp] theorem endHolds_channels (ends : Fin 4 → Bool) (s : State) : (endHolds ends s).channels = s.channels := rfl
@[simp] theorem endHolds_draws (ends : Fin 4 → Bool) (s : State) : (endHolds ends s).draws = s.draws := rfl
@[simp] theorem endHolds_settings (ends : Fin 4 → Bool) (s : State) : (endHolds ends s).settings = s.settings := rfl
@[simp] theorem endHolds_service (ends : Fin 4 → Bool) (s : State) : (endHolds ends s).service = s.service := rfl
@[simp] theorem endHolds_pins (ends : Fin 4 → Bool) (s : State) : (endHolds ends s).pins = s.pins := rfl
@[simp] theorem endHolds_pwm (ends : Fin 4 → Bool) (s : State) : (endHolds ends s).pwm = s.pwm := rfl
@[simp] theorem endHolds_dead (ends : Fin 4 → Bool) (s : State) : (endHolds ends s).dead = s.dead := rfl
@[simp] theorem endHolds_inReset (ends : Fin 4 → Bool) (s : State) : (endHolds ends s).inReset = s.inReset := rfl
@[simp] theorem endHolds_free (ends : Fin 4 → Bool) (s : State) : (endHolds ends s).free = s.free := rfl
@[simp] theorem endHolds_pending (ends : Fin 4 → Bool) (s : State) : (endHolds ends s).pending = s.pending := rfl

/-! ## setMode -/

@[simp] theorem setMode_tracker (m : Mode) (s : State) : (setMode m s).tracker = s.tracker := rfl
@[simp] theorem setMode_unit (m : Mode) (s : State) : (setMode m s).unit = { s.unit with mode := m } := rfl
@[simp] theorem setMode_announce (m : Mode) (s : State) : (setMode m s).announce = s.announce := rfl
@[simp] theorem setMode_transmit (m : Mode) (s : State) : (setMode m s).transmit = s.transmit := rfl
@[simp] theorem setMode_receive (m : Mode) (s : State) : (setMode m s).receive = s.receive := rfl
@[simp] theorem setMode_view (m : Mode) (s : State) : (setMode m s).view = s.view := rfl
@[simp] theorem setMode_refused (m : Mode) (s : State) : (setMode m s).refused = s.refused := rfl
@[simp] theorem setMode_tracks (m : Mode) (s : State) : (setMode m s).tracks = s.tracks := rfl
@[simp] theorem setMode_engines (m : Mode) (s : State) : (setMode m s).engines = s.engines := rfl
@[simp] theorem setMode_slots (m : Mode) (s : State) : (setMode m s).slots = s.slots := rfl
@[simp] theorem setMode_channels (m : Mode) (s : State) : (setMode m s).channels = s.channels := rfl
@[simp] theorem setMode_draws (m : Mode) (s : State) : (setMode m s).draws = s.draws := rfl
@[simp] theorem setMode_settings (m : Mode) (s : State) : (setMode m s).settings = s.settings := rfl
@[simp] theorem setMode_service (m : Mode) (s : State) : (setMode m s).service = s.service := rfl
@[simp] theorem setMode_pins (m : Mode) (s : State) : (setMode m s).pins = s.pins := rfl
@[simp] theorem setMode_pwm (m : Mode) (s : State) : (setMode m s).pwm = s.pwm := rfl
@[simp] theorem setMode_dead (m : Mode) (s : State) : (setMode m s).dead = s.dead := rfl
@[simp] theorem setMode_inReset (m : Mode) (s : State) : (setMode m s).inReset = s.inReset := rfl
@[simp] theorem setMode_free (m : Mode) (s : State) : (setMode m s).free = s.free := rfl
@[simp] theorem setMode_pending (m : Mode) (s : State) : (setMode m s).pending = s.pending := rfl

/-! ## setHeld -/

@[simp] theorem setHeld_tracker (h : HeldMark) (s : State) : (setHeld h s).tracker = s.tracker := rfl
@[simp] theorem setHeld_unit (h : HeldMark) (s : State) : (setHeld h s).unit = { s.unit with held := h } := rfl
@[simp] theorem setHeld_announce (h : HeldMark) (s : State) : (setHeld h s).announce = s.announce := rfl
@[simp] theorem setHeld_transmit (h : HeldMark) (s : State) : (setHeld h s).transmit = s.transmit := rfl
@[simp] theorem setHeld_receive (h : HeldMark) (s : State) : (setHeld h s).receive = s.receive := rfl
@[simp] theorem setHeld_view (h : HeldMark) (s : State) : (setHeld h s).view = s.view := rfl
@[simp] theorem setHeld_refused (h : HeldMark) (s : State) : (setHeld h s).refused = s.refused := rfl
@[simp] theorem setHeld_tracks (h : HeldMark) (s : State) : (setHeld h s).tracks = s.tracks := rfl
@[simp] theorem setHeld_engines (h : HeldMark) (s : State) : (setHeld h s).engines = s.engines := rfl
@[simp] theorem setHeld_slots (h : HeldMark) (s : State) : (setHeld h s).slots = s.slots := rfl
@[simp] theorem setHeld_channels (h : HeldMark) (s : State) : (setHeld h s).channels = s.channels := rfl
@[simp] theorem setHeld_draws (h : HeldMark) (s : State) : (setHeld h s).draws = s.draws := rfl
@[simp] theorem setHeld_settings (h : HeldMark) (s : State) : (setHeld h s).settings = s.settings := rfl
@[simp] theorem setHeld_service (h : HeldMark) (s : State) : (setHeld h s).service = s.service := rfl
@[simp] theorem setHeld_pins (h : HeldMark) (s : State) : (setHeld h s).pins = s.pins := rfl
@[simp] theorem setHeld_pwm (h : HeldMark) (s : State) : (setHeld h s).pwm = s.pwm := rfl
@[simp] theorem setHeld_dead (h : HeldMark) (s : State) : (setHeld h s).dead = s.dead := rfl
@[simp] theorem setHeld_inReset (h : HeldMark) (s : State) : (setHeld h s).inReset = s.inReset := rfl
@[simp] theorem setHeld_free (h : HeldMark) (s : State) : (setHeld h s).free = s.free := rfl
@[simp] theorem setHeld_pending (h : HeldMark) (s : State) : (setHeld h s).pending = s.pending := rfl

/-! ## setGuard -/

@[simp] theorem setGuard_tracker (b : Bool) (s : State) : (setGuard b s).tracker = s.tracker := rfl
@[simp] theorem setGuard_unit (b : Bool) (s : State) : (setGuard b s).unit = s.unit := rfl
@[simp] theorem setGuard_announce (b : Bool) (s : State) : (setGuard b s).announce = s.announce := rfl
@[simp] theorem setGuard_transmit (b : Bool) (s : State) : (setGuard b s).transmit = s.transmit := rfl
@[simp] theorem setGuard_receive (b : Bool) (s : State) : (setGuard b s).receive = s.receive := rfl
@[simp] theorem setGuard_view (b : Bool) (s : State) : (setGuard b s).view = s.view := rfl
@[simp] theorem setGuard_refused (b : Bool) (s : State) : (setGuard b s).refused = s.refused := rfl
@[simp] theorem setGuard_tracks (b : Bool) (s : State) : (setGuard b s).tracks = s.tracks := rfl
@[simp] theorem setGuard_engines (b : Bool) (s : State) : (setGuard b s).engines = s.engines := rfl
@[simp] theorem setGuard_slots (b : Bool) (s : State) : (setGuard b s).slots = s.slots := rfl
@[simp] theorem setGuard_channels (b : Bool) (s : State) : (setGuard b s).channels = s.channels := rfl
@[simp] theorem setGuard_draws (b : Bool) (s : State) : (setGuard b s).draws = s.draws := rfl
@[simp] theorem setGuard_settings (b : Bool) (s : State) : (setGuard b s).settings = s.settings := rfl
@[simp] theorem setGuard_service (b : Bool) (s : State) : (setGuard b s).service = s.service := rfl
@[simp] theorem setGuard_pins (b : Bool) (s : State) : (setGuard b s).pins = { s.pins with guardOpen := b } := rfl
@[simp] theorem setGuard_pwm (b : Bool) (s : State) : (setGuard b s).pwm = s.pwm := rfl
@[simp] theorem setGuard_dead (b : Bool) (s : State) : (setGuard b s).dead = s.dead := rfl
@[simp] theorem setGuard_inReset (b : Bool) (s : State) : (setGuard b s).inReset = s.inReset := rfl
@[simp] theorem setGuard_free (b : Bool) (s : State) : (setGuard b s).free = s.free := rfl
@[simp] theorem setGuard_pending (b : Bool) (s : State) : (setGuard b s).pending = s.pending := rfl

/-! ## State.withPending -/

@[simp] theorem State.withPending_tracker (q : List Instr) (s : State) : (s.withPending q).tracker = s.tracker := rfl
@[simp] theorem State.withPending_unit (q : List Instr) (s : State) : (s.withPending q).unit = s.unit := rfl
@[simp] theorem State.withPending_announce (q : List Instr) (s : State) : (s.withPending q).announce = s.announce := rfl
@[simp] theorem State.withPending_transmit (q : List Instr) (s : State) : (s.withPending q).transmit = s.transmit := rfl
@[simp] theorem State.withPending_receive (q : List Instr) (s : State) : (s.withPending q).receive = s.receive := rfl
@[simp] theorem State.withPending_view (q : List Instr) (s : State) : (s.withPending q).view = s.view := rfl
@[simp] theorem State.withPending_refused (q : List Instr) (s : State) : (s.withPending q).refused = s.refused := rfl
@[simp] theorem State.withPending_tracks (q : List Instr) (s : State) : (s.withPending q).tracks = s.tracks := rfl
@[simp] theorem State.withPending_engines (q : List Instr) (s : State) : (s.withPending q).engines = s.engines := rfl
@[simp] theorem State.withPending_slots (q : List Instr) (s : State) : (s.withPending q).slots = s.slots := rfl
@[simp] theorem State.withPending_channels (q : List Instr) (s : State) : (s.withPending q).channels = s.channels := rfl
@[simp] theorem State.withPending_draws (q : List Instr) (s : State) : (s.withPending q).draws = s.draws := rfl
@[simp] theorem State.withPending_settings (q : List Instr) (s : State) : (s.withPending q).settings = s.settings := rfl
@[simp] theorem State.withPending_service (q : List Instr) (s : State) : (s.withPending q).service = s.service := rfl
@[simp] theorem State.withPending_pins (q : List Instr) (s : State) : (s.withPending q).pins = s.pins := rfl
@[simp] theorem State.withPending_pwm (q : List Instr) (s : State) : (s.withPending q).pwm = s.pwm := rfl
@[simp] theorem State.withPending_dead (q : List Instr) (s : State) : (s.withPending q).dead = s.dead := rfl
@[simp] theorem State.withPending_inReset (q : List Instr) (s : State) : (s.withPending q).inReset = s.inReset := rfl
@[simp] theorem State.withPending_free (q : List Instr) (s : State) : (s.withPending q).free = s.free := rfl
@[simp] theorem State.withPending_pending (q : List Instr) (s : State) : (s.withPending q).pending = q := rfl

/-! ## enqueue -/

@[simp] theorem enqueue_tracker (kind : Kind) (payload : List Byte) (s : State) :
    (enqueue kind payload s).tracker = s.tracker := rfl
@[simp] theorem enqueue_unit (kind : Kind) (payload : List Byte) (s : State) :
    (enqueue kind payload s).unit = s.unit := rfl
@[simp] theorem enqueue_announce (kind : Kind) (payload : List Byte) (s : State) :
    (enqueue kind payload s).announce = s.announce := rfl
@[simp] theorem enqueue_receive (kind : Kind) (payload : List Byte) (s : State) :
    (enqueue kind payload s).receive = s.receive := rfl
@[simp] theorem enqueue_view (kind : Kind) (payload : List Byte) (s : State) :
    (enqueue kind payload s).view = s.view := rfl
@[simp] theorem enqueue_refused (kind : Kind) (payload : List Byte) (s : State) :
    (enqueue kind payload s).refused = s.refused := rfl
@[simp] theorem enqueue_tracks (kind : Kind) (payload : List Byte) (s : State) :
    (enqueue kind payload s).tracks = s.tracks := rfl
@[simp] theorem enqueue_engines (kind : Kind) (payload : List Byte) (s : State) :
    (enqueue kind payload s).engines = s.engines := rfl
@[simp] theorem enqueue_slots (kind : Kind) (payload : List Byte) (s : State) :
    (enqueue kind payload s).slots = s.slots := rfl
@[simp] theorem enqueue_channels (kind : Kind) (payload : List Byte) (s : State) :
    (enqueue kind payload s).channels = s.channels := rfl
@[simp] theorem enqueue_draws (kind : Kind) (payload : List Byte) (s : State) :
    (enqueue kind payload s).draws = s.draws := rfl
@[simp] theorem enqueue_settings (kind : Kind) (payload : List Byte) (s : State) :
    (enqueue kind payload s).settings = s.settings := rfl
@[simp] theorem enqueue_service (kind : Kind) (payload : List Byte) (s : State) :
    (enqueue kind payload s).service = s.service := rfl
@[simp] theorem enqueue_pins (kind : Kind) (payload : List Byte) (s : State) :
    (enqueue kind payload s).pins = s.pins := rfl
@[simp] theorem enqueue_pwm (kind : Kind) (payload : List Byte) (s : State) :
    (enqueue kind payload s).pwm = s.pwm := rfl
@[simp] theorem enqueue_dead (kind : Kind) (payload : List Byte) (s : State) :
    (enqueue kind payload s).dead = s.dead := rfl
@[simp] theorem enqueue_inReset (kind : Kind) (payload : List Byte) (s : State) :
    (enqueue kind payload s).inReset = s.inReset := rfl
@[simp] theorem enqueue_free (kind : Kind) (payload : List Byte) (s : State) :
    (enqueue kind payload s).free = s.free := rfl
@[simp] theorem enqueue_pending (kind : Kind) (payload : List Byte) (s : State) :
    (enqueue kind payload s).pending = s.pending := rfl

/-! ## putHalt -/

@[simp] theorem putHalt_tracker (f : Frame) (s : State) : (putHalt f s).tracker = s.tracker := rfl
@[simp] theorem putHalt_unit (f : Frame) (s : State) : (putHalt f s).unit = s.unit := rfl
@[simp] theorem putHalt_announce (f : Frame) (s : State) : (putHalt f s).announce = s.announce := rfl
@[simp] theorem putHalt_receive (f : Frame) (s : State) : (putHalt f s).receive = s.receive := rfl
@[simp] theorem putHalt_view (f : Frame) (s : State) : (putHalt f s).view = s.view := rfl
@[simp] theorem putHalt_refused (f : Frame) (s : State) : (putHalt f s).refused = s.refused := rfl
@[simp] theorem putHalt_tracks (f : Frame) (s : State) : (putHalt f s).tracks = s.tracks := rfl
@[simp] theorem putHalt_engines (f : Frame) (s : State) : (putHalt f s).engines = s.engines := rfl
@[simp] theorem putHalt_slots (f : Frame) (s : State) : (putHalt f s).slots = s.slots := rfl
@[simp] theorem putHalt_channels (f : Frame) (s : State) : (putHalt f s).channels = s.channels := rfl
@[simp] theorem putHalt_draws (f : Frame) (s : State) : (putHalt f s).draws = s.draws := rfl
@[simp] theorem putHalt_settings (f : Frame) (s : State) : (putHalt f s).settings = s.settings := rfl
@[simp] theorem putHalt_service (f : Frame) (s : State) : (putHalt f s).service = s.service := rfl
@[simp] theorem putHalt_pins (f : Frame) (s : State) : (putHalt f s).pins = s.pins := rfl
@[simp] theorem putHalt_pwm (f : Frame) (s : State) : (putHalt f s).pwm = s.pwm := rfl
@[simp] theorem putHalt_dead (f : Frame) (s : State) : (putHalt f s).dead = s.dead := rfl
@[simp] theorem putHalt_inReset (f : Frame) (s : State) : (putHalt f s).inReset = s.inReset := rfl
@[simp] theorem putHalt_free (f : Frame) (s : State) : (putHalt f s).free = s.free := rfl
@[simp] theorem putHalt_pending (f : Frame) (s : State) : (putHalt f s).pending = s.pending := rfl

/-! ## compareHalt -/

@[simp] theorem compareHalt_tracker (f : Frame) (s : State) : (compareHalt f s).tracker = s.tracker := rfl
@[simp] theorem compareHalt_unit (f : Frame) (s : State) : (compareHalt f s).unit = s.unit := rfl
@[simp] theorem compareHalt_announce (f : Frame) (s : State) : (compareHalt f s).announce = s.announce := rfl
@[simp] theorem compareHalt_receive (f : Frame) (s : State) : (compareHalt f s).receive = s.receive := rfl
@[simp] theorem compareHalt_view (f : Frame) (s : State) : (compareHalt f s).view = s.view := rfl
@[simp] theorem compareHalt_refused (f : Frame) (s : State) : (compareHalt f s).refused = s.refused := rfl
@[simp] theorem compareHalt_tracks (f : Frame) (s : State) : (compareHalt f s).tracks = s.tracks := rfl
@[simp] theorem compareHalt_engines (f : Frame) (s : State) : (compareHalt f s).engines = s.engines := rfl
@[simp] theorem compareHalt_slots (f : Frame) (s : State) : (compareHalt f s).slots = s.slots := rfl
@[simp] theorem compareHalt_channels (f : Frame) (s : State) : (compareHalt f s).channels = s.channels := rfl
@[simp] theorem compareHalt_draws (f : Frame) (s : State) : (compareHalt f s).draws = s.draws := rfl
@[simp] theorem compareHalt_settings (f : Frame) (s : State) : (compareHalt f s).settings = s.settings := rfl
@[simp] theorem compareHalt_service (f : Frame) (s : State) : (compareHalt f s).service = s.service := rfl
@[simp] theorem compareHalt_pins (f : Frame) (s : State) : (compareHalt f s).pins = s.pins := rfl
@[simp] theorem compareHalt_pwm (f : Frame) (s : State) : (compareHalt f s).pwm = s.pwm := rfl
@[simp] theorem compareHalt_dead (f : Frame) (s : State) : (compareHalt f s).dead = s.dead := rfl
@[simp] theorem compareHalt_inReset (f : Frame) (s : State) : (compareHalt f s).inReset = s.inReset := rfl
@[simp] theorem compareHalt_free (f : Frame) (s : State) : (compareHalt f s).free = s.free := rfl
@[simp] theorem compareHalt_pending (f : Frame) (s : State) : (compareHalt f s).pending = s.pending := rfl

/-! ## removeDrawOpen -/

@[simp] theorem removeDrawOpen_tracker (k : Fin 4) (s : State) : (removeDrawOpen k s).tracker = s.tracker := rfl
@[simp] theorem removeDrawOpen_unit (k : Fin 4) (s : State) : (removeDrawOpen k s).unit = s.unit := rfl
@[simp] theorem removeDrawOpen_announce (k : Fin 4) (s : State) : (removeDrawOpen k s).announce = s.announce := rfl
@[simp] theorem removeDrawOpen_receive (k : Fin 4) (s : State) : (removeDrawOpen k s).receive = s.receive := rfl
@[simp] theorem removeDrawOpen_view (k : Fin 4) (s : State) : (removeDrawOpen k s).view = s.view := rfl
@[simp] theorem removeDrawOpen_refused (k : Fin 4) (s : State) : (removeDrawOpen k s).refused = s.refused := rfl
@[simp] theorem removeDrawOpen_tracks (k : Fin 4) (s : State) : (removeDrawOpen k s).tracks = s.tracks := rfl
@[simp] theorem removeDrawOpen_engines (k : Fin 4) (s : State) : (removeDrawOpen k s).engines = s.engines := rfl
@[simp] theorem removeDrawOpen_slots (k : Fin 4) (s : State) : (removeDrawOpen k s).slots = s.slots := rfl
@[simp] theorem removeDrawOpen_channels (k : Fin 4) (s : State) : (removeDrawOpen k s).channels = s.channels := rfl
@[simp] theorem removeDrawOpen_draws (k : Fin 4) (s : State) : (removeDrawOpen k s).draws = s.draws := rfl
@[simp] theorem removeDrawOpen_settings (k : Fin 4) (s : State) : (removeDrawOpen k s).settings = s.settings := rfl
@[simp] theorem removeDrawOpen_service (k : Fin 4) (s : State) : (removeDrawOpen k s).service = s.service := rfl
@[simp] theorem removeDrawOpen_pins (k : Fin 4) (s : State) : (removeDrawOpen k s).pins = s.pins := rfl
@[simp] theorem removeDrawOpen_pwm (k : Fin 4) (s : State) : (removeDrawOpen k s).pwm = s.pwm := rfl
@[simp] theorem removeDrawOpen_dead (k : Fin 4) (s : State) : (removeDrawOpen k s).dead = s.dead := rfl
@[simp] theorem removeDrawOpen_inReset (k : Fin 4) (s : State) : (removeDrawOpen k s).inReset = s.inReset := rfl
@[simp] theorem removeDrawOpen_free (k : Fin 4) (s : State) : (removeDrawOpen k s).free = s.free := rfl
@[simp] theorem removeDrawOpen_pending (k : Fin 4) (s : State) : (removeDrawOpen k s).pending = s.pending := rfl

/-! ## offLine -/

@[simp] theorem offLine_tracker (b : Option Nat) (s : State) : (offLine b s).tracker = s.tracker := rfl
@[simp] theorem offLine_unit (b : Option Nat) (s : State) : (offLine b s).unit = s.unit := rfl
@[simp] theorem offLine_announce (b : Option Nat) (s : State) : (offLine b s).announce = s.announce := rfl
@[simp] theorem offLine_receive (b : Option Nat) (s : State) : (offLine b s).receive = s.receive := rfl
@[simp] theorem offLine_view (b : Option Nat) (s : State) : (offLine b s).view = s.view := rfl
@[simp] theorem offLine_refused (b : Option Nat) (s : State) : (offLine b s).refused = s.refused := rfl
@[simp] theorem offLine_tracks (b : Option Nat) (s : State) : (offLine b s).tracks = s.tracks := rfl
@[simp] theorem offLine_engines (b : Option Nat) (s : State) : (offLine b s).engines = s.engines := rfl
@[simp] theorem offLine_slots (b : Option Nat) (s : State) : (offLine b s).slots = s.slots := rfl
@[simp] theorem offLine_channels (b : Option Nat) (s : State) : (offLine b s).channels = s.channels := rfl
@[simp] theorem offLine_draws (b : Option Nat) (s : State) : (offLine b s).draws = s.draws := rfl
@[simp] theorem offLine_settings (b : Option Nat) (s : State) : (offLine b s).settings = s.settings := rfl
@[simp] theorem offLine_service (b : Option Nat) (s : State) : (offLine b s).service = s.service := rfl
@[simp] theorem offLine_pins (b : Option Nat) (s : State) : (offLine b s).pins = s.pins := rfl
@[simp] theorem offLine_pwm (b : Option Nat) (s : State) : (offLine b s).pwm = s.pwm := rfl
@[simp] theorem offLine_dead (b : Option Nat) (s : State) : (offLine b s).dead = s.dead := rfl
@[simp] theorem offLine_inReset (b : Option Nat) (s : State) : (offLine b s).inReset = s.inReset := rfl
@[simp] theorem offLine_free (b : Option Nat) (s : State) : (offLine b s).free = s.free := rfl
@[simp] theorem offLine_pending (b : Option Nat) (s : State) : (offLine b s).pending = s.pending := rfl

/-! ## dropHead -/

@[simp] theorem dropHead_tracker (s : State) : (dropHead s).tracker = s.tracker := rfl
@[simp] theorem dropHead_unit (s : State) : (dropHead s).unit = s.unit := rfl
@[simp] theorem dropHead_announce (s : State) : (dropHead s).announce = s.announce := rfl
@[simp] theorem dropHead_receive (s : State) : (dropHead s).receive = s.receive := rfl
@[simp] theorem dropHead_view (s : State) : (dropHead s).view = s.view := rfl
@[simp] theorem dropHead_refused (s : State) : (dropHead s).refused = s.refused := rfl
@[simp] theorem dropHead_tracks (s : State) : (dropHead s).tracks = s.tracks := rfl
@[simp] theorem dropHead_engines (s : State) : (dropHead s).engines = s.engines := rfl
@[simp] theorem dropHead_slots (s : State) : (dropHead s).slots = s.slots := rfl
@[simp] theorem dropHead_channels (s : State) : (dropHead s).channels = s.channels := rfl
@[simp] theorem dropHead_draws (s : State) : (dropHead s).draws = s.draws := rfl
@[simp] theorem dropHead_settings (s : State) : (dropHead s).settings = s.settings := rfl
@[simp] theorem dropHead_service (s : State) : (dropHead s).service = s.service := rfl
@[simp] theorem dropHead_pins (s : State) : (dropHead s).pins = s.pins := rfl
@[simp] theorem dropHead_pwm (s : State) : (dropHead s).pwm = s.pwm := rfl
@[simp] theorem dropHead_dead (s : State) : (dropHead s).dead = s.dead := rfl
@[simp] theorem dropHead_inReset (s : State) : (dropHead s).inReset = s.inReset := rfl
@[simp] theorem dropHead_free (s : State) : (dropHead s).free = s.free := rfl
@[simp] theorem dropHead_pending (s : State) : (dropHead s).pending = s.pending := rfl

/-! ## putHead -/

@[simp] theorem putHead_tracker (t : TxFrame) (s : State) : (putHead t s).tracker = s.tracker := rfl
@[simp] theorem putHead_unit (t : TxFrame) (s : State) : (putHead t s).unit = s.unit := rfl
@[simp] theorem putHead_announce (t : TxFrame) (s : State) : (putHead t s).announce = s.announce := rfl
@[simp] theorem putHead_receive (t : TxFrame) (s : State) : (putHead t s).receive = s.receive := rfl
@[simp] theorem putHead_view (t : TxFrame) (s : State) : (putHead t s).view = s.view := rfl
@[simp] theorem putHead_refused (t : TxFrame) (s : State) : (putHead t s).refused = s.refused := rfl
@[simp] theorem putHead_tracks (t : TxFrame) (s : State) : (putHead t s).tracks = s.tracks := rfl
@[simp] theorem putHead_engines (t : TxFrame) (s : State) : (putHead t s).engines = s.engines := rfl
@[simp] theorem putHead_slots (t : TxFrame) (s : State) : (putHead t s).slots = s.slots := rfl
@[simp] theorem putHead_channels (t : TxFrame) (s : State) : (putHead t s).channels = s.channels := rfl
@[simp] theorem putHead_draws (t : TxFrame) (s : State) : (putHead t s).draws = s.draws := rfl
@[simp] theorem putHead_settings (t : TxFrame) (s : State) : (putHead t s).settings = s.settings := rfl
@[simp] theorem putHead_service (t : TxFrame) (s : State) : (putHead t s).service = s.service := rfl
@[simp] theorem putHead_pins (t : TxFrame) (s : State) : (putHead t s).pins = s.pins := rfl
@[simp] theorem putHead_pwm (t : TxFrame) (s : State) : (putHead t s).pwm = s.pwm := rfl
@[simp] theorem putHead_dead (t : TxFrame) (s : State) : (putHead t s).dead = s.dead := rfl
@[simp] theorem putHead_inReset (t : TxFrame) (s : State) : (putHead t s).inReset = s.inReset := rfl
@[simp] theorem putHead_free (t : TxFrame) (s : State) : (putHead t s).free = s.free := rfl
@[simp] theorem putHead_pending (t : TxFrame) (s : State) : (putHead t s).pending = s.pending := rfl

end Sys2Proof.Machine
end

