-- ==== Sys2Proof/Laws/Frame.lean ====
section
/-! SUPPORT. What the closure, the draw unit and the queue leave as it is: one lemma for each operation of Draw.lean,
Channel.lean and Closure.lean. -/

namespace Sys2Proof.Machine
open Sys2Proof

/-- The part of the state that no closure, no draw and no offer touches. -/
structure Still where
  tracker  : Tracker
  unit     : ModeUnit
  receive  : Receive
  view     : View
  settings : Settings
  pins     : Pins
  pwm      : Nat
  dead     : Nat
  inReset  : Option ResetKind
  pending  : List Instr
  slot     : Option Frame
  onLine   : OnLine
  bits     : Nat
  idle     : Nat
  byte     : Option Nat
  silenced : Bool

/-- The still part of a state. -/
def State.still (s : State) : Still :=
  ⟨s.tracker, s.unit, s.receive, s.view, s.settings, s.pins, s.pwm, s.dead, s.inReset, s.pending, s.transmit.slot,
    s.transmit.onLine, s.transmit.bits, s.transmit.idle, s.transmit.byte, s.transmit.silenced⟩

/-- A fold keeps what each of its steps keeps. -/
theorem foldl_keeps {α β : Type} (p : State → β) (f : State → α → State) (h : ∀ s a, p (f s a) = p s)
    (l : List α) (s : State) : p (l.foldl f s) = p s := by
  induction l generalizing s with
  | nil => rfl
  | cons a l ih => rw [List.foldl_cons, ih, h]

/-! ## Single updates -/

@[simp] theorem still_modEngine (k : Fin 4) (f : Engine → Engine) (s : State) : (modEngine k f s).still = s.still := rfl
@[simp] theorem still_modSlot (k : Fin 4) (f : Slot → Slot) (s : State) : (modSlot k f s).still = s.still := rfl
@[simp] theorem still_modChannel (k : Fin 4) (f : Channel → Channel) (s : State) :
    (modChannel k f s).still = s.still := rfl
@[simp] theorem still_modDraw (k : Fin 4) (f : OwnDraw → OwnDraw) (s : State) : (modDraw k f s).still = s.still := rfl
@[simp] theorem still_modTrack (k : Fin 4) (f : Track → Track) (s : State) : (modTrack k f s).still = s.still := rfl
@[simp] theorem still_writeRecord (k : Fin 4) (f : Record → Record) (s : State) :
    (writeRecord k f s).still = s.still := rfl
@[simp] theorem still_addReason (k : Fin 4) (r : Reason) (s : State) : (addReason k r s).still = s.still := rfl
@[simp] theorem still_markReached (k : Fin 4) (t : Threshold) (s : State) : (markReached k t s).still = s.still := rfl
@[simp] theorem still_consulted (s : State) : (consulted s).still = s.still := rfl
@[simp] theorem still_enqueue (kind : Kind) (p : List Byte) (s : State) : (enqueue kind p s).still = s.still := rfl
@[simp] theorem still_removeDrawOpen (k : Fin 4) (s : State) : (removeDrawOpen k s).still = s.still := rfl

/-! ## Offers and queue removals -/

@[simp] theorem still_offerPosition (s : State) : (offerPosition s).still = s.still := by
  unfold offerPosition; split <;> rfl

@[simp] theorem still_offerReannouncement (s : State) : (offerReannouncement s).still = s.still := by
  unfold offerReannouncement; split <;> rfl

@[simp] theorem still_offerVerdict (k : Fin 4) (s : State) : (offerVerdict k s).still = s.still := by
  unfold offerVerdict; split <;> rfl

@[simp] theorem still_offerClose (k : Fin 4) (c : DrawClass) (s : State) : (offerClose k c s).still = s.still := by
  unfold offerClose; repeat (first | split | rfl)

@[simp] theorem still_retryClose (k : Fin 4) (c : DrawClass) (s : State) : (retryClose k c s).still = s.still := by
  unfold retryClose; split <;> rfl

@[simp] theorem still_grantOne (s : State) (k : Fin 4) : (grantOne s k).still = s.still := by
  unfold grantOne; repeat (first | split | rfl)

@[simp] theorem still_arbiter (c : DrawClass) (s : State) : (arbiter c s).still = s.still := by
  unfold arbiter
  split
  · exact foldl_keeps State.still grantOne still_grantOne _ s
  · rfl

/-- What a class's work keeps, the work of several classes keeps, in whatever order they come. -/
theorem forClasses_keeps {β : Type} (p : State → β) (f : DrawClass → State → State) (h : ∀ c s, p (f c s) = p s)
    (hc : ∀ s, p (consulted s) = p s) (acts : DrawClass → Bool) (s : State) : p (forClasses acts f s) = p s := by
  unfold forClasses
  rw [foldl_keeps p (fun s c => f c s) (fun s c => h c s), hc]

@[simp] theorem still_forClasses_arbiter (acts : DrawClass → Bool) (s : State) :
    (forClasses acts arbiter s).still = s.still :=
  forClasses_keeps State.still arbiter still_arbiter still_consulted acts s

@[simp] theorem still_bothArbiters (s : State) : (bothArbiters s).still = s.still := still_forClasses_arbiter _ s

@[simp] theorem still_retryGrants (s : State) : (retryGrants s).still = s.still := by
  unfold retryGrants
  rw [still_forClasses_arbiter]
  rfl

@[simp] theorem still_offerAgain (s : State) (o : Originator) : (offerAgain s o).still = s.still := by
  unfold offerAgain
  split
  · cases o <;> simp
  · rfl

@[simp] theorem still_queueRemoval (s : State) : (queueRemoval s).still = s.still := by
  unfold queueRemoval
  rw [foldl_keeps State.still offerAgain still_offerAgain, still_consulted]

@[simp] theorem still_queueRemovals (n : Nat) (s : State) : (queueRemovals n s).still = s.still := by
  induction n generalizing s with
  | zero => rfl
  | succ n ih => simp [queueRemovals, ih]

/-! ## Withdrawals, asks and closes -/

@[simp] theorem still_withdrawDraw (k : Fin 4) (s : State) : (withdrawDraw k s).still = s.still := rfl

@[simp] theorem still_withdrawOne (c : DrawClass) (s : State) (k : Fin 4) : (withdrawOne c s k).still = s.still := by
  unfold withdrawOne; split <;> rfl

@[simp] theorem still_withdrawals (c : DrawClass) (s : State) : (withdrawals c s).still = s.still :=
  foldl_keeps State.still (withdrawOne c) (still_withdrawOne c) _ s

@[simp] theorem still_withdrawalCheck (c : DrawClass) (s : State) : (withdrawalCheck c s).still = s.still := by
  simp [withdrawalCheck]

@[simp] theorem still_bothChecks (s : State) : (bothChecks s).still = s.still :=
  forClasses_keeps State.still withdrawalCheck still_withdrawalCheck still_consulted _ s

@[simp] theorem still_checkAndRun (c : DrawClass) (s : State) : (checkAndRun c s).still = s.still := by
  simp [checkAndRun]

@[simp] theorem still_takeAsk (k : Fin 4) (c : DrawClass) (s : State) : (takeAsk k c s).still = s.still := by
  unfold takeAsk; split <;> simp

@[simp] theorem still_closeDraw (k : Fin 4) (s : State) : (closeDraw k s).still = s.still := by
  unfold closeDraw
  repeat (first | split | simp)

@[simp] theorem still_endAsk (k : Fin 4) (s : State) : (endAsk k s).still = s.still := by
  unfold endAsk
  repeat (first | split | simp)

/-! ## The slot and the release -/

@[simp] theorem still_settleJar (k : Fin 4) (v : Verdict) (r : Reasons) (s : State) :
    (settleJar k v r s).still = s.still := by
  simp [settleJar]

@[simp] theorem still_bindJar (k : Fin 4) (n : Nat) (s : State) : (bindJar k n s).still = s.still := rfl

@[simp] theorem still_decideJar (k : Fin 4) (s : State) : (decideJar k s).still = s.still := by
  unfold decideJar
  repeat (first | split | simp)

@[simp] theorem still_supplyDefaults (k : Fin 4) (s : State) : (supplyDefaults k s).still = s.still := rfl

@[simp] theorem still_slotIntakeClose (k : Fin 4) (s : State) : (slotIntakeClose k s).still = s.still := by
  unfold slotIntakeClose
  repeat (first | split | simp)

@[simp] theorem still_slotDischarge (k : Fin 4) (s : State) : (slotDischarge k s).still = s.still := by
  unfold slotDischarge
  repeat (first | split | simp)

@[simp] theorem still_slotEntry (s : State) (k : Fin 4) : (slotEntry s k).still = s.still := by
  unfold slotEntry; split <;> rfl

@[simp] theorem still_offerVerdictOnce (k : Fin 4) (s : State) : (offerVerdictOnce k s).still = s.still := by
  unfold offerVerdictOnce; split <;> rfl

@[simp] theorem still_releaseSlot (k : Fin 4) (s : State) : (releaseSlot k s).still = s.still := by
  unfold releaseSlot
  dsimp only
  split
  · split <;> simp
  · simp

@[simp] theorem still_release (k : Fin 4) (s : State) : (release k s).still = s.still := by
  simp [release]

@[simp] theorem still_toDwell (k : Fin 4) (s : State) : (toDwell k s).still = s.still := by
  unfold toDwell; split <;> simp

/-! ## Ends of the torque phase, trips, forced runs -/

@[simp] theorem still_torqueEnded (k : Fin 4) (out : Bool) (s : State) : (torqueEnded k out s).still = s.still := by
  unfold torqueEnded; split <;> simp

@[simp] theorem still_endPhase (k : Fin 4) (kind : TorqueEnd) (out : Bool) (f : Channel → Channel) (s : State) :
    (endPhase k kind out f s).still = s.still := by
  simp [endPhase]

@[simp] theorem still_endBeforeStart (k : Fin 4) (kind : TorqueEnd) (s : State) :
    (endBeforeStart k kind s).still = s.still := rfl

@[simp] theorem still_clearForcedDrive (k : Fin 4) (s : State) : (clearForcedDrive k s).still = s.still := by
  unfold clearForcedDrive; split <;> rfl

@[simp] theorem still_tripOvercurrent (k : Fin 4) (s : State) : (tripOvercurrent k s).still = s.still := by
  unfold tripOvercurrent
  repeat (first | split | simp)

@[simp] theorem still_tripHalt (cause : TripCause) (s : State) (k : Fin 4) : (tripHalt cause s k).still = s.still := by
  unfold tripHalt; split <;> simp

@[simp] theorem still_watchComparator (k : Fin 4) (s : State) : (watchComparator k s).still = s.still := by
  unfold watchComparator; split <;> simp

@[simp] theorem still_endForcedRun (s : State) : (endForcedRun s).still = s.still := by
  unfold endForcedRun
  repeat (first | split | rfl)

@[simp] theorem still_endForcedByGuard (s : State) : (endForcedByGuard s).still = s.still := by
  unfold endForcedByGuard
  repeat (first | split | simp)

/-! ## Phases and reports -/

@[simp] theorem still_endFlush (k : Fin 4) (kind : FlushEnd) (s : State) : (endFlush k kind s).still = s.still := by
  simp [endFlush]

@[simp] theorem still_enterFlush (k : Fin 4) (s : State) : (enterFlush k s).still = s.still := by
  unfold enterFlush
  repeat (first | split | simp)

@[simp] theorem still_enterTorque (k : Fin 4) (s : State) : (enterTorque k s).still = s.still := by
  unfold enterTorque; split <;> simp

@[simp] theorem still_headOpens (k : Fin 4) (c : DrawClass) (s : State) : (headOpens k c s).still = s.still := by
  unfold headOpens; split <;> simp

@[simp] theorem still_openSent (k : Fin 4) (c : DrawClass) (s : State) : (openSent k c s).still = s.still := by
  unfold openSent
  repeat (first | split | simp)

@[simp] theorem still_openWaiting (k : Fin 4) (a : Ask) (s : State) : (openWaiting k a s).still = s.still := by
  unfold openWaiting; split <;> simp

@[simp] theorem still_forceOpen (k : Fin 4) (c : DrawClass) (s : State) : (forceOpen k c s).still = s.still := by
  unfold forceOpen
  split <;> simp

@[simp] theorem still_beginAsk (k : Fin 4) (s : State) : (beginAsk k s).still = s.still := by
  unfold beginAsk; split <;> simp

@[simp] theorem still_decideDrive (k : Fin 4) (s : State) : (decideDrive k s).still = s.still := by
  unfold decideDrive
  repeat (first | split | simp)

@[simp] theorem still_capCheck (k : Fin 4) (s : State) : (capCheck k s).still = s.still := by
  unfold capCheck
  repeat (first | split | simp)

@[simp] theorem still_headThreshold (k : Fin 4) (t : Threshold) (s : State) :
    (headThreshold k t s).still = s.still := by
  unfold headThreshold; split <;> simp

@[simp] theorem still_report (k : Fin 4) (t : Threshold) (s : State) : (report k t s).still = s.still := by
  cases t <;> simp [report]

@[simp] theorem still_reportDue (k : Fin 4) (limit : Option Nat) (n : Nat) (s : State) :
    (reportDue k limit n s).still = s.still := by
  induction n generalizing s with
  | zero => rfl
  | succ n ih => unfold reportDue; split <;> simp [ih]

@[simp] theorem still_reportRise (k : Fin 4) (s : State) : (reportRise k s).still = s.still := by simp [reportRise]

@[simp] theorem still_newPass (k : Fin 4) (s : State) : (newPass k s).still = s.still := by simp [newPass]

@[simp] theorem still_endHolds (ends : Fin 4 → Bool) (s : State) : (endHolds ends s).still = s.still := rfl

/-! ## Reading the still part -/

theorem State.still_fields {s t : State} (h : t.still = s.still) :
    t.tracker = s.tracker ∧ t.unit = s.unit ∧ t.receive = s.receive ∧ t.view = s.view ∧ t.settings = s.settings
    ∧ t.pins = s.pins ∧ t.pwm = s.pwm ∧ t.dead = s.dead ∧ t.inReset = s.inReset ∧ t.pending = s.pending := by
  simp only [State.still, Still.mk.injEq] at h
  exact ⟨h.1, h.2.1, h.2.2.1, h.2.2.2.1, h.2.2.2.2.1, h.2.2.2.2.2.1, h.2.2.2.2.2.2.1, h.2.2.2.2.2.2.2.1,
    h.2.2.2.2.2.2.2.2.1, h.2.2.2.2.2.2.2.2.2.1⟩

end Sys2Proof.Machine
end

