-- ==== Sys2Proof/Laws/Modes.lean ====
section
/-! SUPPORT. What the mode entries, the levels of the inputs, doubt, faults and the passing of time leave as they are. -/

namespace Sys2Proof.Machine
open Sys2Proof

/-! ## Time -/

theorem elapse_inReset (n : Nat) (s : State) : (elapse n s).inReset = s.inReset := by
  unfold elapse; split <;> rfl

theorem elapse_unit (n : Nat) (s : State) : (elapse n s).unit = s.unit := by
  unfold elapse; split <;> rfl

theorem elapse_receive (n : Nat) (s : State) : (elapse n s).receive = s.receive := by
  unfold elapse; split <;> rfl

theorem elapse_view (n : Nat) (s : State) : (elapse n s).view = s.view := by
  unfold elapse; split <;> rfl

theorem elapse_draws (n : Nat) (s : State) : (elapse n s).draws = s.draws := by
  unfold elapse; split <;> rfl

theorem elapse_slots (n : Nat) (s : State) : (elapse n s).slots = s.slots := by
  unfold elapse; split <;> rfl

theorem elapse_pins (n : Nat) (s : State) : (elapse n s).pins = s.pins := by
  unfold elapse; split <;> rfl

theorem elapse_pending (n : Nat) (s : State) : (elapse n s).pending = s.pending := by
  unfold elapse; split <;> rfl

theorem elapse_store (n : Nat) (s : State) : (elapse n s).settings.store = s.settings.store := by
  unfold elapse; split <;> rfl

theorem elapse_normal (n : Nat) (s : State) : (elapse n s).transmit.normal = s.transmit.normal := by
  unfold elapse
  split
  · rfl
  · dsimp only; unfold Transmit.elapse; repeat (first | split | rfl)

/-- Out of reset, time moves e and nothing else of the tracker (R2). -/
theorem elapse_tracker (n : Nat) (s : State) (h : s.inReset = none) : (elapse n s).tracker = s.tracker.elapse n := by
  simp [elapse, h]

/-- All that a byte does to the line and the clocks: while the station sends, nothing; otherwise the rest of its
bit-times passes, and the idle time counts from its end (R38, R46). -/
theorem passByte_cases (s : State) : (s.transmit.onLine ≠ .none ∧ passByte s = s)
    ∨ (s.transmit.onLine = .none ∧ passByte s = { elapse s.transmit.byteSteps s with
        transmit := { s.transmit with
          byte := none, idle := s.transmit.byteGone + 5 * s.transmit.byteSteps - byteTime } }) := by
  unfold passByte
  split
  · exact .inr ⟨‹_›, rfl⟩
  · exact .inl ⟨‹_›, rfl⟩

@[simp] theorem passByte_receive (s : State) : (passByte s).receive = s.receive := by
  obtain ⟨-, h⟩ | ⟨-, h⟩ := passByte_cases s <;> simp [h, elapse_receive]

@[simp] theorem passByte_unit (s : State) : (passByte s).unit = s.unit := by
  obtain ⟨-, h⟩ | ⟨-, h⟩ := passByte_cases s <;> simp [h, elapse_unit]

@[simp] theorem passByte_view (s : State) : (passByte s).view = s.view := by
  obtain ⟨-, h⟩ | ⟨-, h⟩ := passByte_cases s <;> simp [h, elapse_view]

@[simp] theorem passByte_draws (s : State) : (passByte s).draws = s.draws := by
  obtain ⟨-, h⟩ | ⟨-, h⟩ := passByte_cases s <;> simp [h, elapse_draws]

@[simp] theorem passByte_slots (s : State) : (passByte s).slots = s.slots := by
  obtain ⟨-, h⟩ | ⟨-, h⟩ := passByte_cases s <;> simp [h, elapse_slots]

@[simp] theorem passByte_inReset (s : State) : (passByte s).inReset = s.inReset := by
  obtain ⟨-, h⟩ | ⟨-, h⟩ := passByte_cases s <;> simp [h, elapse_inReset]

@[simp] theorem passByte_normal (s : State) : (passByte s).transmit.normal = s.transmit.normal := by
  obtain ⟨-, h⟩ | ⟨-, h⟩ := passByte_cases s <;> simp [h]

@[simp] theorem passByte_slot (s : State) : (passByte s).transmit.slot = s.transmit.slot := by
  obtain ⟨-, h⟩ | ⟨-, h⟩ := passByte_cases s <;> simp [h]

@[simp] theorem passByte_onLine (s : State) : (passByte s).transmit.onLine = s.transmit.onLine := by
  obtain ⟨-, h⟩ | ⟨-, h⟩ := passByte_cases s <;> simp [h]

/-! ## Inputs -/

/-- Levels presented with a command change the pins alone of the still part. -/
@[simp] theorem still_takePins (p : Levels) (s : State) : (takePins p s).still = (setLevels p s).still := by
  unfold takePins
  dsimp only
  rw [foldl_keeps State.still (fun s k => tripOvercurrent k s) (fun s k => still_tripOvercurrent k s), still_consulted]

/-! ## Entries to RUN, STAND and SAFE -/

@[simp] theorem still_safeEngine (k : Fin 4) (s : State) : (safeEngine k s).still = s.still := by
  unfold safeEngine
  dsimp only
  split <;> simp

@[simp] theorem still_safeHead (s : State) (k : Fin 4) : (safeHead s k).still = s.still := by simp [safeHead]

/-- An entry to RUN sets the mode and leaves the rest of the still part. -/
@[simp] theorem still_enterRun (s : State) : (enterRun s).still = (setMode .run s).still := by
  unfold enterRun
  dsimp only
  rw [foldl_keeps State.still slotEntry still_slotEntry]
  have h := State.still_fields (still_endForcedRun s)
  have hs := still_endForcedRun s
  simp only [State.still, Still.mk.injEq] at hs ⊢
  simp_all [setMode]

/-- An entry to STAND sets the mode and leaves the rest of the still part. -/
@[simp] theorem still_enterStand (s : State) : (enterStand s).still = (setMode .stand s).still := by
  unfold enterStand
  dsimp only
  rw [foldl_keeps State.still slotEntry still_slotEntry]

/-- An entry to SAFE sets the mode and leaves the rest of the still part. -/
@[simp] theorem still_enterSafe (s : State) : (enterSafe s).still = (setMode .safe s).still := by
  unfold enterSafe
  dsimp only
  rw [foldl_keeps State.still safeHead still_safeHead, still_consulted,
    foldl_keeps State.still slotEntry still_slotEntry]

@[simp] theorem still_guardTrips (s : State) : (guardTrips s).still = s.still := by
  unfold guardTrips
  rw [foldl_keeps State.still (tripHalt .guard) (still_tripHalt .guard), still_consulted]

/-! ## Doubt (R138) -/

/-- The view after doubt has begun in a mode that keeps it (R138). -/
theorem doubtBegins_view (s : State) :
    (doubtBegins s).view = if s.unit.mode.keepsView then { s.view with doubt := true, clean := 0 } else s.view := by
  unfold doubtBegins
  dsimp only
  split
  · split
    · rfl
    · rw [(State.still_fields (still_bothArbiters _)).2.2.2.1, (State.still_fields (still_bothChecks _)).2.2.2.1]
  · rfl

/-- Doubt leaves the station's mode, its position and its receiver. -/
theorem doubtBegins_fields (s : State) :
    (doubtBegins s).tracker = s.tracker ∧ (doubtBegins s).unit = s.unit ∧ (doubtBegins s).receive = s.receive
    ∧ (doubtBegins s).settings = s.settings ∧ (doubtBegins s).pins = s.pins ∧ (doubtBegins s).inReset = s.inReset
    ∧ (doubtBegins s).pending = s.pending := by
  unfold doubtBegins
  dsimp only
  split
  · split
    · exact ⟨rfl, rfl, rfl, rfl, rfl, rfl, rfl⟩
    · have h : ∀ x : State, (bothArbiters (bothChecks x)).still = x.still := fun x => by simp
      have f := State.still_fields (h { s with view := { s.view with doubt := true, clean := 0 } })
      exact ⟨f.1, f.2.1, f.2.2.1, f.2.2.2.2.1, f.2.2.2.2.2.1, f.2.2.2.2.2.2.2.2.1, f.2.2.2.2.2.2.2.2.2⟩
  · exact ⟨rfl, rfl, rfl, rfl, rfl, rfl, rfl⟩

/-! ## FAULT (R34) -/

/-- An entry to FAULT sets the mode and the code and keeps g, p0 and the node. -/
theorem enterFault_unit (code : FaultCode) (s : State) (h : s.unit.mode ≠ .fault) :
    (enterFault code s).unit.mode = .fault ∧ (enterFault code s).unit.fault = code
    ∧ (enterFault code s).unit.g = s.unit.g ∧ (enterFault code s).unit.p0 = s.unit.p0
    ∧ (enterFault code s).unit.node = s.unit.node := by
  have hu : (endForcedRun s).unit = s.unit := (State.still_fields (still_endForcedRun s)).2.1
  have ho : ∀ x : State, (offerFaultHalt code x).unit = x.unit := by
    intro x
    unfold offerFaultHalt offerHalt
    split
    · split <;> rfl
    · rfl
  unfold enterFault
  rw [if_neg h]
  simp only [faultBlocks, faultLine, ho, consulted_unit, ModeUnit.faulted, hu]
  exact ⟨trivial, trivial, trivial, trivial, trivial⟩

/-- Nothing happens at a fault found in FAULT (R34). -/
theorem enterFault_in_fault (code : FaultCode) (s : State) (h : s.unit.mode = .fault) : enterFault code s = s := by
  unfold enterFault
  rw [if_pos h]

end Sys2Proof.Machine
end

