-- ==== Sys2Proof/Laws/Ops.lean ====
section
/-! SUPPORT. What the shared operations do: guards, delivery, the transmit queue, orders, arithmetic. -/

namespace Sys2Proof.Machine
open Sys2Proof

/-! ## Guards -/

@[simp] theorem unlessReset_out (f : State → State) (s : State) (h : s.inReset = none) : unlessReset f s = f s := by
  simp [unlessReset, h]

theorem unlessReset_in (f : State → State) (s : State) (h : s.inReset.isSome = true) : unlessReset f s = s := by
  simp [unlessReset, h]

@[simp] theorem whenever_true (c : State → Bool) (f : State → State) (s : State) (h : c s = true) :
    whenever c f s = f s := by
  simp [whenever, h]

@[simp] theorem whenever_false (c : State → Bool) (f : State → State) (s : State) (h : c s = false) :
    whenever c f s = s := by
  simp [whenever, h]

/-! ## Delivery (R62) -/

/-- A frame of the kind at the front of the queue is taken by its owner, without the frame. -/
theorem deliver_front (kind : Kind) (take : Frame → State → State) (s : State) (f : Frame) (rest : List Frame)
    (h : s.receive.queue = f :: rest) (hk : f.kind = kind) :
    deliver kind take s = take f { s with receive := { s.receive with queue := rest } } := by
  simp [deliver, h, hk]

/-- Where no frame of the kind is at the front, nothing is delivered. -/
theorem deliver_none (kind : Kind) (take : Frame → State → State) (s : State)
    (h : ∀ f rest, s.receive.queue = f :: rest → f.kind ≠ kind) : deliver kind take s = s := by
  unfold deliver
  split
  · rfl
  · next f rest hq => rw [if_neg (h f rest hq)]

/-- An ask at the front of a station that is not silenced is served. -/
theorem deliverAsk_front (mine : Nat → Bool) (serve : Frame → State → State) (s : State) (f : Frame)
    (rest : List Frame) (h : s.receive.queue = f :: rest) (hk : f.kind = .ask) (hm : mine f.code = true)
    (hs : s.transmit.silenced = false) :
    deliverAsk mine serve s = serve f { s with receive := { s.receive with queue := rest } } := by
  simp [deliverAsk, h, hk, hm, hs]

/-! ## The transmit queue (R40) -/

/-- What an acceptance says. -/
theorem accepts_iff (s : State) (kind : Kind) (p : List Byte) :
    s.accepts kind p = true ↔ s.transmit.silenced = false ∧ (s.unit.mode = .fault → kind = .answer)
      ∧ s.transmit.normalCount < normalBound
      ∧ (kind = .drawOpen → ∀ f ∈ s.transmit.normal, f.frame.kind = .drawOpen → u8 f.frame.payload 0 ≠ u8 p 0) := by
  unfold State.accepts
  simp only [Bool.and_eq_true, Bool.not_eq_true', Bool.or_eq_true, decide_eq_true_eq]
  constructor
  · rintro ⟨⟨⟨h1, h2⟩, h3⟩, h4⟩
    refine ⟨h1, ?_, h3, ?_⟩
    · intro hm
      rcases h2 with h2 | h2
      · exact absurd hm h2
      · exact h2
    · intro hk f hf hd he
      rw [hk] at h4
      simp only [decide_true, Bool.true_and, List.any_eq_false] at h4
      exact h4 f hf (by simp [hd, he])
  · rintro ⟨h1, h2, h3, h4⟩
    refine ⟨⟨⟨h1, ?_⟩, h3⟩, ?_⟩
    · by_cases hm : s.unit.mode = .fault
      · exact Or.inr (h2 hm)
      · exact Or.inl hm
    · by_cases hk : kind = .drawOpen
      · simp only [hk, decide_true, Bool.true_and, List.any_eq_false]
        intro f hf hb
        simp only [Bool.and_eq_true, decide_eq_true_eq] at hb
        exact h4 hk f hf hb.1 hb.2
      · simp [hk]

/-- An accepted frame stands at the tail, with the node in force and no collision. -/
theorem enqueue_normal (kind : Kind) (p : List Byte) (s : State) :
    (enqueue kind p s).transmit.normal
      = s.transmit.normal ++ [{ frame := ⟨s.unit.node, kind, p⟩, ticket := s.transmit.ticket }] := rfl

/-- An answer is accepted at the tail, or dropped with nothing changed (R181). -/
theorem answer_cases (code : Nat) (st : Status) (data : List Byte) (s : State) :
    answer code st data s = enqueue .answer (answerPayload code st data) s ∨ answer code st data s = s := by
  unfold answer
  split
  · exact Or.inl rfl
  · exact Or.inr rfl

/-- The slot after an offer holds the offered HALT, or one of greater severity (R42). -/
theorem putHalt_slot (f : Frame) (s : State) :
    (putHalt f s).transmit.slot = some f
    ∨ ∃ q, s.transmit.slot = some q ∧ (putHalt f s).transmit.slot = some q ∧ f.severity < q.severity := by
  unfold putHalt
  cases h : s.transmit.slot with
  | none => exact Or.inl rfl
  | some q =>
    by_cases hq : q.severity ≤ f.severity
    · simp [hq]
    · exact Or.inr ⟨q, rfl, by simp [hq], by omega⟩

/-! ## Orders -/

theorem insertAt_perm {α : Type} (x : α) (n : Nat) (l : List α) : (insertAt x n l).Perm (x :: l) := by
  induction n generalizing l with
  | zero => exact List.Perm.refl _
  | succ n ih =>
    cases l with
    | nil => exact List.Perm.refl _
    | cons y ys => exact ((ih ys).cons y).trans (List.Perm.swap x y ys)

/-- Every arrangement holds the same elements. -/
theorem arrange_perm {α : Type} (code : Nat) (l : List α) : (arrange code l).Perm l := by
  induction l generalizing code with
  | nil => exact List.Perm.refl _
  | cons x xs ih =>
    cases xs with
    | nil => exact List.Perm.refl _
    | cons y ys => exact (insertAt_perm _ _ _).trans ((ih _).cons x)

/-- The free order holds the same elements (log entry 4). -/
theorem freely_perm {α : Type} (s : State) (l : List α) : (freely s l).Perm l := arrange_perm _ l

@[simp] theorem freely_nil {α : Type} (s : State) : freely s ([] : List α) = [] := rfl

@[simp] theorem freely_one {α : Type} (s : State) (x : α) : freely s [x] = [x] := rfl

theorem insertBy_perm {α : Type} (before : α → α → Bool) (x : α) (l : List α) :
    (insertBy before x l).Perm (x :: l) := by
  induction l with
  | nil => exact List.Perm.refl _
  | cons y ys ih =>
    unfold insertBy
    split
    · exact List.Perm.refl _
    · exact (ih.cons y).trans (List.Perm.swap x y ys)

/-- Sorting holds the same elements. -/
theorem sortBy_perm {α : Type} (before : α → α → Bool) (l : List α) : (sortBy before l).Perm l := by
  induction l with
  | nil => exact List.Perm.refl _
  | cons x xs ih => exact (insertBy_perm before x _).trans (ih.cons x)

/-! ## Slots and records (R66) -/

/-- A block's write reaches the record of a BOUND slot alone. -/
theorem Slot.write_bound (f : Record → Record) (x : Slot) (h : x.state = .bound) :
    Slot.write f x = { x with record := f x.record } := by
  simp [Slot.write, h]

theorem Slot.write_other (f : Record → Record) (x : Slot) (h : x.state ≠ .bound) : Slot.write f x = x := by
  simp [Slot.write, h]

@[simp] theorem Slot.write_state (f : Record → Record) (x : Slot) : (Slot.write f x).state = x.state := by
  unfold Slot.write; split <;> rfl

@[simp] theorem Slot.write_pocket (f : Record → Record) (x : Slot) : (Slot.write f x).pocket = x.pocket := by
  unfold Slot.write; split <;> rfl

/-! ## Marks (R13) -/

@[simp] theorem Marks.get_set_same (m : Marks) (t : Threshold) : (m.set t).get t = true := by cases t <;> rfl

theorem Marks.get_set_other (m : Marks) {t u : Threshold} (h : u ≠ t) : (m.set t).get u = m.get u := by
  cases t <;> cases u <;> first | rfl | exact absurd rfl h

/-! ## Channels (6.5) -/

/-- A channel that stops drives nothing, and its duty buffer is 0 (R110, R112). -/
theorem Channel.stop_fields (st : ChannelState) (x : Channel) :
    (x.stop st).state = st ∧ (x.stop st).duty = 0 ∧ (x.stop st).bridge = .off := ⟨rfl, rfl, rfl⟩

/-- A tripped channel holds its cause, drives nothing and runs no torque step (R127). -/
theorem Channel.trip_fields (cause : TripCause) (x : Channel) :
    (x.trip cause).state = .tripped ∧ (x.trip cause).duty = 0 ∧ (x.trip cause).bridge = .off
    ∧ (x.trip cause).step = .none ∧ (x.trip cause).causes = x.causes.add cause := ⟨rfl, rfl, rfl, rfl, rfl⟩

/-- A GUARD or SAFE trip leaves the channel TRIPPED with its cause (R125 to R127). -/
theorem Channel.tripOrAdd_fields (cause : TripCause) (x : Channel) :
    (x.tripOrAdd cause).state = .tripped ∧ (x.tripOrAdd cause).causes = x.causes.add cause := by
  unfold Channel.tripOrAdd
  split
  · next h => exact ⟨h, rfl⟩
  · exact ⟨rfl, rfl⟩

end Sys2Proof.Machine
end

