-- ==== Sys2Proof/Laws/PerInstr.lean ====
section
/-! SUPPORT. What holds of every command as syntax: it is well formed, but for a collision beyond the longest frame, and no
word spells it. -/

namespace Sys2Proof.Laws.Shape
open Sys2Proof

/-- A command is well formed exactly when it is no collision beyond the longest frame, and no word spells it. -/
def Statement (i : Instr) : Prop :=
  (i.wellFormed = true ↔ ∀ bit, i = .collision bit → bit < longestFrameBits)
  ∧ ∀ nbits w, decodeTableWord nbits w ≠ some i

/-- A command other than a collision. -/
theorem of_no_collision (i : Instr) (hw : i.wellFormed = true) (hc : ∀ bit, i ≠ .collision bit) : Statement i :=
  ⟨⟨fun _ bit h => absurd h (hc bit), fun _ => hw⟩, fun _ _ h => nomatch h⟩

theorem powerReset : Statement .powerReset :=
  of_no_collision _ rfl (fun _ h => nomatch h)

theorem pinReset : Statement .pinReset :=
  of_no_collision _ rfl (fun _ h => nomatch h)

theorem resetEnd (guardOpen : Bool) : Statement (.resetEnd guardOpen) :=
  of_no_collision _ rfl (fun _ h => nomatch h)

theorem loadComplete : Statement .loadComplete :=
  of_no_collision _ rfl (fun _ h => nomatch h)

theorem pitchPulse (dt : Nat) (pins : Levels) : Statement (.pitchPulse dt pins) :=
  of_no_collision _ rfl (fun _ h => nomatch h)

theorem zeroPulse (dt : Nat) (pins : Levels) : Statement (.zeroPulse dt pins) :=
  of_no_collision _ rfl (fun _ h => nomatch h)

theorem eSaturation : Statement .eSaturation :=
  of_no_collision _ rfl (fun _ h => nomatch h)

theorem stall : Statement .stall :=
  of_no_collision _ rfl (fun _ h => nomatch h)

theorem thresholdReached (k : Fin 4) (pins : Levels) : Statement (.thresholdReached k pins) :=
  of_no_collision _ rfl (fun _ h => nomatch h)

theorem markEdge (dt : Nat) : Statement (.markEdge dt) :=
  of_no_collision _ rfl (fun _ h => nomatch h)

theorem noMark (dt : Nat) (pins : Levels) : Statement (.noMark dt pins) :=
  of_no_collision _ rfl (fun _ h => nomatch h)

theorem listeningComplete (dt : Nat) (pins : Levels) : Statement (.listeningComplete dt pins) :=
  of_no_collision _ rfl (fun _ h => nomatch h)

theorem reAnnounceHoldOffEnd (dt : Nat) (pins : Levels) : Statement (.reAnnounceHoldOffEnd dt pins) :=
  of_no_collision _ rfl (fun _ h => nomatch h)

theorem position : Statement .position :=
  of_no_collision _ rfl (fun _ h => nomatch h)

theorem jarIn : Statement .jarIn :=
  of_no_collision _ rfl (fun _ h => nomatch h)

theorem drawOpen : Statement .drawOpen :=
  of_no_collision _ rfl (fun _ h => nomatch h)

theorem drawClose : Statement .drawClose :=
  of_no_collision _ rfl (fun _ h => nomatch h)

theorem halt : Statement .halt :=
  of_no_collision _ rfl (fun _ h => nomatch h)

theorem resume : Statement .resume :=
  of_no_collision _ rfl (fun _ h => nomatch h)

theorem guardOpens : Statement .guardOpens :=
  of_no_collision _ rfl (fun _ h => nomatch h)

theorem guardCloses : Statement .guardCloses :=
  of_no_collision _ rfl (fun _ h => nomatch h)

theorem framingError (b : Byte) (lead : Bool) : Statement (.framingError b lead) :=
  of_no_collision _ rfl (fun _ h => nomatch h)

theorem truncatedError (b : Byte) : Statement (.truncatedError b) :=
  of_no_collision _ rfl (fun _ h => nomatch h)

theorem lengthError (b : Byte) : Statement (.lengthError b) :=
  of_no_collision _ rfl (fun _ h => nomatch h)

theorem frameComplete (b : Byte) : Statement (.frameComplete b) :=
  of_no_collision _ rfl (fun _ h => nomatch h)

theorem transmissionStart : Statement .transmissionStart :=
  of_no_collision _ rfl (fun _ h => nomatch h)

theorem transmissionComplete : Statement .transmissionComplete :=
  of_no_collision _ rfl (fun _ h => nomatch h)

theorem collision (bit : Nat) : Statement (.collision bit) := by
  refine ⟨?_, fun _ _ h => nomatch h⟩
  simp [Instr.wellFormed]

theorem doubtEnd (dt : Nat) (pins : Levels) : Statement (.doubtEnd dt pins) :=
  of_no_collision _ rfl (fun _ h => nomatch h)

theorem viewEntryExpiry (dt : Nat) (pins : Levels) : Statement (.viewEntryExpiry dt pins) :=
  of_no_collision _ rfl (fun _ h => nomatch h)

theorem closeCountdownEnd (dt : Nat) (pins : Levels) : Statement (.closeCountdownEnd dt pins) :=
  of_no_collision _ rfl (fun _ h => nomatch h)

theorem flushTick (k : Fin 4) : Statement (.flushTick k) :=
  of_no_collision _ rfl (fun _ h => nomatch h)

theorem seatSample (k : Fin 4) (seated : Bool) : Statement (.seatSample k seated) :=
  of_no_collision _ rfl (fun _ h => nomatch h)

theorem seatWindowEnd (k : Fin 4) : Statement (.seatWindowEnd k) :=
  of_no_collision _ rfl (fun _ h => nomatch h)

theorem torqueStep (k : Fin 4) (counts : BitVec 12) : Statement (.torqueStep k counts) :=
  of_no_collision _ rfl (fun _ h => nomatch h)

theorem threadFindEnd (k : Fin 4) (counts : BitVec 12) : Statement (.threadFindEnd k counts) :=
  of_no_collision _ rfl (fun _ h => nomatch h)

theorem gapEnd (k : Fin 4) (counts : BitVec 12) : Statement (.gapEnd k counts) :=
  of_no_collision _ rfl (fun _ h => nomatch h)

theorem torqueTimeLimit (k : Fin 4) (counts : BitVec 12) : Statement (.torqueTimeLimit k counts) :=
  of_no_collision _ rfl (fun _ h => nomatch h)

theorem overcurrentTrip (k : Fin 4) : Statement (.overcurrentTrip k) :=
  of_no_collision _ rfl (fun _ h => nomatch h)

theorem forcedRunEnd : Statement .forcedRunEnd :=
  of_no_collision _ rfl (fun _ h => nomatch h)

theorem storeWriteCompletion : Statement .storeWriteCompletion :=
  of_no_collision _ rfl (fun _ h => nomatch h)

theorem readState : Statement .readState :=
  of_no_collision _ rfl (fun _ h => nomatch h)

theorem readPocket : Statement .readPocket :=
  of_no_collision _ rfl (fun _ h => nomatch h)

theorem readView : Statement .readView :=
  of_no_collision _ rfl (fun _ h => nomatch h)

theorem readRecord : Statement .readRecord :=
  of_no_collision _ rfl (fun _ h => nomatch h)

theorem writeRecord : Statement .writeRecord :=
  of_no_collision _ rfl (fun _ h => nomatch h)

theorem clearHead : Statement .clearHead :=
  of_no_collision _ rfl (fun _ h => nomatch h)

theorem forceOutput : Statement .forceOutput :=
  of_no_collision _ rfl (fun _ h => nomatch h)

theorem restart : Statement .restart :=
  of_no_collision _ rfl (fun _ h => nomatch h)

theorem unknownRequest : Statement .unknownRequest :=
  of_no_collision _ rfl (fun _ h => nomatch h)

theorem byteTaken (b : Byte) (lead : Bool) (stop : Bool) : Statement (.byteTaken b lead stop) :=
  of_no_collision _ rfl (fun _ h => nomatch h)

theorem pwmPeriodStart : Statement .pwmPeriodStart :=
  of_no_collision _ rfl (fun _ h => nomatch h)

end Sys2Proof.Laws.Shape
end

