-- ==== Sys2Proof/Laws/Store.lean ====
section
/-! SUPPORT. The settings store: what a write does, and that every write keeps the canonical form. -/

namespace Sys2Proof.Machine
open Sys2Proof

/-- Every listed address of a store lies above a bound. -/
def Store.above (a : Nat) : List Host.Cell → Prop
  | [] => True
  | (x, _) :: rest => a < x ∧ Store.above a rest

theorem Store.above_mono {a b : Nat} (h : a < b) : ∀ {m : List Host.Cell}, Store.above b m → Store.above a m
  | [], _ => True.intro
  | (_, _) :: _, hm => ⟨Nat.lt_trans h hm.1, Store.above_mono h hm.2⟩

/-- The canonical form, one cell at a time. -/
theorem Store.wf_cons (a : Nat) (b : Byte) (m : List Host.Cell) :
    Store.wf ((a, b) :: m) = true ↔ b ≠ 0 ∧ Store.above a m ∧ Store.wf m = true := by
  induction m generalizing a b with
  | nil => simp [Store.wf, Store.above]
  | cons c m ih =>
    obtain ⟨x, y⟩ := c
    have hstep : Store.wf ((a, b) :: (x, y) :: m) = true ↔ b ≠ 0 ∧ a < x ∧ Store.wf ((x, y) :: m) = true := by
      rw [Store.wf]
      simp [and_assoc]
    rw [hstep]
    constructor
    · rintro ⟨hb, hx, hw⟩
      exact ⟨hb, ⟨hx, Store.above_mono hx ((ih x y).1 hw).2.1⟩, hw⟩
    · rintro ⟨hb, ⟨hx, _⟩, hw⟩
      exact ⟨hb, hx, hw⟩

theorem Store.read_above {a : Nat} : ∀ {m : List Host.Cell}, Store.above a m → ∀ x, x ≤ a → Store.read m x = 0
  | [], _, _, _ => rfl
  | (y, b) :: m, h, x, hx => by
    have hne : y ≠ x := by have := h.1; omega
    simp [Store.read, hne, Store.read_above h.2 x hx]

theorem Store.write_above {a : Nat} : ∀ {m : List Host.Cell} {x : Nat} {v : Byte}, Store.above a m → a < x →
    Store.above a (Store.write m x v)
  | [], x, v, _, hx => by
    unfold Store.write
    split
    · exact True.intro
    · exact ⟨hx, True.intro⟩
  | (y, b) :: m, x, v, h, hx => by
    unfold Store.write
    split
    · split
      · exact h
      · exact ⟨hx, h⟩
    · split
      · split
        · exact h.2
        · exact ⟨hx, h.2⟩
      · exact ⟨h.1, Store.write_above h.2 hx⟩

/-- A write keeps the canonical form. -/
theorem Store.write_wf : ∀ {m : List Host.Cell} (x : Nat) (v : Byte), Store.wf m = true →
    Store.wf (Store.write m x v) = true
  | [], x, v, _ => by
    unfold Store.write
    split
    · rfl
    · next hv => exact (Store.wf_cons x v []).2 ⟨hv, True.intro, rfl⟩
  | (y, b) :: m, x, v, h => by
    have hc := (Store.wf_cons y b m).1 h
    unfold Store.write
    split
    · next hlt =>
      split
      · exact h
      · next hv => exact (Store.wf_cons x v _).2 ⟨hv, ⟨hlt, Store.above_mono hlt hc.2.1⟩, h⟩
    · split
      · next heq =>
        split
        · exact hc.2.2
        · next hv => exact (Store.wf_cons x v m).2 ⟨hv, by rw [heq]; exact hc.2.1, hc.2.2⟩
      · next hlt hne =>
        have hy : y < x := by omega
        exact (Store.wf_cons y b _).2 ⟨hc.1, Store.write_above hc.2.1 hy, Store.write_wf x v hc.2.2⟩

/-- Reading the byte written gives the byte. -/
theorem Store.read_write_same : ∀ {m : List Host.Cell} (x : Nat) (v : Byte), Store.wf m = true →
    Store.read (Store.write m x v) x = v
  | [], x, v, _ => by
    unfold Store.write
    split
    · next hv => simp [Store.read, hv]
    · simp [Store.read]
  | (y, b) :: m, x, v, h => by
    have hc := (Store.wf_cons y b m).1 h
    unfold Store.write
    split
    · next hlt =>
      split
      · next hv =>
        have hne : y ≠ x := by omega
        simp [Store.read, hne, hv, Store.read_above hc.2.1 x (by omega)]
      · simp [Store.read]
    · split
      · next heq =>
        split
        · next hv => rw [hv]; exact Store.read_above hc.2.1 x (by omega)
        · simp [Store.read]
      · next hlt hne =>
        have hyx : y ≠ x := fun e => hne e.symm
        simp [Store.read, hyx, Store.read_write_same x v hc.2.2]

/-- A write leaves every other address as it was. -/
theorem Store.read_write_other : ∀ {m : List Host.Cell} {x z : Nat} (v : Byte), Store.wf m = true → z ≠ x →
    Store.read (Store.write m x v) z = Store.read m z
  | [], x, z, v, _, hz => by
    unfold Store.write
    split
    · rfl
    · have : x ≠ z := fun e => hz e.symm
      simp [Store.read, this]
  | (y, b) :: m, x, z, v, h, hz => by
    have hc := (Store.wf_cons y b m).1 h
    have hxz : x ≠ z := fun e => hz e.symm
    unfold Store.write
    split
    · split
      · rfl
      · simp [Store.read, hxz]
    · split
      · next heq =>
        have hyz : y ≠ z := by omega
        split
        · simp [Store.read, hyz]
        · simp [Store.read, hyz, hxz]
      · by_cases hyz : y = z
        · simp [Store.read, hyz]
        · simp [Store.read, hyz, Store.read_write_other v hc.2.2 hz]

/-- Writing bytes keeps the canonical form. -/
theorem Store.writeBytes_wf {m : List Host.Cell} (a : Nat) (bs : List Byte) (h : Store.wf m = true) :
    Store.wf (Store.writeBytes m a bs) = true := by
  induction bs generalizing m a with
  | nil => exact h
  | cons b bs ih => exact ih (a + 1) (Store.write_wf a b h)

/-- Writing bytes leaves every address outside them as it was. -/
theorem Store.read_writeBytes_outside {m : List Host.Cell} (a : Nat) (bs : List Byte) (h : Store.wf m = true)
    (z : Nat) (hz : z < a ∨ a + bs.length ≤ z) : Store.read (Store.writeBytes m a bs) z = Store.read m z := by
  induction bs generalizing m a with
  | nil => rfl
  | cons b bs ih =>
    rw [List.length_cons] at hz
    have hza : z ≠ a := by omega
    rw [Store.writeBytes, ih (a + 1) (Store.write_wf a b h) (by omega), Store.read_write_other b h hza]

/-- Reading back the bytes written gives the bytes. -/
theorem Store.span_writeBytes {m : List Host.Cell} (a : Nat) (bs : List Byte) (h : Store.wf m = true) :
    Store.span (Store.writeBytes m a bs) a bs.length = bs := by
  induction bs generalizing m a with
  | nil => rfl
  | cons b bs ih =>
    have hw := Store.write_wf a b h
    rw [List.length_cons, Store.span, Store.writeBytes, ih (a + 1) hw,
      Store.read_writeBytes_outside (a + 1) bs hw a (by omega), Store.read_write_same a b h]

/-- The store after a reset has the canonical form. -/
theorem reset_store_wf : Store.wf State.reset.settings.store = true := rfl

end Sys2Proof.Machine
end

