-- ==== Sys2Proof/Tests/Slice0.lean ====
section
/-! SUPPORT. Tests on the manual's worked examples, and a state that meets the hypotheses of each statement. The turret is
that of the examples: P = 24, H = 3, Sc = 3, Dc = 4, intake close 200, discharge 6 000. -/

namespace Sys2Proof.Tests
set_option Elab.async false
open Sys2Proof Sys2Proof.Machine

/-! ## The examples' settings and states -/

/-- Bytes with the check byte that makes their sum 0 (R173). -/
def checked (l : List Byte) : List Byte := l ++ [checkByte l]

/-- The example profile with a fixed group; the first-pitch stall limit is 300 ms, the dead time 500 ns, and every head's
converter reads τ as counts − 100. -/
def profileOf (fixed : Nat) : List Byte :=
  checked ([byte fixed, 3, 24, 3, 4, 3] ++ le16 200 ++ le16 6000 ++ le16 300 ++ [5]
    ++ (List.replicate 4 (le16 100 ++ le16 1024)).flatten ++ [0, 0])

/-- Recipe 3 of the examples of 5.10, 6.9 and 8.11. -/
def recipe3 : List Byte :=
  checked (le16 400 ++ le16 1500 ++ le16 1900 ++ le16 2200 ++ le16 3400 ++ le16 5100 ++ le16 120 ++ [80, 1] ++ le16 60
    ++ [2, 20, 60, 40, 1, 200] ++ le16 400 ++ le16 10 ++ [5] ++ le16 400 ++ le16 380 ++ le16 480 ++ le16 250 ++ le16 820
    ++ le16 600 ++ le16 80 ++ le16 700 ++ le16 160 ++ le16 750 ++ le16 220 ++ le16 800 ++ le16 290 ++ le16 850
    ++ le16 350 ++ le16 900 ++ le16 400)

/-- The active copies of a station whose recipes are all recipe 3. -/
def active (fixed : Nat) : Settings :=
  { profile := profileOf fixed, good := true, recipes := List.replicate 8 recipe3, usable := List.replicate 8 true
    load := none }

/-- The station of group `g` in a mode, at count `c` and elapsed time `e` with L = 10 000, not in doubt. -/
def station (m : Mode) (g c e : Nat) : State :=
  { State.reset with
    tracker := { c := c, valid := true, l := 10000, measured := true, stage := 2, e := e, motion := .turning, begun := true }
    unit := { mode := m, g := some g, p0 := some (3 * g), node := g }
    view := ⟨[], false, 24⟩
    settings := active 255 }

/-- The station of group 2 in RUN with C = 7 and φ = 100, as in 4.2. -/
def run2 : State := station .run 2 7 3920

/-- A station in LEARN that has taken no pulse, as in 1.2. -/
def learner (fixed e : Nat) : State :=
  { State.reset with
    tracker := { e := e, begun := true }, unit := { mode := .learn }, settings := active fixed }

/-- The state with every pocket past its intake close. -/
def past (s : State) : State := { s with tracks := Four.all { marks := { intakeClose := true } } }

/-- The state that a command gives. -/
def after (c : Instr) (s : State) : State :=
  match exec c s with
  | .next t => t
  | .fault _ => s
  | .refused _ => s

/-- The state with one frame waiting to be delivered. -/
def heard (f : Frame) (s : State) : State := s.withFrames [f]

/-- An ask to the station's node. -/
def ask (code : Byte) (args : List Byte) : Frame := ⟨12, .ask, [2, code] ++ args⟩

/-- A normal frame at the head of the queue, in transmission. -/
def sending (x : TxFrame) (s : State) : State :=
  { s with transmit := { s.transmit with normal := [x], onLine := .normal } }

/-- Head 1 in a state, its jar bound with recipe 3 and a record. -/
def closing (p : Phase) (r : Record) (s : State) : State :=
  modSlot 1 (fun _ => ⟨.bound, some 7, r⟩) (modEngine 1 (fun _ => { phase := p, recipe := some 3 }) s)

/-- Head 1 in TORQUE with its channel in a step of the phase. -/
def driving (x : Channel) : State := modChannel 1 (fun _ => x) (closing .torque {} run2)

/-- The marks of a pass whose first `n` thresholds are reached: intake close, A_cap, A_fe, A_fl, A_fx, A_dl, A_rel, the
discharge. -/
def marksTo (n : Nat) : Marks :=
  ⟨decide (0 < n), decide (1 < n), decide (2 < n), decide (3 < n), decide (4 < n), decide (5 < n), decide (6 < n),
    decide (7 < n)⟩

/-- The state with the first `n` thresholds of every head's pass reached. -/
def marked (n : Nat) (s : State) : State := { s with tracks := Four.all { marks := marksTo n } }

/-- Head 1 of group 2 in a state, its jar bound with a record, at the count `c`, with `n` thresholds reached. -/
def headAt (c n : Nat) (p : Phase) (r : Record) : State := marked n (closing p r (station .run 2 c 100))

/-- Head 1 with a draw of the class: in no state, PENDING with its frame queued, or open. -/
def drawing (c : DrawClass) (status : DrawStatus) (s : State) : State :=
  { modDraw 1 (fun d => { d with
      status := status, terms := some (if c = .steam then ⟨.steam, 1, 1900, 2200⟩ else ⟨.drive, 1, 3400, 5100⟩)
      openFrame := if status = .pending then .inQueue else .sent }) s with
    transmit := { normal := if status = .pending then [{ frame := ⟨2, .drawOpen, [1, byte c.code, 1, 3]⟩ }] else [] } }

/-- The thresholds of head 1 that φ reaches first on its way. -/
def dueNext (s : State) : List Threshold :=
  let moved := advancePhase 1 (takePins .quiet s)
  moved.due 1 (some (moved.travel 1))

/-! ## Well-formed commands -/

theorem test_collision_bit_825_is_ill_formed : (Instr.collision 825).wellFormed = false := by decide

theorem test_collision_bit_824_is_well_formed : (Instr.collision 824).wellFormed = true := by decide

/-! ## Chapter 1 -/

/-- 1.2, the first pitches: pulse 1 measures nothing. -/
theorem test_first_pulse : (after (.pitchPulse 0 .quiet) (learner 255 48210)).tracker
    = { stage := 1, motion := .turning, begun := true } := by decide +kernel

/-- 1.2: pulse 2 measures L = 9 870. -/
theorem test_second_pulse : (after (.pitchPulse 9870 .quiet) (after (.pitchPulse 0 .quiet) (learner 255 48210))).tracker
    = { l := 9870, measured := true, stage := 2, motion := .turning, begun := true } := by decide +kernel

/-- 1.2: at e = 3 725 of L = 10 000, φ is 95. -/
theorem test_phase_95 : (station .run 2 7 3725).tracker.phi = 95 := by decide

/-- 1.2: a ZERO at φ = 31 aligns C to 0. -/
theorem test_zero_aligns : (after (.zeroPulse 1200 .quiet)
    { learner 255 0 with tracker := { l := 9870, measured := true, stage := 2, motion := .turning, begun := true, c := 5 } }).tracker.c
    = 0 := by decide +kernel

/-- 1.5, a backward slip: head 1 of group 0 is held back, head 0 is not. -/
theorem test_backward_slip : (after (.zeroPulse 0 .quiet) (station .run 0 1 2345)).tracks
    = { Four.all {} with h1 := { heldBack := true } } := by decide +kernel

/-- 1.5, a forward slip: the travel of head 0 of group 7 rises from 296 to 808. -/
theorem test_forward_slip_travel :
    (station .run 7 22 1563).travel 0 = 296 ∧ (station .run 7 0 1563).travel 0 = 808 := by decide +kernel

/-- R2: e holds at 262 143. -/
theorem test_saturation : (after .eSaturation (station .run 2 7 0)).tracker.e = 262143 := by decide +kernel

/-- 1.2: with L unmeasured the stall limit is 30 000 steps of the 300 ms. -/
theorem test_stall_before_measure :
    (after .stall (after (.pitchPulse 0 .quiet) (learner 255 48210))).tracker.motion = .stalled
    ∧ (after .stall (after (.pitchPulse 0 .quiet) (learner 255 48210))).tracker.e = 30000 := by decide +kernel

/-! ## Chapter 2 -/

/-- R37: a POWER reset records POWER with NONE. -/
theorem test_power_reset : (after .powerReset run2).unit.causeKind = .power
    ∧ (after .powerReset run2).inReset = some .power := by decide +kernel

/-- 2.10 step 8: the PIN reset of a station in FAULT(CONFLICT) records PIN with CONFLICT. -/
theorem test_pin_reset : (after .pinReset { run2 with unit := { run2.unit with mode := .fault, fault := .conflict } }).unit
    = { causeKind := .pin, causeFault := .conflict } := by decide +kernel

/-- R30: GUARD found open at the end of a reset makes the held mark TRIP. -/
theorem test_reset_end : (after (.resetEnd true) (after .pinReset run2)).unit.held = .trip := by decide +kernel

/-- R19: an erased store gives FAULT(SETTINGS). -/
theorem test_load_of_an_erased_store : (after .loadComplete State.reset).unit.fault = .settings := by decide +kernel

/-- 2.10 step 2: a good stored profile gives LEARN. -/
theorem test_load_of_a_good_store : (after .loadComplete
    { State.reset with settings := { store := Store.writeBytes [] 0 (profileOf 255) } }).unit.mode = .learn := by
  decide +kernel

/-- 2.10 step 4: MARK at C = 11 and φ = 200 gives p0 = 12 and g = 4. -/
theorem test_mark_edge : (after (.markEdge 0) { learner 255 0 with tracker := (station .run 2 11 7820).tracker }).place
    = (some 4, some 12, 4) := by decide +kernel

/-- 2.10 step 4: POSITION is queued with H 3, P 24, Sc 3, Dc 4 and the mark 0FFH. -/
theorem test_announcement : ((after (.markEdge 0)
    { learner 255 0 with tracker := (station .run 2 11 7820).tracker }).transmit.normal.map TxFrame.frame)
    = [⟨4, .position, [3, 24, 3, 4, 255]⟩] := by decide +kernel

/-- 2.10 step 5: the sent POSITION begins the listening. -/
theorem test_position_sent : (after .transmissionComplete (sending { frame := ⟨4, .position, [3, 24, 3, 4, 255]⟩ }
    { station .announce 4 11 7820 with announce := { stage := .queued } })).announce.stage = .listening := by
  decide +kernel

/-- 2.10 step 6: a POSITION from the own group gives FAULT(CONFLICT) and a HALT STOP with cause 04H. -/
theorem test_conflict : (after .position (heard ⟨4, .position, [3, 24, 3, 4, 255]⟩ (station .announce 4 11 0))).transmit.slot
    = some ⟨4, .halt, [1, 4]⟩ := by decide +kernel

/-- 2.10 step 5: a running station re-announces against a newcomer on its group. -/
theorem test_reannounce : (after .position (heard ⟨4, .position, [3, 24, 3, 4, 255]⟩ (station .run 4 11 0))).announce.reQueued
    = true := by decide +kernel

/-- 2.10 step 14: the 24th pulse ends the listening in RUN. -/
def listener : State :=
  { past (station .announce 5 14 6000) with
    unit := { (station .announce 5 14 6000).unit with listen := 23 }, announce := { stage := .listening } }

theorem test_listening_complete : (after (.listeningComplete 0 .quiet) listener).unit.mode = .run := by decide +kernel

/-- R23: pulse 2P of the learn count gives FAULT(NO_MARK). -/
def unmarked : State :=
  { learner 255 5000 with
    tracker := { (learner 255 5000).tracker with valid := true }, unit := { mode := .learn, learn := 47 } }

theorem test_no_mark : (after (.noMark 0 .quiet) unmarked).unit.fault = .noMark := by decide +kernel

theorem test_hold_off_end : (after (.reAnnounceHoldOffEnd 6000 .quiet)
    { past (station .run 2 1 0) with unit := { run2.unit with holdOff := 1 } }).unit.holdOff = 0 := by
  decide +kernel

/-- R31: a HALT TRIP takes RUN to SAFE. -/
theorem test_halt_trip : (after .halt (heard ⟨0, .halt, [2, 16]⟩ run2)).unit.mode = .safe := by decide +kernel

/-- 10.9 step 9: the RESUME leaves OVERCURRENT alone in channel 1. -/
theorem test_resume : ((after .resume (heard ⟨12, .resume, []⟩ (modChannel 1
    (fun x => { x with state := .tripped, causes := ⟨true, true, true⟩ }) (station .safe 2 7 0)))).channels.get 1).causes
    = ⟨true, false, false⟩ := by decide +kernel

/-- 3.4 step 1: GUARD opens, SAFE, HALT TRIP with cause GUARD in the slot. -/
theorem test_guard_opens : (after .guardOpens run2).unit.mode = .safe
    ∧ (after .guardOpens run2).transmit.slot = some ⟨2, .halt, [2, 16]⟩ := by decide +kernel

theorem test_guard_closes : (after .guardCloses (after .guardOpens run2)).unit.mode = .safe := by decide +kernel

/-! ## Chapter 3 -/

/-- 3.4: the lead byte of group 2's HALT is 25H; the frame's bytes sum to 0. -/
theorem test_halt_bytes : (Frame.bytes ⟨2, .halt, [2, 16]⟩) = [0x25, 2, 2, 16, 0xC7] := by decide

/-- R53: a byte with its lead bit begins a frame. -/
theorem test_byte_taken : (after (.byteTaken 0x05 true true) run2).receive.receiver = .length 0x05 := by decide +kernel

/-- A receiver in a state. -/
def receiving (r : Receiver) : State := { run2 with receive := { run2.receive with receiver := r } }

/-- 3.4 step 4: the check byte of group 0's HALT completes it, and the equal HALT of the slot is discarded (R43). -/
theorem test_frame_complete :
    (after (.frameComplete 0xE7) { receiving (.check 0x05 [2, 16]) with
      transmit := { slot := some ⟨2, .halt, [2, 16]⟩ } }).receive.queue = [⟨0, .halt, [2, 16]⟩]
    ∧ (after (.frameComplete 0xE7) { receiving (.check 0x05 [2, 16]) with
      transmit := { slot := some ⟨2, .halt, [2, 16]⟩ } }).transmit.slot = none := by decide +kernel

theorem test_framing_error : (after (.framingError 0 true) (receiving (.length 0x05))).receive.errors.framing = 1 := by
  decide +kernel

theorem test_truncated_error : (after (.truncatedError 0x15) (receiving (.length 0x05))).receive.receiver = .length 0x15 := by
  decide +kernel

/-- R57: 73 is a LENGTH error, 72 is none. -/
theorem test_length_error : (after (.lengthError 73) (receiving (.length 0x05))).receive.errors.length = 1
    ∧ after (.lengthError 72) (receiving (.length 0x05)) = receiving (.length 0x05) := by decide +kernel

/-- 7.10 step 3: group 2 begins its DRAW-OPEN after 18 bit-times of idle. -/
theorem test_transmission_start : (after .transmissionStart { run2 with
    transmit := { normal := [{ frame := ⟨2, .drawOpen, [1, 0, 1, 4]⟩ }] } }).transmit.onLine = .normal
    ∧ Frame.gap ⟨2, .drawOpen, [1, 0, 1, 4]⟩ = 18 ∧ Frame.bitTimes ⟨2, .drawOpen, [1, 0, 1, 4]⟩ = 77 := by
  decide +kernel

/-- 3.4 step 3: group 1 collides at data bit 4 of its lead byte, and its HALT returns to the slot. -/
theorem test_halt_contest : (after (.collision 5) { station .safe 1 7 0 with
    transmit := { onLine := .halt ⟨1, .halt, [2, 16]⟩ } }).transmit.slot = some ⟨1, .halt, [2, 16]⟩ := by decide +kernel

/-- R26: a collided POSITION carries the own group as its conflict mark. -/
theorem test_position_collision : (after (.collision 9) (sending { frame := ⟨4, .position, [3, 24, 3, 4, 255]⟩ }
    { station .announce 4 11 0 with announce := { stage := .queued } })).transmit.normal.map TxFrame.frame
    = [⟨4, .position, [3, 24, 3, 4, 4]⟩] := by decide +kernel

/-! ## Chapters 4 and 5 -/

/-- Head 1's slot OPEN, its jar gauged with recipe 3, a headspace of 96 and 82.4 degrees (4.8 step 3). -/
def gauged : State :=
  modSlot 1 (fun _ => ⟨.opened, some 7, { gauged := true, recipe := .number 3, condition := some .ok, fill := some 824
                                          headspace := some 96, replaced := true }⟩) run2

/-- 4.8 steps 2 and 3: the second JAR-IN makes the record REPLACED. -/
theorem test_jar_in : after .jarIn (heard ⟨13, .jarIn, [7, 3, 0, 3, 0x38, 3, 96]⟩ (after .jarIn
    (heard ⟨13, .jarIn, [7, 3, 0, 3, 0x3E, 3, 92]⟩ (modSlot 1 (fun _ => ⟨.opened, some 7, {}⟩) run2)))) = gauged := by
  decide +kernel

/-- 4.8 step 4: intake close binds the jar with F_req 2 304. -/
theorem test_intake_close :
    ((after (.thresholdReached 1 .quiet) gauged).slots.get 1).record.fReq = 2304
    ∧ ((after (.thresholdReached 1 .quiet) gauged).engines.get 1).phase = .bound := by decide +kernel

/-- The record of 8.11 at the release, but for the torque. -/
def flushed : Record :=
  { gauged := true, recipe := .number 3, condition := some .ok, fill := some 824, headspace := some 96, lateData := true
    replaced := true, cap := .yes, fReq := 2304, fEff := 2240, flushEnd := .limit, shared := true, seat := .seated }

/-- 8.11: V = 309 and PASS; its frame carries the flags SHARED, FLUSH_LIMIT, LATE_DATA and REPLACED. -/
theorem test_estimate : (judged recipe3 { flushed with tauFinal := 405, tauPeak := 431 }).v = 309
    ∧ (judged recipe3 { flushed with tauFinal := 405, tauPeak := 431 }).verdict = some .pass
    ∧ flushed.flags = 0xC3 := by decide +kernel

/-- 8.12 F: aborted at F_eff 1 920, V = 264, HALTED and TORQUE_LOW, REJECT. -/
theorem test_estimate_aborted :
    (judged recipe3 { flushed with fEff := 1920, flushEnd := .aborted, reasons := { halted := true } }).v = 264
    ∧ (judged recipe3 { flushed with fEff := 1920, flushEnd := .aborted, reasons := { halted := true } }).reasons
      = { halted := true, torqueLow := true } := by decide +kernel

/-- Head 1 flushing with its draw open, and peers' draws of `u` units. -/
def flushing (u : Nat) (r : Record) : State :=
  modDraw 1 (fun d => { d with status := .opened, terms := some ⟨.steam, 1, 1900, 2200⟩, openFrame := .sent })
    (modEngine 1 (fun x => { x with steam := true })
      (closing .flush r { run2 with view := ⟨[⟨3, 0, .steam, u, 9⟩], false, 24⟩ }))

/-- 5.10 steps 6 and 8: a tick gains 16 at U_steam 3, and 12 with the shared mark at U_steam 4. -/
theorem test_flush_tick :
    ((after (.flushTick 1) (flushing 2 { flushed with fEff := 0, shared := false })).slots.get 1).record.fEff = 16
    ∧ ((after (.flushTick 1) (flushing 3 { flushed with fEff := 960, shared := false })).slots.get 1).record
      = { flushed with fEff := 972 } := by decide +kernel

/-- 5.10 steps 12 and 13: a seated cap asks for the drive and is granted. -/
theorem test_seat_sample : ((after (.seatSample 1 true) (closing .seat flushed run2)).engines.get 1).phase
    = .driveAnnounced := by decide +kernel

theorem test_seat_window_end : ((after (.seatWindowEnd 1) (modEngine 1 (fun x => { x with samples := 59 })
    (closing .seat flushed run2))).engines.get 1).phase = .dwell := by decide +kernel

/-! ## Chapter 6 -/

/-- 6.9 step 22: τ = 12 raises the duty from 40 to 41. -/
theorem test_torque_step : ((after (.torqueStep 1 112) (driving { state := .forward, step := .ramp, steps := 21, duty := 40
    })).channels.get 1).duty = 41 := by decide +kernel

/-- Head 1 after step 259 of 6.9. -/
def settling : State :=
  driving
    { state := .forward, step := .settle, steps := 259, duty := 200, settle := 4, last := some 409, peak := some 431
      least := some 405 }

/-- 6.9 step 260: the fifth sample of the settled run ends the phase with DONE, 405 and 431. -/
theorem test_torque_done : ((after (.torqueStep 1 507) settling).slots.get 1).record
    = { tauFinal := 405, tauPeak := 431, torqueEnd := .done } := by decide +kernel

/-- 6.9 steps 20 and 21: THREAD-FIND ends in GAP, and GAP in FORWARD at duty 40. -/
theorem test_thread_find_and_gap :
    ((after (.threadFindEnd 1 0) (driving { state := .reverse, step := .threadFind, steps := 19, duty := 60 })).channels.get 1).state
      = .gap
    ∧ ((after (.gapEnd 1 0) (driving { state := .gap, step := .gap, steps := 20 })).channels.get 1).duty = 40 := by
  decide +kernel

/-- 6.9: the time limit is 400 ms. -/
theorem test_time_limit : ((after (.torqueTimeLimit 1 200) (driving { state := .forward, step := .ramp, steps := 399
    })).slots.get 1).record.torqueEnd = .time := by decide +kernel

/-- 6.10, jar 5: the third trip of a run sets the out mark. -/
theorem test_third_trip :
    ((after (.overcurrentTrip 1) (driving { state := .forward, step := .ramp, count := 2 })).channels.get 1).count = 3
    ∧ ((after (.overcurrentTrip 1) (driving { state := .forward, step := .ramp, count := 2 })).engines.get 1).out = true := by
  decide +kernel

/-- 6.1: at duty 64 and 500 ns AHk is on from 500 to 12 500 ns, and ALk from 13 000 ns. -/
theorem test_pwm_period :
    let x : Channel := { state := .forward, bridge := .forward, force := 64 }
    (x.bridgeAt 500 (16 * 499)).ah = false ∧ (x.bridgeAt 500 (16 * 500)).ah = true
    ∧ (x.bridgeAt 500 (16 * 12500)).ah = false ∧ (x.bridgeAt 500 (16 * 12999)).al = false
    ∧ (x.bridgeAt 500 (16 * 13000)).al = true := by decide +kernel

/-- 6.1: a duty of 128 written at duty 64 runs from the next period. -/
theorem test_pwm_period_start : ((after .pwmPeriodStart
    (driving { state := .forward, step := .ramp, duty := 128, force := 64 })).channels.get 1).force = 128 := by
  decide +kernel

/-! ## Chapter 7 -/

/-- Group 4 of 7.10 at step 4: head 0 PENDING with 2 units, one unit open elsewhere. -/
def contest : State :=
  modDraw 0 (fun d => { d with status := .pending, terms := some ⟨.steam, 2, 1900, 2200⟩, openFrame := .inQueue })
    (modEngine 0 (fun _ => { phase := .steamAnnounced, recipe := some 3 }) { station .run 4 17 0 with
      view := ⟨[⟨3, 0, .steam, 1, 3⟩], false, 24⟩
      transmit := { normal := [{ frame := ⟨4, .drawOpen, [0, 0, 2, 3]⟩ }] } })

/-- 7.10 step 4: group 2's DRAW-OPEN is recorded, and head 0's grant withdrawn. -/
theorem test_draw_open :
    let t := after .drawOpen (heard ⟨2, .drawOpen, [1, 0, 1, 4]⟩ contest)
    t.view.entries = [⟨3, 0, .steam, 1, 3⟩, ⟨2, 1, .steam, 1, 4⟩] ∧ (t.draws.get 0).status = .none
    ∧ (t.engines.get 0).phase = .steamWait ∧ t.transmit.normal = [] := by decide +kernel

/-- 7.10 step 9: group 3's DRAW-CLOSE removes its entry. -/
theorem test_draw_close : (after .drawClose (heard ⟨3, .drawClose, [0, 0]⟩ run2)).view = run2.view
    ∧ (after .drawClose (heard ⟨3, .drawClose, [0, 0]⟩ { run2 with
      view := ⟨[⟨3, 0, .steam, 1, 3⟩, ⟨4, 0, .steam, 2, 3⟩], false, 24⟩ })).view.entries = [⟨4, 0, .steam, 2, 3⟩] := by
  decide +kernel

/-- A station in RUN in doubt, its clean counter at 23. -/
def doubting : State := { past (station .run 2 1 6000) with view := ⟨[⟨3, 0, .steam, 1, 3⟩], true, 23⟩ }

theorem test_doubt_end : (after (.doubtEnd 0 .quiet) doubting).view = ⟨[⟨3, 0, .steam, 1, 2⟩], false, 24⟩ := by
  decide +kernel

/-- A station in RUN with an entry in its last pitch. -/
def aging : State := { past (station .run 2 1 6000) with view := ⟨[⟨3, 0, .steam, 1, 1⟩, ⟨4, 0, .steam, 1, 3⟩], false, 24⟩ }

theorem test_view_entry_expiry : (after (.viewEntryExpiry 0 .quiet) aging).view = ⟨[⟨4, 0, .steam, 1, 2⟩], true, 0⟩ := by
  decide +kernel

/-- Head 1 with a DRAW-CLOSE still pending in its last pitch. -/
def countingDown : State :=
  modDraw 1 (fun d => { d with countdown := ⟨1, 0⟩, closing := ⟨true, false⟩ }) (past (station .stand 2 1 6000))

theorem test_close_countdown_end : (after (.closeCountdownEnd 0 .quiet) countingDown).draws = Four.all {} := by
  decide +kernel

/-! ## Chapters 9 and 10 -/

/-- 9.6 step 1: a WRITE-RECORD in RUN is answered REFUSED_MODE. -/
theorem test_write_refused : (after .writeRecord (heard (ask 5 (4 :: recipe3)) run2)).transmit.normal.map TxFrame.frame
    = [⟨2, .answer, [5, 2]⟩] := by decide +kernel

/-- 9.6 step 4: in SAFE the write begins. -/
theorem test_write_begins : (after .writeRecord (heard (ask 5 (4 :: recipe3)) (station .safe 2 7 0))).service.write
    = some ⟨4, recipe3, 600⟩ := by decide +kernel

/-- R179: the completed write holds the record. -/
theorem test_write_completes : storedRecord (after .storeWriteCompletion
    (after .writeRecord (heard (ask 5 (0 :: profileOf 2)) (station .safe 2 7 0)))).settings.store 0 = profileOf 2 := by
  decide +kernel

/-- 9.6 step 5: READ-STATE during the write is answered BUSY. -/
theorem test_busy : (after .readState (heard (ask 1 []) { run2 with
    service := { request := .write, write := some ⟨1, [], 400⟩ } })).transmit.normal.map TxFrame.frame
    = [⟨2, .answer, [1, 1]⟩] := by decide +kernel

/-- Head 1 of 10.9: OUT after three trips, in SAFE. -/
def tripped : State :=
  modEngine 1 (fun x => { x with phase := .out })
    (modChannel 1 (fun x => { x with state := .tripped, causes := ⟨true, true, true⟩, count := 3 }) (station .safe 2 7 0))

/-- 10.9 step 1: bytes 44 .. 47 of the answer are head 1's: OUT, TRIPPED, causes 07H, count 3. -/
theorem test_read_state : ((stateBytes tripped).drop 44).take 4 = [10, 4, 7, 3] := by decide +kernel

theorem test_read_pocket : (after .readPocket (heard (ask 2 [3]) tripped)).transmit.normal.map TxFrame.frame
    = [⟨2, .answer, [2, 4]⟩] := by decide +kernel

theorem test_read_view : (after .readView (heard (ask 3 [1]) aging)).transmit.normal.map TxFrame.frame
    = [⟨2, .answer, [3, 0, 2, 1, 1, 4, 0, 0, 1, 3]⟩] := by decide +kernel

theorem test_read_record : (after .readRecord (heard (ask 4 [1, 0]) tripped)).transmit.normal.map TxFrame.frame
    = [⟨2, .answer, [4, 0, 1, 0, 1] ++ profileOf 255⟩] := by decide +kernel

/-- 10.9 step 3: CLEAR-HEAD 1 gives IDLE and count 0. -/
theorem test_clear_head : (after .clearHead (heard (ask 6 [1]) tripped)).transmit.normal.map TxFrame.frame
    = [⟨2, .answer, [6, 0, 1, 0, 0]⟩] := by decide +kernel

/-- 10.9 steps 2 and 5: DRIVE is refused while OVERCURRENT is held, PRESS for 500 ms runs. -/
theorem test_force_output :
    (after .forceOutput (heard (ask 7 [1, 2, 30, 200, 0]) tripped)).transmit.normal.map TxFrame.frame
      = [⟨2, .answer, [7, 2]⟩]
    ∧ (after .forceOutput (heard (ask 7 [1, 1, 0, 0xF4, 1]) tripped)).service.forced = some ⟨1, .press, 0, 50000⟩ := by
  decide +kernel

/-- 10.9 step 8: the run's end switches PRESS1 off. -/
theorem test_forced_run_end : ((after .forcedRunEnd
    (after .forceOutput (heard (ask 7 [1, 1, 0, 0xF4, 1]) tripped))).engines.get 1).press = false := by decide +kernel

theorem test_restart : (after .restart (heard (ask 8 []) tripped)).service.request = .restart := by decide +kernel

theorem test_unknown_request : (after .unknownRequest (heard (ask 9 []) tripped)).transmit.normal.map TxFrame.frame
    = [⟨2, .answer, [9, 4]⟩] := by decide +kernel

/-! ## Hypotheses that states meet: one witness for each statement, and for each of its clauses -/

/-- The hypotheses of a delivered frame. -/
theorem test_met_delivers (f : Frame) (s : State) (h : s.inReset = none) : (heard f s).delivers f.kind f [] :=
  ⟨h, rfl, rfl⟩

/-- The hypotheses of an ask that is carried out or refused by its request. -/
theorem test_met_asked (code : Byte) (args : List Byte) (m : Mode) :
    (heard (ask code args) (station m 2 7 0)).asked code.toNat args [] :=
  ⟨ask code args, ⟨rfl, rfl, rfl⟩, rfl, rfl, rfl, rfl⟩

theorem test_met_StepTakesTheFrontCommand :
    (State.reset.withPending [.stall, .drawOpen]).pending = .stall :: [.drawOpen] ∧ State.reset.pending = [] := ⟨rfl, rfl⟩

theorem test_met_ResetsReturnEveryBlock : Store.wf (run2.settings.store) = true ∧ run2.inReset = none
    ∧ (after .pinReset run2).inReset.isSome = true := by decide +kernel

theorem test_met_ResetsEndInTheLoad : (after .powerReset run2).inReset.isSome = true := by decide +kernel

theorem test_met_LoadComplete : State.reset.inReset = none ∧ State.reset.settings.load = some 200
    ∧ State.reset.unit.mode = .start := by decide

/-- A station whose OK answer of a RESTART is in transmission. -/
def restarting : State :=
  { sending { frame := ⟨2, .answer, [8, 0]⟩ } run2 with service := { request := .restart } }

theorem test_met_SentRestart : restarting.inReset = none ∧ restarting.transmit.onLine = .normal
    ∧ restarting.transmit.normal = [⟨⟨2, .answer, [8, 0]⟩, 0, 0⟩] ∧ restarting.service.request = .restart := by
  decide +kernel

theorem test_met_PitchPulse : run2.inReset = none ∧ run2.tracker.begun = true := by decide

/-- The counts at an ordinary pulse: learning, listening, and neither. -/
theorem test_met_PitchPulse_counts :
    let learning := { unmarked with unit := { unmarked.unit with learn := 20 } }
    let listening := { listener with unit := { listener.unit with listen := 7 } }
    learning.unit.mode = .learn ∧ learning.tracker.valid = true ∧ learning.profileField Profile.fixedGroup = 255
    ∧ learning.unit.learn + 1 < 2 * learning.pocketCount ∧ learning.tracker.begun = true
    ∧ listening.unit.mode = .announce ∧ listening.announce.stage = .listening
    ∧ listening.unit.listen + 1 < listening.pocketCount ∧ listening.tracker.begun = true
    ∧ run2.unit.mode ≠ .learn ∧ run2.unit.mode ≠ .announce := by decide +kernel

theorem test_met_ViewAges_doubt : doubting.unit.mode.keepsView = true ∧ doubting.tracker.begun = true
    ∧ doubting.view.doubt = true ∧ doubting.pocketCount ≤ doubting.view.clean + 1
    ∧ ∀ e ∈ doubting.view.entries, 1 < e.life := by decide +kernel

/-- An ordinary pulse in doubt, and one out of doubt. -/
theorem test_met_ViewAges_ordinary :
    let s := { doubting with view := { doubting.view with clean := 5 } }
    s.unit.mode.keepsView = true ∧ s.tracker.begun = true ∧ s.view.doubt = true ∧ s.view.clean + 1 < s.pocketCount
    ∧ (∀ e ∈ s.view.entries, 1 < e.life) ∧ run2.view.doubt = false ∧ run2.view.entries = [] := by decide +kernel

theorem test_met_ViewAges_expiry : aging.unit.mode.keepsView = true ∧ aging.tracker.begun = true
    ∧ ∃ e ∈ aging.view.entries, e.life ≤ 1 := by decide +kernel

theorem test_met_CloseCountdown : countingDown.tracker.begun = true ∧ countingDown.unit.mode.running = true
    ∧ (countPitch (takePins .quiet (elapse 0 countingDown))).reportsAtPulse 1 = false
    ∧ (countingDown.draws.get 1).ask = none ∧ (countingDown.draws.get 1).terms = none
    ∧ countingDown.tracker.motion ≠ .stalled ∧ (countingDown.draws.get 1).closing.get .steam = true
    ∧ (countingDown.draws.get 1).countdown.get .steam = 1 := by decide +kernel

/-- In RUN, with head 1 awaiting its drive draw. -/
theorem test_met_CloseCountdown_closure :
    let s := modDraw 1 (fun d => { d with countdown := ⟨1, 0⟩, closing := ⟨true, false⟩, ask := some ⟨.drive, 1, 3400, 5100⟩ })
      (headAt 17 5 .driveWait flushed)
    s.unit.mode.running = true ∧ (s.engines.get 1).inClosure = true
    ∧ (countPitch (takePins .quiet (elapse 6000 s))).reportsAtPulse 1 = false
    ∧ (s.draws.get 1).ask.map Ask.cls ≠ some .steam ∧ (s.draws.get 1).closing.get .steam = true
    ∧ (s.draws.get 1).countdown.get .steam = 1 := by decide +kernel

theorem test_met_Listening : listener.tracker.begun = true ∧ listener.unit.mode = .announce
    ∧ listener.announce.stage = .listening ∧ listener.pocketCount ≤ listener.unit.listen + 1 := by decide +kernel

/-- Group 5's heads hold no closure, and their slots are IDLE: after the pulse to C = 15 the pocket of head 0 lies in the
intake window, and after one to C = 18 beyond the intake close. -/
theorem test_met_Listening_slots :
    let t := after (.listeningComplete 0 .quiet) listener
    (∀ k, listener.hasHead k = true → (listener.slots.get k).state = .idle ∧ (listener.engines.get k).inClosure = false)
    ∧ t.travel 0 < listener.intakeClose ∧ (t.slots.get 0).state = .opened
    ∧ (let u := { listener with tracker := { listener.tracker with c := 17 } }
      let v := after (.listeningComplete 0 .quiet) u
      ¬(u.discharge ≤ v.travel 0 ∨ v.travel 0 < u.intakeClose) ∧ (v.slots.get 0).state = .idle) := by decide +kernel

/-- Group 0 of 1.5 before its backward slip of 1. -/
def slipping : State := station .run 0 1 2345

theorem test_met_BackwardSlip : slipping.tracker.begun = true ∧ slipping.tracker.valid = true
    ∧ slipping.tracker.e ≤ 262143 ∧ minusMod slipping.pocketCount slipping.expectedCount slipping.tracker.c = 23
    ∧ slipping.expectedCount ≠ slipping.tracker.c ∧ slipping.pocketCount / 2 < 23 := by decide +kernel

/-- Group 7 of 1.5 before its forward slip of 2, head 0 in a state, at a count and with marks of its pass. -/
def slippingOn (g c n : Nat) : State := marked n (station .run g c 1563)

theorem test_met_ForwardSlip : let s := slippingOn 7 22 1
    s.tracker.begun = true ∧ s.tracker.valid = true ∧ s.tracker.e ≤ 262143 ∧ s.tracker.c < s.pocketCount
    ∧ minusMod s.pocketCount s.expectedCount s.tracker.c = 2 ∧ s.expectedCount ≠ s.tracker.c ∧ 2 ≤ s.pocketCount / 2
    ∧ s.travelDefined 0 = true ∧ ¬256 * s.pocketCount ≤ s.travel 0 + 256 * 2 ∧ (s.tracks.get 0).heldBack = false
    ∧ ({ s with tracker := { s.tracker with c := s.expectedCount } } : State).due 0 (some 808) = []
    ∧ ({ s with tracks := Four.all {}, tracker := { s.tracker with c := s.expectedCount } } : State).due 0 (some 808)
      = [.intakeClose] := by decide +kernel

/-- Head 0 of group 0 is carried across the infeed, once with nothing due of the pass that ends. -/
theorem test_met_ForwardSlip_crossing : let s := slippingOn 0 23 8
    minusMod s.pocketCount s.expectedCount s.tracker.c = 1 ∧ 256 * s.pocketCount ≤ s.travel 0 + 256 * 1
    ∧ (s.tracks.get 0).heldBack = false ∧ s.expectedCount ≠ s.tracker.c
    ∧ ({ s with tracker := { s.tracker with c := s.expectedCount } } : State).due 0 none = []
    ∧ (({ s with tracks := Four.all ⟨marksTo 1, true⟩ } : State).tracks.get 0).heldBack = true := by decide +kernel

/-- Head 1 of group 1 in DWELL is carried past A_rel. -/
def slippingFree : State :=
  modTrack 1 (fun _ => { marks := marksTo 6 }) (marked 8 (closing .dwell flushed (station .run 1 22 1563)))

theorem test_met_ForwardSlip_release : slippingFree.travelDefined 1 = true ∧ slippingFree.expectedCount = 0
    ∧ minusMod slippingFree.pocketCount slippingFree.expectedCount slippingFree.tracker.c = 2
    ∧ ¬256 * slippingFree.pocketCount ≤ slippingFree.travel 1 + 256 * 2
    ∧ ({ slippingFree with tracker := { slippingFree.tracker with c := 0 } } : State).due 1
      (some (slippingFree.travel 1 + 512)) = [.rel]
    ∧ (slippingFree.slots.get 1).state = .bound ∧ (slippingFree.engines.get 1).phase = .dwell
    ∧ (slippingFree.slots.get 1).record.passed = false := by decide +kernel

/-- R106: head 1's part of that slip rejects the jar it releases, with POSITION. -/
theorem test_forward_slip_release :
    let s := slipForward 2 slippingFree.travels (fun _ => false)
      (slipSlots { slippingFree with tracker := { slippingFree.tracker with c := 0 } }) 1
    (s.slots.get 1).record.verdict = some .reject ∧ (s.slots.get 1).record.reasons.position = true := by decide +kernel

/-- Group 2 one pulse before head 1's pocket, its pass with the first `n` thresholds reached. -/
def entering (n : Nat) : State := marked n (station .run 2 6 6000)

theorem test_met_NewPass : (entering 8).trackLawful = true ∧ (entering 7).trackLawful = true
    ∧ (entering 8).tracker.begun = true ∧ (entering 8).tracker.motion ≠ .stalled
    ∧ (entering 8).travelDefined 1 = true ∧ (entering 8).tracker.valid = true
    ∧ (countPitch (takePins .quiet (elapse 0 (entering 8)))).tracker.c = (entering 8).pocketOf 1
    ∧ (countPitch (takePins .quiet (elapse 0 (entering 8)))).due 1 none = []
    ∧ ({ entering 8 with tracks := Four.all ⟨marksTo 8, true⟩ }.tracks.get 1).heldBack = true := by decide +kernel

theorem test_met_NewPass_discharge : let s := modSlot 1 (fun x => { x with state := .bound }) (entering 7)
    (countPitch (takePins .quiet (elapse 0 s))).due 1 none = [.discharge] ∧ s.unit.mode.running = true
    ∧ 0 < s.intakeClose ∧ 0 < s.discharge ∧ (s.slots.get 1).state = .bound ∧ ((entering 7).slots.get 1).state ≠ .bound
    ∧ (countPitch (takePins .quiet (elapse 0 (entering 7)))).due 1 none = [.discharge] := by decide +kernel

/-- R68: the pulse into a new pass reopens the slot whose discharge the old pass had not reached. -/
theorem test_new_pass : ((after (.pitchPulse 0 .quiet) (entering 7)).slots.get 1).state = .opened
    ∧ ((after (.pitchPulse 0 .quiet) (entering 7)).tracks.get 1).marks.discharge = false := by decide +kernel

/-- R15, R141: the pulse that counts C to head 1's pocket ends its hold before any report, so that its distance to A_dl is
3 400 again and not a revolution more. -/
theorem test_hold_ends_with_the_count :
    let s := countPitch { entering 8 with tracks := Four.all ⟨marksTo 8, true⟩ }
    s.endsHoldAtPulse 1 = true ∧ s.endsHoldAtPulse 0 = false ∧ s.distance 1 3400 = 3400 + 6144
    ∧ (endHolds s.endsHoldAtPulse s).distance 1 3400 = 3400
    ∧ ((endHolds s.endsHoldAtPulse s).tracks.get 0).heldBack = true := by decide +kernel

theorem test_met_Saturation : run2.inReset = none ∧ run2.tracker.e ≤ 262143 := by decide

theorem test_met_Stall : run2.tracker.begun = true ∧ run2.tracker.motion = .turning := by decide

/-- R103: head 1 flushes, with nothing to report on the way to the stall limit. -/
theorem test_met_Stall_flush : let s := drawing .steam .opened (headAt 14 4 .flush flushed)
    (∀ j, (s.draws.get j).lawful = true) ∧ s.hasHead 1 = true ∧ (s.engines.get 1).phase = .flush
    ∧ (s.slots.get 1).state = .bound
    ∧ (s.draws.get 1).isOpen = true ∧ (s.draws.get 1).terms = some ⟨.steam, 1, 1900, 2200⟩
    ∧ (elapse (s.stallLimit - s.tracker.e) s).hasDue 1 = false ∧ s.tracker.motion = .turning := by
  decide +kernel

theorem test_met_RisingPhase : gauged.tracker.begun = true ∧ gauged.tracker.motion ≠ .stalled
    ∧ gauged.travelDefined 1 = true ∧ (gauged.tracks.get 1).heldBack = false
    ∧ (advancePhase 1 (takePins .quiet gauged)).due 1 (some ((advancePhase 1 (takePins .quiet gauged)).travel 1))
      = [.intakeClose] ∧ Threshold.intakeClose.isProfile = true := by decide +kernel

theorem test_met_RisingPhase_none : (past run2).travelDefined 1 = true ∧ ((past run2).tracks.get 1).heldBack = false
    ∧ (advancePhase 1 (takePins .quiet (past run2))).due 1
      (some ((advancePhase 1 (takePins .quiet (past run2))).travel 1)) = [] := by decide +kernel

theorem test_met_RisingPhase_discharge : let s := marked 7 (station .run 2 6 100)
    dueNext s = [.discharge] ∧ s.travelDefined 1 = true ∧ (s.tracks.get 1).heldBack = false
    ∧ s.tracker.motion ≠ .stalled := by decide +kernel

theorem test_met_RecipeThresholds_cap : let s := headAt 8 1 .bound {}
    dueNext s = [.cap] ∧ s.travelDefined 1 = true ∧ (s.slots.get 1).state = .bound ∧ s.reached 1 .fe = false
    ∧ s.reached 1 .rel = false ∧ (advancePhase 1 (takePins ⟨Four.all true, Four.all false⟩ s)).due 1
      (some ((advancePhase 1 (takePins ⟨Four.all true, Four.all false⟩ s)).travel 1)) = [.cap] := by decide +kernel

theorem test_met_RecipeThresholds_fe : let s := headAt 12 2 .steamWait {}
    dueNext s = [.fe] ∧ (s.engines.get 1).phase = .steamWait ∧ (s.draws.get 1).status = .none := by decide +kernel

theorem test_met_RecipeThresholds_fx : let s := drawing .steam .opened (headAt 15 4 .flush flushed)
    dueNext s = [.fx] ∧ (s.draws.get 1).isOpen = true ∧ (s.draws.get 1).terms ≠ none := by decide +kernel

theorem test_met_RecipeThresholds_rel : let s := drawing .drive .opened (headAt 2 6 .torque flushed)
    dueNext s = [.rel] ∧ (s.engines.get 1).phase = .torque ∧ (s.slots.get 1).record.passed = false := by decide +kernel

/-- 5.10 steps 3 and 4: A_cap samples the cap, and A_fe asks and is granted. -/
theorem test_cap_and_ask :
    ((after (.thresholdReached 1 ⟨Four.all true, Four.all false⟩) (headAt 8 1 .bound {})).engines.get 1).phase = .steamWait
    ∧ ((after (.thresholdReached 1 .quiet) (headAt 12 2 .steamWait {})).engines.get 1).phase = .steamAnnounced := by
  decide +kernel

/-- The latest starts: A_fl of an announced flush, and A_fl and A_dl of heads that still wait. -/
theorem test_met_LatestStarts :
    dueNext (drawing .steam .pending (headAt 14 3 .steamAnnounced flushed)) = [.fl]
    ∧ dueNext (headAt 14 3 .steamWait flushed) = [.fl] ∧ dueNext (headAt 20 5 .driveWait flushed) = [.dl]
    ∧ dueNext (drawing .drive .pending (headAt 20 5 .driveAnnounced flushed)) = [.dl]
    ∧ ((headAt 20 5 .driveWait flushed).channels.get 1).state = .off ∧ flushed.fReq ≠ 0
    ∧ ((headAt 14 3 .steamWait flushed).draws.get 1).status = .none
    ∧ dueNext (headAt 14 3 .steamWait { flushed with fReq := 0 }) = [.fl] := by decide +kernel

/-- R150: at A_fl a head that waits opens its draw forced. -/
theorem test_forced_open :
    ((after (.thresholdReached 1 .quiet) (headAt 14 3 .steamWait flushed)).draws.get 1).status = .openForced
    ∧ ((after (.thresholdReached 1 .quiet) (headAt 14 3 .steamWait flushed)).slots.get 1).record.forcedSteam = true := by
  decide +kernel

theorem test_met_Learning_fixed : (learner 2 5000).unit.mode = .learn ∧ (learner 2 5000).tracker.begun = true
    ∧ (learner 2 5000).tracker.valid = false ∧ (learner 2 5000).profileField Profile.fixedGroup = 2 := by decide +kernel

/-- In LEARN with count valid, at a count and φ = 200. -/
def markable (c : Nat) : State := { learner 255 0 with tracker := (station .run 2 c 7820).tracker }

theorem test_met_Learning_mark : (markable 11).unit.mode = .learn ∧ (markable 11).tracker.valid = true
    ∧ (markable 11).profileField Profile.fixedGroup = 255 ∧ 12 % (markable 11).headCount = 0
    ∧ ((markable 11).tracker.elapse 0).phi = 200 ∧ 13 % (markable 12).headCount ≠ 0 := by decide +kernel

theorem test_met_Learning_noMark : unmarked.unit.mode = .learn ∧ unmarked.tracker.begun = true
    ∧ unmarked.tracker.valid = true ∧ unmarked.profileField Profile.fixedGroup = 255
    ∧ 2 * unmarked.pocketCount ≤ unmarked.unit.learn + 1 := by decide +kernel

/-- A POSITION frame with the turret's values. -/
def position (node mark pockets : Nat) : Frame := ⟨node, .position, [3, byte pockets, 3, 4, byte mark]⟩

theorem test_met_PositionFrames_announce :
    (heard (position 4 255 24) listener).delivers .position (position 4 255 24) [] ∧ listener.unit.mode = .announce
    ∧ listener.unit.g = some 5 ∧ u8 (position 4 5 24).payload 4 = 5 ∧ (position 4 255 24).source ≠ 5
    ∧ u8 (position 4 255 20).payload 1 ≠ listener.pocketCount ∧ u8 (position 4 255 24).payload 1 = listener.pocketCount
    ∧ u8 (position 4 255 24).payload 0 = listener.headCount ∧ u8 (position 4 255 24).payload 2 = listener.capacity .steam
    ∧ u8 (position 4 255 24).payload 3 = listener.capacity .drive ∧ listener.transmit.slot = none :=
  ⟨⟨rfl, rfl, rfl⟩, by decide +kernel⟩

theorem test_met_PositionFrames_running :
    (heard (position 2 255 24) run2).delivers .position (position 2 255 24) [] ∧ run2.unit.mode.running = true
    ∧ run2.unit.g = some 2 ∧ run2.unit.holdOff = 0 ∧ run2.announce.rePending = false ∧ run2.announce.reQueued = false
    ∧ (heard (position 2 255 24) run2).accepts .position [3, 24, 3, 4, 255] = true :=
  ⟨⟨rfl, rfl, rfl⟩, by decide +kernel⟩

/-- A station whose normal part is full. -/
def full (s : State) : State :=
  { s with transmit := { s.transmit with normal := List.replicate 16 { frame := ⟨2, .verdict, [7]⟩ } } }

theorem test_met_PositionFrames_refused : (full run2).unit.mode.running = true ∧ (full run2).unit.holdOff = 0
    ∧ (full run2).accepts .position [3, 24, 3, 4, 255] = false := by decide +kernel

theorem test_met_JarIn : gauged.unit.mode.running = true ∧ gauged.unit.p0 = some 6 ∧ gauged.hasHead 1 = true
    ∧ u8 [7, 3, 0, 3, 0x38, 3, 96] 0 = 6 + 1 ∧ ∀ k : Fin 4, gauged.hasHead k = true → u8 [9, 3, 0, 3, 0, 0, 0] 0 ≠ 6 + k.val := by
  decide +kernel

theorem test_met_DrawOpen_tested : run2.unit.g = some 2 ∧ run2.unit.mode.keepsView = true
    ∧ (⟨2, .drawOpen, [1, 0, 1, 4]⟩ : Frame).source = 2 ∧ run2.headCount ≤ u8 [3, 0, 1, 4] 0
    ∧ (station .learn 2 7 0).unit.mode.keepsView = false := by decide +kernel

theorem test_met_DrawOpen_recorded : aging.unit.mode.keepsView = true ∧ aging.unit.g ≠ some 3
    ∧ u8 [0, 0, 1, 4] 0 < aging.headCount ∧ u8 [0, 0, 1, 4] 1 = DrawClass.steam.code ∧ u8 [0, 0, 1, 4] 2 ≠ 0
    ∧ (∃ x ∈ aging.view.entries, x.group = 3 ∧ x.head = 0 ∧ x.cls = .steam)
    ∧ ¬(∃ x ∈ aging.view.entries, x.group = 5 ∧ x.head = 0 ∧ x.cls = .steam) ∧ aging.view.entries.length < 32 := by
  decide +kernel

/-- A view of 32 entries, no two with one key. -/
def crowded : State :=
  { run2 with view := ⟨(List.range 32).map (fun i => ⟨3 + i / 8, i % 4, if i % 8 < 4 then .steam else .drive, 1, 9⟩), false, 24⟩ }

theorem test_met_DrawOpen_full : 32 ≤ crowded.view.entries.length
    ∧ ¬(∃ x ∈ crowded.view.entries, x.group = 8 ∧ x.head = 0 ∧ x.cls = .steam) ∧ crowded.viewLawful = true := by
  decide +kernel

theorem test_met_DrawClose : aging.unit.mode.keepsView = true ∧ aging.unit.g ≠ some 3 ∧ u8 [0, 0] 1 = DrawClass.steam.code
    ∧ ∀ x ∈ aging.view.entries, ¬(x.group = 3 ∧ x.head = 2 ∧ x.cls.code = u8 [2, 0] 1) := by decide +kernel

/-- Group 2 with heads 0 and 1 asking for one unit and three, and `u` units open elsewhere. -/
def asking (u : Nat) : State :=
  let base := { marked 3 (station .run 2 12 100) with view := ⟨[⟨3, 0, .steam, u, 9⟩], false, 24⟩ }
  let asks (k : Fin 4) (a : Ask) (s : State) : State :=
    modDraw k (fun d => { d with ask := some a })
      (modEngine k (fun _ => { phase := .steamWait, recipe := some 3, asking := true }) s)
  asks 0 ⟨.steam, 1, 1900, 2200⟩ (asks 1 ⟨.steam, 3, 1900, 2200⟩ base)

theorem test_met_Arbiter : let s := asking 2
    s.unit.mode.keepsView = true ∧ (∀ k, (s.draws.get k).lawful = true) ∧ s.asks .steam 2 = false
    ∧ (s.draws.get 0).ask = some ⟨.steam, 1, 1900, 2200⟩ ∧ s.hasHead 0 = true
    ∧ s.shareOf .steam + s.pendOf .steam + 1 ≤ s.roomOf .steam ∧ s.accepts .drawOpen [byte 0] = true
    ∧ ¬s.shareOf .steam + s.pendOf .steam + 3 ≤ s.roomOf .steam := by decide +kernel

theorem test_met_Arbiter_close : let s := modDraw 1 (fun _ => {}) (asking 3)
    let after : State := { s with view := { s.view with entries := (s.view.entries.filter
      (fun x => !(decide (x.group = 3) && decide (x.head = 0) && decide (x.cls = DrawClass.steam)))) } }
    (∃ x ∈ s.view.entries, x.group = 3 ∧ x.head = 0 ∧ x.cls = .steam) ∧ (∀ j : Fin 4, j ≠ 0 → s.asks .steam j = false)
    ∧ after.overRoom .steam = false ∧ after.shareOf .steam + after.pendOf .steam + 1 ≤ after.roomOf .steam
    ∧ s.accepts .drawOpen [byte 0] = true ∧ s.unit.g ≠ some 3 := by decide +kernel

/-- R144, R145: of two asking heads the one that fits is granted. -/
theorem test_arbiter : ((arbiter .steam (asking 2)).draws.get 0).status = .pending
    ∧ ((arbiter .steam (asking 2)).draws.get 1).status = .none := by decide +kernel

theorem test_met_Withdrawals :
    let s : State := { contest with view := ⟨contest.view.entries ++ [⟨2, 1, .steam, 1, 4⟩], false, 24⟩ }
    (∀ k, (s.draws.get k).lawful = true) ∧ ¬s.shareOf .steam + s.pendOf .steam ≤ s.roomOf .steam
    ∧ s.withdrawable 0 = true ∧ contest.shareOf .steam + contest.pendOf .steam ≤ contest.roomOf .steam := by
  decide +kernel

theorem test_met_Withdrawals_open :
    let after : State := { contest with view := { contest.view with entries := contest.view.entries ++ [⟨2, 1, .steam, 1, 4⟩] } }
    (∀ j, (contest.draws.get j).lawful = true) ∧ contest.unit.mode.keepsView = true ∧ contest.unit.g ≠ some 2
    ∧ 1 < contest.headCount
    ∧ (∀ x ∈ contest.view.entries, ¬(x.group = 2 ∧ x.head = 1 ∧ x.cls = .steam)) ∧ contest.view.entries.length < 32
    ∧ (contest.draws.get 0).status = .pending ∧ (contest.draws.get 0).ask = none
    ∧ (contest.draws.get 0).terms = some ⟨.steam, 2, 1900, 2200⟩
    ∧ (∀ j : Fin 4, j ≠ 0 → (contest.draws.get j).status ≠ .pending) ∧ contest.withdrawable 0 = true
    ∧ after.overRoom .steam = true ∧ contest.tracker.motion ≠ .stalled
    ∧ (contest.engines.get 0).phase = .steamAnnounced := by decide +kernel

/-- A lawful station: head 1 in torque before A_rel, or in SEAT with A_rel reached. -/
theorem test_met_SafeEntry :
    let s := drawing .drive .opened (modChannel 1 (fun _ => { state := .forward, step := .ramp, duty := 40 })
      (headAt 22 6 .torque flushed))
    let u := headAt 2 7 .seat flushed
    s.headsLawful = true ∧ s.unit.mode = .run ∧ s.hasHead 1 = true ∧ (s.engines.get 1).inClosure = true
    ∧ s.reached 1 .rel = false ∧ u.headsLawful = true ∧ u.reached 1 .rel = true ∧ (u.engines.get 1).phase = .seat
    ∧ (u.slots.get 1).record.passed = false ∧ (setMode .stand s).headsLawful = true := by decide +kernel

/-- R105: a HALT TRIP ends a flush with ABORTED and HALTED, in DWELL with the valve off. -/
theorem test_safe_entry :
    let t := after .halt (heard ⟨0, .halt, [2, 16]⟩ (flushing 2 flushed))
    (t.engines.get 1).phase = .dwell ∧ (t.engines.get 1).steam = false ∧ (t.slots.get 1).record.flushEnd = .aborted
    ∧ (t.slots.get 1).record.reasons = { halted := true } := by decide +kernel

theorem test_met_Halt : u8 [2, 16] 0 = (if true then 2 else 1) ∧ u8 [1, 4] 0 = (if false then 2 else 1)
    ∧ (u8 [3, 4] 0 ≠ 1 ∧ u8 [3, 4] 0 ≠ 2) := by decide

/-- The slots of the entries to STAND, SAFE and RUN: at C = 7 head 1's pocket 7 opens, and pocket 6 of head 0 stays IDLE. -/
theorem test_met_entry_slots :
    (run2.slots.get 1).state = .idle ∧ run2.travel 1 < run2.intakeClose ∧ run2.hasHead 1 = true
    ∧ (run2.engines.get 1).inClosure = false ∧ (run2.slots.get 0).state = .idle
    ∧ ¬(run2.discharge ≤ run2.travel 0 ∨ run2.travel 0 < run2.intakeClose)
    ∧ (station .safe 2 7 3920).unit.mode = .safe ∧ (station .safe 2 7 3920).travel 1 < run2.intakeClose := by
  decide +kernel

/-- R67: a HALT STOP in RUN, and a RESUME in SAFE, open the IDLE slot in the intake window and no other. -/
theorem test_entry_slots :
    ((after .halt (heard ⟨0, .halt, [1, 4]⟩ run2)).slots.get 1).state = .opened
    ∧ ((after .halt (heard ⟨0, .halt, [1, 4]⟩ run2)).slots.get 0).state = .idle
    ∧ ((after .resume (heard ⟨12, .resume, []⟩ (station .safe 2 7 3920))).slots.get 1).state = .opened := by
  decide +kernel

theorem test_met_Resume : (station .safe 2 7 0).pins.guardOpen = false ∧ (after .guardOpens run2).pins.guardOpen = true
    ∧ tripped.unit.mode = .safe ∧ tripped.service.forced = none ∧ (tripped.channels.get 1).state = .tripped := by
  decide +kernel

theorem test_met_Guard : run2.inReset = none ∧ run2.pins.guardOpen = false ∧ run2.unit.mode.running = true
    ∧ run2.transmit.silenced = false ∧ run2.transmit.slot = none ∧ (learner 255 0).unit.mode = .learn := by decide +kernel

/-- A HALT in transmission. -/
def halting : State := { run2 with transmit := { onLine := .halt ⟨2, .halt, [2, 16]⟩ } }

theorem test_met_Receiver : run2.receive.receiver = .hunt ∧ (receiving (.length 5)).receive.receiver ≠ .hunt
    ∧ (2 : Byte).toNat ≤ 72 ∧ 72 < (73 : Byte).toNat ∧ (receiving (.payload 5 2 [1])).receive.receiver = .payload 5 2 [1]
    ∧ (receiving (.length 5)).inReset = none := by decide +kernel

/-- Another node's byte on the line with 6 of its bit-times gone, and a byte of the own frame. -/
def hearing : State := { run2 with transmit := { run2.transmit with byte := some 6, idle := 0 } }

theorem test_met_Receiver_byte : hearing.transmit.onLine = .none ∧ hearing.transmit.byte = some 6
    ∧ run2.transmit.onLine = .none ∧ run2.transmit.byte = none ∧ halting.transmit.onLine ≠ .none := by decide +kernel

/-- R38, R46: a byte's 11 bit-times pass with no idle time, and idle counts from the end of its stop bit. -/
theorem test_byte_time : (passByte hearing).transmit.idle = 0 ∧ (passByte hearing).transmit.byte = none
    ∧ (passByte hearing).tracker.e = hearing.tracker.e + 1
    ∧ (passByte { run2 with transmit := { run2.transmit with idle := 40 } }).transmit.idle = 4
    ∧ (passByte { run2 with transmit := { run2.transmit with idle := 40 } }).tracker.e = run2.tracker.e + 3 := by
  decide +kernel

/-- R46: no frame begins while another node's byte is on the line. -/
theorem test_no_start_during_a_byte : after .transmissionStart { hearing with
    transmit := { hearing.transmit with slot := some ⟨2, .halt, [2, 16]⟩ } }
    = { hearing with transmit := { hearing.transmit with slot := some ⟨2, .halt, [2, 16]⟩ } } := by decide +kernel

theorem test_met_FrameCompletes :
    (receiving (.check 0x05 [2, 16])).receive.own = false ∧ sumBytes ([0x05, byte 2] ++ [2, 16] ++ [0xE7]) = 0
    ∧ sumBytes ([0x05, byte 2] ++ [2, 16] ++ [0xE8]) ≠ 0 ∧ (receiving (.check 0x05 [2, 16])).receive.queue.length < 4
    ∧ sumBytes ([0xF5, byte 2] ++ [2, 16] ++ [0xF7]) = 0 ∧ (0xF5 : Byte).toNat / 16 = 15 ∧ (0x05 : Byte).toNat / 16 = 0
    ∧ (0x05 : Byte).toNat % 16 = 5 := by decide +kernel

/-- A receiver at its check byte with its own frame, or with four frames waiting. -/
theorem test_met_FrameCompletes_own_and_overrun :
    ({ run2.receive with receiver := .check 0x05 [2, 16], own := true } : Receive).own = true
    ∧ 4 ≤ ({ run2.receive with receiver := .check 0x05 [2, 16], queue := List.replicate 4 (ask 1 []) } : Receive).queue.length := by
  decide +kernel

/-- A station with a HALT in its slot and a normal frame behind it. -/
def waiting : State :=
  { run2 with transmit := { normal := [{ frame := ⟨2, .verdict, [7]⟩ }], slot := some ⟨2, .halt, [2, 16]⟩ } }

theorem test_met_TransmissionStart : waiting.transmit.silenced = false ∧ waiting.transmit.onLine = .none
    ∧ waiting.transmit.byte = none ∧ hearing.transmit.byte ≠ none
    ∧ waiting.receive.queue = [] ∧ waiting.transmit.slot = some ⟨2, .halt, [2, 16]⟩
    ∧ (full run2).transmit.slot = none ∧ (full run2).transmit.normal
      = ⟨⟨2, .verdict, [7]⟩, 0, 0⟩ :: List.replicate 15 { frame := ⟨2, .verdict, [7]⟩ }
    ∧ run2.transmit.normal = [] := by decide +kernel

/-- Head 1's VERDICT in transmission. -/
def telling : State :=
  sending { frame := ⟨2, .verdict, [7]⟩, ticket := 9 } (modSlot 1 (fun _ => ⟨.settled, some 7,
    { delivery := .queued, ticket := some 9, verdict := some .pass }⟩) run2)

/-- A POSITION frame in transmission. -/
def announcing (m : Mode) (a : AnnounceStage) : State :=
  { sending { frame := position 2 255 24 } (station m 2 7 0) with announce := ⟨a, false, true⟩ }

theorem test_met_SentFrames : halting.transmit.onLine = .halt ⟨2, .halt, [2, 16]⟩
    ∧ (announcing .announce .queued).unit.mode = .announce ∧ (announcing .run .none).unit.mode.running = true
    ∧ (announcing .run .none).announce.reQueued = true ∧ (announcing .run .none).announce.rePending = false
    ∧ (telling.slots.get 1).record.delivery = .queued ∧ (telling.slots.get 1).record.ticket = some 9
    ∧ telling.transmit.normal = [⟨⟨2, .verdict, [7]⟩, 0, 9⟩] := by decide +kernel

/-- Head 1 with its DRAW-OPEN in transmission (5.10 step 5). -/
def opening : State :=
  sending { frame := ⟨2, .drawOpen, [1, 0, 1, 3]⟩ }
    (modDraw 1 (fun d => { d with status := .pending, terms := some ⟨.steam, 1, 1900, 2200⟩, openFrame := .inQueue })
      (closing .steamAnnounced { flushed with fEff := 0, flushEnd := .none } run2))

theorem test_met_SentDrawOpen : (∀ j, (opening.draws.get j).lawful = true) ∧ opening.transmit.onLine = .normal
    ∧ (opening.draws.get 1).status = .pending
    ∧ opening.transmit.normal = [⟨⟨2, .drawOpen, [1, 0, 1, 3]⟩, 0, 0⟩]
    ∧ (opening.draws.get 1).openFrame = .inQueue ∧ (opening.draws.get 1).ask = none
    ∧ (opening.draws.get 1).terms = some ⟨.steam, 1, 1900, 2200⟩ ∧ (opening.engines.get 1).phase = .steamAnnounced
    ∧ (opening.slots.get 1).record.fReq ≠ 0 ∧ opening.tracker.motion ≠ .stalled ∧ (opening.slots.get 1).state = .bound
    ∧ ((modSlot 1 (fun x => { x with record := {} }) opening).slots.get 1).record.fReq = 0 := by decide +kernel

/-- Head 1 with its drive DRAW-OPEN in transmission, its channel in a state. -/
def openingDrive (x : Channel) : State :=
  sending { frame := ⟨2, .drawOpen, [1, 1, 1, 3]⟩ }
    (modChannel 1 (fun _ => x) (drawing .drive .pending (headAt 17 5 .driveAnnounced flushed)))

theorem test_met_SentDrawOpen_drive : (openingDrive {}).transmit.onLine = .normal
    ∧ (∀ j, ((openingDrive {}).draws.get j).lawful = true)
    ∧ (∀ j, ((modDraw 1 (fun d => { d with status := .openForced }) (openingDrive {})).draws.get j).lawful = true)
    ∧ (openingDrive {}).transmit.normal = [⟨⟨2, .drawOpen, [1, 1, 1, 3]⟩, 0, 0⟩]
    ∧ ((openingDrive {}).draws.get 1).status = .pending ∧ ((openingDrive {}).draws.get 1).openFrame = .inQueue
    ∧ ((openingDrive {}).channels.get 1).state = .off ∧ ((openingDrive {}).pins.heads.get 1).oc = false
    ∧ (openingDrive {}).reached 1 .rel = false
    ∧ ((openingDrive { state := .tripped, causes := ⟨true, false, false⟩ }).channels.get 1).causes.overcurrent = true
    ∧ ((openingDrive { state := .tripped, causes := ⟨false, false, true⟩ }).channels.get 1).causes.overcurrent = false
    ∧ ((modDraw 1 (fun d => { d with status := .openForced }) (openingDrive {})).draws.get 1).status = .openForced := by
  decide +kernel

/-- R99: the sent report of a drive DRAW-OPEN begins THREAD-FIND. -/
theorem test_sent_drive_open : ((after .transmissionComplete (openingDrive {})).engines.get 1).phase = .torque
    ∧ ((after .transmissionComplete (openingDrive {})).channels.get 1).state = .reverse := by decide +kernel

theorem test_met_Collisions_halt : halting.inReset = none ∧ (⟨2, .halt, [2, 16]⟩ : Frame).bits[6]? = some true := by
  decide +kernel

theorem test_met_Collisions_normal : telling.transmit.onLine = .normal
    ∧ (⟨2, .verdict, [7]⟩ : Frame).bits[6]? = some true ∧ 0 + 1 < 4 ∧ 4 ≤ 3 + 1 := by decide +kernel

theorem test_met_PositionCollision : (position 2 255 24).bits[6]? = some true
    ∧ (announcing .announce .queued).announce.stage = .queued ∧ (announcing .announce .retry).announce.stage = .retry
    ∧ (announcing .run .none).unit.g = some 2 ∧ (announcing .run .none).announce.rePending = false := by decide +kernel

theorem test_met_FlushTick : ((flushing 2 flushed).engines.get 1).phase = .flush
    ∧ ((flushing 2 flushed).slots.get 1).state = .bound ∧ (flushing 2 flushed).shareOf .steam = 3
    ∧ (flushing 2 flushed).capacity .steam = 3 ∧ flushed.fEff + 16 < flushed.fReq
    ∧ ((flushing 2 flushed).draws.get 1).isOpen = true ∧ flushed.fReq ≤ { flushed with fEff := 2290 }.fEff + 16 := by
  decide +kernel

/-- Head 1 in SEAT after a number of samples. -/
def seating (n : Nat) : State := modEngine 1 (fun x => { x with samples := n }) (closing .seat flushed run2)

/-- Head 1 with some thresholds reached in its pass. -/
def reaching (m : Marks) (s : State) : State := modTrack 1 (fun _ => { marks := m }) s

theorem test_met_Seat : ((seating 3).engines.get 1).phase = .seat ∧ ((seating 3).slots.get 1).state = .bound
    ∧ ((seating 3).engines.get 1).samples + 1 < ((seating 3).boundRecipe 1).seatWindow
    ∧ ((seating 59).boundRecipe 1).seatWindow ≤ ((seating 59).engines.get 1).samples + 1
    ∧ (seating 59).reached 1 .rel = false ∧ (reaching { rel := true } (seating 59)).reached 1 .rel = true
    ∧ ((seating 59).slots.get 1).record.passed = false := by decide +kernel

theorem test_met_SeatedCap : ((seating 3).draws.get 1).status = .none ∧ (seating 3).reached 1 .rel = false
    ∧ ((seating 3).channels.get 1).state = .off ∧ (seating 3).reached 1 .dl = false
    ∧ (reaching { dl := true } (seating 3)).reached 1 .dl = true ∧ ((seating 3).pins.heads.get 1).oc = false
    ∧ (reaching { rel := true } (seating 3)).reached 1 .rel = true
    ∧ ((modChannel 1 (Channel.trip .overcurrent) (seating 3)).channels.get 1).state = .tripped
    ∧ ((modChannel 1 (Channel.trip .overcurrent) (seating 3)).channels.get 1).causes.overcurrent = true
    ∧ ((modChannel 1 (Channel.trip .guard) (seating 3)).channels.get 1).causes.overcurrent = false
    ∧ ((seating 3).slots.get 1).record.passed = false := by decide +kernel

/-- R97: with A_rel reached, a seated cap ends the drive with ANGLE and is released. -/
theorem test_seated_at_release :
    ((after (.seatSample 1 true) (reaching { rel := true } (seating 3))).slots.get 1).record.torqueEnd = .angle
    ∧ ((after (.seatSample 1 true) (reaching { rel := true } (seating 3))).slots.get 1).state = .settled := by
  decide +kernel

theorem test_met_TorqueStep : (settling.channels.get 1).step = .settle
    ∧ (settling.channels.get 1).steps + 1 < (settling.boundRecipe 1).timeLimit ∧ (settling.slots.get 1).state = .bound
    ∧ (settling.engines.get 1).phase = .torque ∧ settling.reached 1 .rel = false
    ∧ (settling.boundRecipe 1).target - (settling.boundRecipe 1).band = 390
    ∧ (settling.boundRecipe 1).settleSamples ≤ (settling.channels.get 1).settle + 1 := by decide +kernel

theorem test_met_ThreadFindAndGap :
    ((driving { state := .reverse, step := .threadFind, steps := 19 }).boundRecipe 1).threadFindTime ≤ 19 + 1
    ∧ 19 + 1 < ((driving { state := .gap, step := .gap, steps := 19 }).boundRecipe 1).timeLimit
    ∧ ((driving { state := .gap, step := .gap, steps := 19 }).pins.heads.get 1).oc = false := by decide +kernel

theorem test_met_TimeLimitEnds : ((driving { state := .forward, step := .ramp, steps := 399 }).boundRecipe 1).timeLimit ≤ 399 + 1
    ∧ (driving { state := .forward, step := .ramp, steps := 399 }).reached 1 .rel = false
    ∧ ((driving { state := .forward, step := .ramp, steps := 399 }).slots.get 1).state = .bound := by decide +kernel

/-- The time limit met in THREAD-FIND, at the step of GAP and in a settled run. -/
theorem test_met_TimeLimitEnds_steps :
    let find := driving { state := .reverse, step := .threadFind, steps := 399 }
    let gap := driving { state := .gap, step := .gap, steps := 399 }
    let run := driving { state := .forward, step := .settle, steps := 399, settle := 2 }
    (find.boundRecipe 1).timeLimit ≤ (find.channels.get 1).steps + 1
    ∧ (gap.boundRecipe 1).timeLimit ≤ (gap.channels.get 1).steps + 1 ∧ (gap.pins.heads.get 1).oc = false
    ∧ (run.boundRecipe 1).timeLimit ≤ (run.channels.get 1).steps + 1
    ∧ (run.channels.get 1).settle + 1 < (run.boundRecipe 1).settleSamples ∧ gap.reached 1 .rel = false
    ∧ (gap.slots.get 1).state = .bound ∧ (gap.engines.get 1).phase = .torque := by decide +kernel

/-- R120, R121: the limit at the step of GAP ends the phase with TIME and τ 0. -/
theorem test_time_limit_in_gap :
    ((after (.torqueTimeLimit 1 200) (driving { state := .gap, step := .gap, steps := 399 })).slots.get 1).record
      = { torqueEnd := .time } := by decide +kernel

theorem test_met_Overcurrent : (settling.channels.get 1).state = .forward ∧ (settling.channels.get 1).step ≠ .none
    ∧ (run2.channels.get 1).state = .off := by decide +kernel

/-- A forced run of a motor in SAFE. -/
def forcing : State := after .forceOutput (heard (ask 7 [0, 2, 30, 200, 0]) tripped)

theorem test_met_ForcedRunsEnd : forcing.inReset = none ∧ forcing.service.forced = some ⟨0, .drive, 30, 20000⟩ := by
  decide +kernel

/-- A forced run of a motor ended by a HALT TRIP in SAFE, and at the entry to RUN. -/
theorem test_met_forced_run_ended : forcing.unit.mode = .safe ∧ forcing.service.forced = some ⟨0, .drive, 30, 20000⟩
    ∧ forcing.pins.guardOpen = false ∧ (forcing.channels.get 0).state = .forward
    ∧ (forcing.unforcedChannels.get 0).state = .off := by decide +kernel

/-- R189: the entry to RUN ends the run, and its channel is OFF. -/
theorem test_resume_ends_a_forced_run :
    (after .resume (heard ⟨12, .resume, []⟩ forcing)).service.forced = none
    ∧ ((after .resume (heard ⟨12, .resume, []⟩ forcing)).channels.get 0).state = .off := by decide +kernel

theorem test_met_PwmPeriodStart : run2.inReset = none ∧ run2.pwm ≤ 5 := by decide

theorem test_met_IntakeClose : (gauged.slots.get 1).state = .opened ∧ (gauged.engines.get 1).recipe = none
    ∧ gauged.unit.mode = .run ∧ (gauged.slots.get 1).record.recipe = .number 3 ∧ gauged.usable 3 = true
    ∧ (gauged.engines.get 1).phase ≠ .out ∧ (advancePhase 1 (takePins .quiet gauged)).travel 1 = 200
    ∧ ∀ x ∈ [(gauged.recipe 3).aCap, (gauged.recipe 3).aFe, (gauged.recipe 3).aFl, (gauged.recipe 3).aFx,
      (gauged.recipe 3).aDl, (gauged.recipe 3).aRel], 200 < x := by decide +kernel

theorem test_met_IntakeClose_other (m : Mode) (c : Condition) :
    let s := setMode m (modSlot 1 (fun x => { x with record := { x.record with condition := some c } }) gauged)
    s.unit.mode = m ∧ (s.slots.get 1).record.condition = some c ∧ (s.slots.get 1).state = .opened
    ∧ (s.engines.get 1).recipe = none := ⟨rfl, rfl, rfl, rfl⟩

theorem test_met_IntakeClose_recipe :
    let s := modSlot 1 (fun x => { x with record := { x.record with recipe := .unusable } }) gauged
    (s.slots.get 1).record.recipe = .unusable ∧ s.unit.mode = .run ∧ (s.slots.get 1).state = .opened
    ∧ dueNext s = [.intakeClose]
    ∧ ((modEngine 1 (fun x => { x with phase := .out }) gauged).engines.get 1).phase = .out
    ∧ dueNext (modEngine 1 (fun x => { x with phase := .out }) gauged) = [.intakeClose]
    ∧ (modEngine 1 (fun x => { x with phase := .out }) gauged).usable 3 = true := by decide +kernel

/-- R73: a jar without a usable recipe is SKIPPED with RECIPE, one on a head that is OUT with HEAD_OUT. -/
theorem test_skipped_jars :
    ((after (.thresholdReached 1 .quiet)
      (modSlot 1 (fun x => { x with record := { x.record with recipe := .unusable } }) gauged)).slots.get 1).record.reasons
      = { recipe := true }
    ∧ ((after (.thresholdReached 1 .quiet)
      (modEngine 1 (fun x => { x with phase := .out }) gauged)).slots.get 1).record.reasons = { headOut := true } := by
  decide +kernel

/-- Head 1 in DWELL half a pitch before its release at A_rel 5 100. -/
def dwelling : State :=
  reaching ⟨true, true, true, true, true, true, false, false⟩
    (closing .dwell { flushed with tauFinal := 405, tauPeak := 431 } (station .run 2 2 100))

theorem test_met_Release : dwelling.travelDefined 1 = true ∧ (dwelling.tracks.get 1).heldBack = false
    ∧ (dwelling.slots.get 1).state = .bound ∧ (dwelling.engines.get 1).phase = .dwell
    ∧ (dwelling.slots.get 1).record.passed = false
    ∧ (advancePhase 1 (takePins .quiet dwelling)).due 1
      (some ((advancePhase 1 (takePins .quiet dwelling)).travel 1)) = [.rel] := by decide +kernel

/-- A jar past its discharge, released outside the intake window, and inside it with A_rel at 199. -/
theorem test_met_Release_passed :
    let s := modSlot 1 (fun x => { x with record := { x.record with passed := true } }) dwelling
    let early := { s with settings := { s.settings with profile := (s.settings.profile.set 8 0x40).set 9 0x10 } }
    (s.slots.get 1).record.passed = true ∧ dueNext s = [.rel] ∧ s.intakeClose ≤ 5100 ∧ 5100 < s.discharge
    ∧ early.discharge ≤ 5100 := by decide +kernel

/-- R79: outside the window the slot of a jar past its discharge is SETTLED. -/
theorem test_release_passed : ((after (.thresholdReached 1 .quiet)
    (modSlot 1 (fun x => { x with record := { x.record with passed := true } }) dwelling)).slots.get 1).state = .settled := by
  decide +kernel

/-- 5.10 step 16: that release gives V = 309 and PASS. -/
theorem test_release : ((after (.thresholdReached 1 .quiet) dwelling).slots.get 1).record.v = 309
    ∧ ((after (.thresholdReached 1 .quiet) dwelling).slots.get 1).record.verdict = some .pass := by decide +kernel

theorem test_met_AttainableVacuum : Recipe.tableOk recipe3 = true ∧ Recipe.tableT recipe3 3 ≤ 824
    ∧ 824 < Recipe.tableT recipe3 4 := by decide +kernel

theorem test_met_Reads : tripped.hasHead 1 = true ∧ (1 : Byte).toNat = (1 : Fin 4).val
    ∧ tripped.headCount ≤ (3 : Byte).toNat ∧ (2 : Byte).toNat ≤ aging.view.entries.length
    ∧ aging.view.entries.length < (3 : Byte).toNat ∧ tripped.settings.profile ≠ [] := by decide +kernel

theorem test_met_Write : recipe3.length = 64 ∧ goodSum recipe3 = true ∧ Recipe.fieldsOk recipe3 = true
    ∧ Recipe.orderAgainst tripped.settings.profile recipe3 = true ∧ (profileOf 2).length = 32
    ∧ goodSum (profileOf 2) = true ∧ Profile.fieldsOk (profileOf 2) = true ∧ goodSum (1 :: recipe3) = false := by
  decide +kernel

theorem test_met_WriteCompletion :
    (after .writeRecord (heard (ask 5 (4 :: recipe3)) tripped)).service.write = some ⟨4, recipe3, 600⟩
    ∧ Store.wf tripped.settings.store = true ∧ tripped.transmit.silenced = false
    ∧ tripped.transmit.normalCount < 16 := by decide +kernel

theorem test_met_ClearHead : tripped.unit.mode.running = true ∧ tripped.hasHead 1 = true
    ∧ (learner 255 0).unit.mode.running = false := by decide +kernel

theorem test_met_ForcedRunsBegin : tripped.unit.mode = .safe ∧ tripped.pins.guardOpen = false
    ∧ tripped.hasHead 1 = true ∧ tripped.service.forced = none ∧ (tripped.engines.get 1).inClosure = false
    ∧ (tripped.channels.get 1).causes.overcurrent = true ∧ (tripped.channels.get 0).causes.overcurrent = false
    ∧ (tripped.pins.heads.get 0).oc = false ∧ u16 [1, 1, 0, 0xF4, 1] 3 = 500 ∧ u8 [1, 1, 0, 0xF4, 1] 1 ≤ 2
    ∧ forcing.service.forced.isSome = true ∧ u16 [1, 1, 0, 0xD1, 7] 3 = 2001 := by decide +kernel

/-- The motor asked for with its comparator already active. -/
theorem test_met_ForcedRunsBegin_comparator :
    let s := after (.overcurrentTrip 0) tripped
    (s.pins.heads.get 0).oc = true ∧ (s.channels.get 0).step = .none ∧ (s.channels.get 0).causes.overcurrent = false
    ∧ s.service.forced = none ∧ (s.engines.get 0).inClosure = false
    ∧ 2 ≤ ((modChannel 0 (fun x => { x with count := 2 }) s).channels.get 0).count := by decide +kernel

theorem test_met_Restart : tripped.transmit.normalCount < 16 ∧ 16 ≤ (full tripped).transmit.normalCount
    ∧ (after .restart (heard (ask 8 []) tripped)).service.request ≠ .none ∧ 8 < (ask 9 []).code := by decide +kernel

/-- A station of the examples with a command waiting, which meets every law that a step keeps. -/
def busyStation : State := { flushing 2 flushed with pending := [.flushTick 1] }

theorem test_met_kept_laws : busyStation.transmit.lawful = true ∧ busyStation.receive.lawful = true
    ∧ Store.wf busyStation.settings.store = true ∧ busyStation.viewLawful = true ∧ busyStation.trackLawful = true
    ∧ busyStation.headsLawful = true := by decide +kernel

/-- R36, R108, R132: a reset taken amid a flush meets the law of a reset in force, and keeps it when GUARD is open at its
end. -/
theorem test_met_kept_laws_in_reset :
    let s := after .powerReset busyStation
    s.inReset = some .power ∧ s.headsLawful = true ∧ (after (.resetEnd true) s).headsLawful = true := by decide +kernel

theorem test_met_step : ∃ t, step busyStation = .next t := ⟨_, rfl⟩

/-- The own group's DRAW-OPEN waiting to be delivered, on a lawful station with a jar in its flush. -/
def duplicated : State :=
  { heard ⟨2, .drawOpen, [1, 0, 1, 4]⟩ (flushing 2 flushed) with pending := [.drawOpen] }

theorem test_met_EntryToFault : duplicated.headsLawful = true ∧ duplicated.unit.mode ≠ .fault
    ∧ ∃ t, step duplicated = .next t ∧ t.unit.mode = .fault := ⟨by decide +kernel, by decide +kernel, _, rfl, by decide +kernel⟩

/-- R107: the entry to FAULT leaves the slot IDLE, the valve off and the channel TRIPPED with SAFE. -/
theorem test_fault_entry :
    let t := after .drawOpen duplicated
    (t.slots.get 1).state = .idle ∧ (t.engines.get 1).steam = false ∧ (t.channels.get 1).causes.safe = true := by
  decide +kernel

/-- A station in FAULT(LINE), silenced. -/
def silenced : State :=
  { station .fault 2 7 0 with
    unit := { (station .fault 2 7 0).unit with fault := .line }, transmit := { silenced := true }
    view := ⟨[], true, 0⟩, pending := [.byteTaken 0x05 true true] }

theorem test_met_FaultAndSilence : silenced.unit.mode = .fault ∧ silenced.transmit.silent = true := by decide +kernel

theorem test_met_silenced_step : ∃ t, step silenced = .next t := ⟨_, rfl⟩

end Sys2Proof.Tests
end

/-! The bytes of a frame on the line: what the receiver does with a byte in HUNT and with a length byte, and a frame
broken off at its length byte (R53, R57). -/

namespace Sys2Proof.Machine
open Sys2Proof

/-! ## A byte on the line -/

theorem exec_byteTaken (b : Byte) (lead stop : Bool) (s : State) (h : s.inReset = none) :
    exec (.byteTaken b lead stop) s = .next (takeByte b lead stop s) := by
  have harm : exec (.byteTaken b lead stop) s = execByteTaken b lead stop s := rfl
  rw [harm, execByteTaken, unlessReset_out _ s h]

theorem takeByte_in_hunt (b : Byte) (lead stop : Bool) (s : State) (h : s.receive.receiver = .hunt) :
    takeByte b lead stop s = huntByte b lead stop (passByte s) := by
  simp [takeByte, receiverTakes, h]

theorem takeByte_in_length (b l : Byte) (lead stop : Bool) (s : State) (h : s.receive.receiver = .length l) :
    takeByte b lead stop s = frameByte b lead stop (takeLength l b) (passByte s) := by
  simp [takeByte, receiverTakes, h]

/-! ## Bytes in HUNT (R53) -/

theorem huntByte_without_lead (b : Byte) (stop : Bool) (s : State) : huntByte b false stop s = s := rfl

theorem huntByte_with_lead (b : Byte) (s : State) : huntByte b true true s = beginFrame b s := rfl

/-- R53: a byte without a lead bit is ignored in HUNT, whatever its stop bit. -/
theorem takeByte_in_hunt_without_lead_receive (b : Byte) (stop : Bool) (s : State) (h : s.receive.receiver = .hunt) :
    (takeByte b false stop s).receive = s.receive := by
  rw [takeByte_in_hunt b false stop s h, huntByte_without_lead, passByte_receive]

/-- R53, R60: a byte with its lead bit begins a frame in HUNT, the station's own when the station is sending. -/
theorem takeByte_in_hunt_with_lead_receive (b : Byte) (s : State) (h : s.receive.receiver = .hunt) :
    (takeByte b true true s).receive
      = { s.receive with receiver := .length b, own := decide (s.transmit.onLine ≠ .none) } := by
  rw [takeByte_in_hunt b true true s h, huntByte_with_lead]
  simp only [beginFrame, passByte_receive, passByte_onLine]

/-! ## Receive errors (R57, R58) -/

/-- Of the receiver's state, an error changes its count alone: the doubt that begins is the draw unit's. -/
@[simp] theorem receiveError_receive (k : ReceiveError) (s : State) :
    (receiveError k s).receive = { s.receive with errors := s.receive.errors.count k } := by
  obtain ⟨-, -, hreceive, -⟩ :=
    doubtBegins_fields { s with receive := { s.receive with errors := s.receive.errors.count k } }
  exact hreceive

theorem frameByte_whole (b : Byte) (take : State → State) (s : State) : frameByte b false true take s = take s := rfl

theorem takeLength_above (l b : Byte) (s : State) (h : 72 < b.toNat) :
    takeLength l b s = receiveError .length (endFrame s) :=
  if_pos h

/-- R57: a length byte above 72 ends the frame in HUNT and counts a LENGTH error. -/
theorem takeByte_length_above_receive (b l : Byte) (s : State) (h : s.receive.receiver = .length l)
    (hb : 72 < b.toNat) :
    (takeByte b false true s).receive = { s.receive with
      receiver := .hunt, own := false, errors := s.receive.errors.count .length } := by
  rw [takeByte_in_length b l false true s h, frameByte_whole, takeLength_above l b _ hb]
  simp only [receiveError_receive, endFrame, passByte_receive]

/-- Settles O31: the length byte leaves the receiver in HUNT, where the lead bit alone decides what a byte does. -/
theorem lengthErrorIgnoresTheRest : Obligations.LengthErrorIgnoresTheRest := by
  intro s b l hs hl hb
  have hreceive := takeByte_length_above_receive b l s hl hb
  refine ⟨takeByte b false true s, exec_byteTaken b false true s hs, hreceive, fun u hu hut => ?_⟩
  have hhunt : u.receive.receiver = .hunt := by rw [hut, hreceive]
  exact ⟨
    fun c stop => ⟨_, exec_byteTaken c false stop u hu, takeByte_in_hunt_without_lead_receive c stop u hhunt⟩,
    fun c => ⟨_, exec_byteTaken c true true u hu, takeByte_in_hunt_with_lead_receive c u hhunt⟩⟩

end Sys2Proof.Machine

/-! DRAW-CLOSE: which delivered frames the draw unit takes, and what the removal of a view entry, with the withdrawal
check and the arbiter's run that follow it, leaves as it is (R134, R137). -/

namespace Sys2Proof.Machine
open Sys2Proof

/-! ## Fields -/

theorem within_iff (lo hi x : Nat) : within lo hi x = true ↔ lo ≤ x ∧ x ≤ hi := by
  simp [within]

theorem DrawClass.code_le_one (c : DrawClass) : c.code ≤ 1 := by
  cases c <;> decide

@[simp] theorem DrawClass.ofCode_code (c : DrawClass) : DrawClass.ofCode c.code = some c := by
  cases c <;> rfl

theorem DrawClass.ofCode_eq_some {n : Nat} {c : DrawClass} (h : DrawClass.ofCode n = some c) : n = c.code := by
  unfold DrawClass.ofCode at h
  split at h <;> cases h <;> rfl

theorem ViewEntry.hasKey_iff (group head : Nat) (c : DrawClass) (e : ViewEntry) :
    e.hasKey group head c = true ↔ e.group = group ∧ e.head = head ∧ e.cls = c := by
  simp [ViewEntry.hasKey, and_assoc]

/-! ## The frame's way to the draw unit (R62, R137) -/

/-- A delivered DRAW-CLOSE has left the receive queue when the draw unit acts on it. -/
theorem exec_drawClose {s : State} {f : Frame} {rest : List Frame} (h : s.delivers .drawClose f rest) :
    exec .drawClose s = .next (needing 2 takeDrawClose f (s.withFrames rest)) := by
  obtain ⟨hreset, hqueue, hkind⟩ := h
  have harm : exec .drawClose s = execDrawClose s := rfl
  rw [harm, execDrawClose, unlessReset_out _ s hreset, deliver_front _ _ s f rest hqueue hkind]
  rfl

theorem needing_length (n : Nat) (take : Frame → State → State) (f : Frame) (s : State) (h : f.payload.length = n) :
    needing n take f s = take f s :=
  if_pos h

theorem needing_other_length (n : Nat) (take : Frame → State → State) (f : Frame) (s : State)
    (h : f.payload.length ≠ n) : needing n take f s = s :=
  if_neg h

/-- The draw unit keeps its view and the frame comes from another group, not from node 12, 13 or 14 (R137). -/
def State.hearsClose (s : State) (f : Frame) : Prop :=
  s.unit.mode.keepsView = true ∧ ¬(12 ≤ f.source ∧ f.source ≤ 14) ∧ s.unit.g ≠ some f.source

theorem takeDrawClose_heard {s : State} {f : Frame} {c : DrawClass} (h : s.hearsClose f)
    (hcls : u8 f.payload 1 = c.code) : takeDrawClose f s = removeEntry f.source (u8 f.payload 0) c s := by
  obtain ⟨hmode, hnode, hgroup⟩ := h
  have hwithin : within 12 14 f.source = false := by
    rwa [← Bool.not_eq_true, within_iff]
  simp [takeDrawClose, hmode, hwithin, hgroup, hcls]

/-- A DRAW-CLOSE changes nothing, or removes an entry of the class that its class field names. -/
theorem takeDrawClose_cases (f : Frame) (s : State) : takeDrawClose f s = s
    ∨ ∃ c : DrawClass, s.hearsClose f ∧ u8 f.payload 1 = c.code
      ∧ takeDrawClose f s = removeEntry f.source (u8 f.payload 0) c s := by
  unfold takeDrawClose
  split
  · next hgate =>
    simp only [Bool.and_eq_true, Bool.not_eq_true', decide_eq_true_eq] at hgate
    obtain ⟨⟨hmode, hwithin⟩, hgroup⟩ := hgate
    split
    · next c hcode =>
      have hnode : ¬(12 ≤ f.source ∧ f.source ≤ 14) := by
        rw [← within_iff, hwithin]; exact Bool.false_ne_true
      exact .inr ⟨c, ⟨hmode, hnode, hgroup⟩, DrawClass.ofCode_eq_some hcode, rfl⟩
    · exact .inl rfl
  · exact .inl rfl

/-! ## The entry removed (R134, R137) -/

theorem removeEntry_absent {s : State} {group head : Nat} {c : DrawClass}
    (h : ∀ x ∈ s.view.entries, ¬(x.group = group ∧ x.head = head ∧ x.cls = c)) : removeEntry group head c s = s := by
  refine if_neg fun hany => ?_
  obtain ⟨x, hx, hkey⟩ := List.any_eq_true.1 hany
  exact h x hx ((ViewEntry.hasKey_iff group head c x).1 hkey)

/-- The entry of the key leaves the table, and the check and the arbiter's run that follow touch nothing more of the
still part; a table without the entry is its own remainder. -/
theorem still_removeEntry (group head : Nat) (c : DrawClass) (s : State) :
    (removeEntry group head c s).still
      = (modEntries (List.filter (fun e => !e.hasKey group head c)) s).still := by
  unfold removeEntry
  split
  · exact still_checkAndRun c _
  · next hany =>
    have hfilter : s.view.entries.filter (fun e => !e.hasKey group head c) = s.view.entries := by
      rw [List.filter_eq_self]
      intro e he
      rw [List.any_eq_true] at hany
      simpa using fun hkey => hany ⟨e, he, hkey⟩
    rw [modEntries, hfilter]

/-- The ground lies within the still part. -/
theorem State.ground_of_still {s t : State} (h : t.still = s.still) : t.ground = s.ground := by
  obtain ⟨-, -, -, -, hsettings, -, -, hdead, hreset, hpending⟩ := State.still_fields h
  simp only [State.ground, hsettings, hdead, hreset, hpending]

/-! ## DRAW-CLOSE (R137) -/

/-- A DRAW-CLOSE that cannot be heard, names no class or finds no entry of its key changes nothing. -/
theorem takeDrawClose_ignored {s : State} {f : Frame}
    (h : ¬s.hearsClose f ∨ 1 < u8 f.payload 1
      ∨ ∀ x ∈ s.view.entries, ¬(x.group = f.source ∧ x.head = u8 f.payload 0 ∧ x.cls.code = u8 f.payload 1)) :
    takeDrawClose f s = s := by
  obtain hsame | ⟨c, hhears, hcode, hremove⟩ := takeDrawClose_cases f s
  · exact hsame
  · rcases h with hdeaf | hclass | habsent
    · exact absurd hhears hdeaf
    · have := c.code_le_one
      omega
    · rw [hremove]
      refine removeEntry_absent fun x hx ⟨hgroup, hhead, hcls⟩ => habsent x hx ⟨hgroup, hhead, ?_⟩
      rw [hcls, hcode]

/-- Settles O22: a heard frame comes down to the removal of its entry, which leaves the still part; every other frame only
leaves the queue. -/
theorem drawCloseRemovesItsEntry : Obligations.DrawCloseRemovesItsEntry := by
  intro s f rest hdel
  rw [exec_drawClose hdel]
  constructor
  · intro c hlen hmode hnode hgroup hcls
    have hears : (s.withFrames rest).hearsClose f := ⟨hmode, hnode, hgroup⟩
    rw [needing_length 2 _ f _ hlen, takeDrawClose_heard hears hcls]
    have hstill := still_removeEntry f.source (u8 f.payload 0) c (s.withFrames rest)
    obtain ⟨htracker, hunit, hreceive, hview, -⟩ := State.still_fields hstill
    have hground := State.ground_of_still hstill
    exact ⟨_, rfl, hview, hunit, htracker, hreceive, hground⟩
  · intro h
    by_cases hlen : f.payload.length = 2
    · rw [needing_length 2 _ f _ hlen, takeDrawClose_ignored]
      rcases h with hother | hmode | hnode | hgroup | hclass | habsent
      · exact absurd hlen hother
      · exact .inl fun ⟨hkeeps, _, _⟩ => Bool.false_ne_true (hmode.symm.trans hkeeps)
      · exact .inl fun ⟨_, hstation, _⟩ => hstation hnode
      · exact .inl fun ⟨_, _, hown⟩ => hown hgroup
      · exact .inr (.inl hclass)
      · exact .inr (.inr habsent)
    · rw [needing_other_length 2 _ f _ hlen]

end Sys2Proof.Machine

/-! The attainable vacuum: where a temperature lies on a checked recipe table, and the line of its segment (R161, R175).
The temperatures of the table increase strictly, so one within its range lies in one segment alone; the vacuum figures
do not decrease, so the floor of a segment's line stays between the figures of its two points. -/

namespace Sys2Proof.Machine
open Sys2Proof

/-! ## The checked table (R175) -/

theorem Recipe.tableOk_iff (r : Recipe) : r.tableOk = true ↔ (∀ i < 6, r.tableT i ≤ 1200 ∧ r.tableV i ≤ 999)
    ∧ ∀ i < 5, r.tableT i < r.tableT (i + 1) ∧ r.tableV i ≤ r.tableV (i + 1) := by
  simp only [Recipe.tableOk, Bool.and_eq_true, List.all_eq_true, List.mem_range, decide_eq_true_eq]

section
variable {q : Recipe} (hok : q.tableOk = true)
include hok

theorem tableV_le_999 {i : Nat} (hi : i < 6) : q.tableV i ≤ 999 := (((Recipe.tableOk_iff q).mp hok).1 i hi).2

theorem tableT_lt_succ {i : Nat} (hi : i < 5) : q.tableT i < q.tableT (i + 1) :=
  (((Recipe.tableOk_iff q).mp hok).2 i hi).1

theorem tableV_le_succ {i : Nat} (hi : i < 5) : q.tableV i ≤ q.tableV (i + 1) :=
  (((Recipe.tableOk_iff q).mp hok).2 i hi).2

theorem tableT_mono {i j : Nat} (hij : i ≤ j) (hj : j ≤ 5) : q.tableT i ≤ q.tableT j := by
  induction hij with
  | refl => exact Nat.le_refl _
  | step _ ih => exact Nat.le_trans (ih (Nat.le_of_succ_le hj)) (Nat.le_of_lt (tableT_lt_succ hok hj))

end

/-! ## The segment of a temperature -/

/-- Segment `i` of the table, its lower end included, holds the temperature `tf`. -/
def Recipe.inSegment (q : Recipe) (tf i : Nat) : Prop := i < 5 ∧ q.tableT i ≤ tf ∧ tf < q.tableT (i + 1)

/-- From the first point up to point `n` no temperature is outside every segment; this needs no order of the points. -/
theorem exists_segment_below {q : Recipe} {tf n : Nat} (hlow : q.tableT 0 ≤ tf) (hhigh : tf < q.tableT n) :
    ∃ i < n, q.tableT i ≤ tf ∧ tf < q.tableT (i + 1) := by
  induction n with
  | zero => omega
  | succ n ih =>
    by_cases hn : q.tableT n ≤ tf
    · exact ⟨n, Nat.lt_succ_self n, hn, hhigh⟩
    · obtain ⟨i, hi, hseg⟩ := ih (Nat.lt_of_not_le hn)
      exact ⟨i, Nat.lt_succ_of_lt hi, hseg⟩

/-- A later segment begins no lower than an earlier one ends. -/
theorem inSegment_le {q : Recipe} {tf i j : Nat} (hok : q.tableOk = true) (hi : q.inSegment tf i)
    (hj : q.inSegment tf j) : j ≤ i := by
  obtain ⟨-, -, hbelow⟩ := hi
  obtain ⟨hj5, habove, -⟩ := hj
  refine Nat.le_of_not_lt fun hlt => ?_
  have hends : q.tableT (i + 1) ≤ q.tableT j := tableT_mono hok hlt (Nat.le_of_lt hj5)
  exact Nat.lt_irrefl tf (Nat.lt_of_lt_of_le hbelow (Nat.le_trans hends habove))

theorem inSegment_unique {q : Recipe} {tf i j : Nat} (hok : q.tableOk = true) (hi : q.inSegment tf i)
    (hj : q.inSegment tf j) : j = i :=
  Nat.le_antisymm (inSegment_le hok hi hj) (inSegment_le hok hj hi)

/-! ## The line of a segment -/

theorem le_segmentVacuum (q : Recipe) (tf i : Nat) : q.tableV i ≤ segmentVacuum q tf i := Nat.le_add_right _ _

@[simp] theorem segmentVacuum_at_point (q : Recipe) (i : Nat) : segmentVacuum q (q.tableT i) i = q.tableV i := by
  rw [segmentVacuum, Nat.sub_self, Nat.mul_zero, Nat.zero_div, Nat.add_zero]

/-- The part of the segment's length up to `tf` is at most the whole, so its rise is at most the whole rise. -/
theorem segmentVacuum_le {q : Recipe} {tf i : Nat} (hrise : q.tableV i ≤ q.tableV (i + 1))
    (hbelow : tf < q.tableT (i + 1)) : segmentVacuum q tf i ≤ q.tableV (i + 1) := by
  have hpart : tf - q.tableT i ≤ q.tableT (i + 1) - q.tableT i := by omega
  calc segmentVacuum q tf i
      ≤ q.tableV i + (q.tableV (i + 1) - q.tableV i) :=
        Nat.add_le_add_left (Nat.div_le_of_le_mul (Nat.mul_comm _ _ ▸ Nat.mul_le_mul_right _ hpart)) _
    _ = q.tableV (i + 1) := Nat.add_sub_cancel' hrise

/-! ## The attainable vacuum -/

theorem attainableVacuum_at_low {q : Recipe} {tf : Nat} (h : tf ≤ q.tableT 0) : attainableVacuum q tf = q.tableV 0 :=
  if_pos h

theorem attainableVacuum_at_high {q : Recipe} {tf : Nat} (hok : q.tableOk = true) (h : q.tableT 5 ≤ tf) :
    attainableVacuum q tf = q.tableV 5 := by
  have hfirst : q.tableT 0 < q.tableT 1 := tableT_lt_succ hok (by omega)
  have hlast : q.tableT 1 ≤ q.tableT 5 := tableT_mono hok (by omega) (by omega)
  rw [attainableVacuum, if_neg (by omega), if_pos h]

/-- The tests of the upper ends, in their order, stop at the segment that holds the temperature; at T_0 itself the line
of segment 0 begins with V_0. -/
theorem attainableVacuum_in_segment {q : Recipe} {tf i : Nat} (hok : q.tableOk = true) (hseg : q.inSegment tf i) :
    attainableVacuum q tf = segmentVacuum q tf i := by
  have hunique {j : Nat} (hj : q.inSegment tf j) : j = i := inSegment_unique hok hseg hj
  obtain ⟨hi, habove, hbelow⟩ := hseg
  have hfirst : q.tableT 0 ≤ tf := Nat.le_trans (tableT_mono hok (Nat.zero_le i) (Nat.le_of_lt hi)) habove
  have hlast : tf < q.tableT 5 := Nat.lt_of_lt_of_le hbelow (tableT_mono hok hi (Nat.le_refl 5))
  by_cases hpoint : tf ≤ q.tableT 0
  · have hstart : tf = q.tableT 0 := by omega
    have hzero : 0 = i := hunique ⟨by omega, hfirst, hstart ▸ tableT_lt_succ hok (by omega)⟩
    rw [attainableVacuum_at_low hpoint, ← hzero, hstart, segmentVacuum_at_point]
  · rw [attainableVacuum, if_neg hpoint, if_neg (Nat.not_le_of_lt hlast)]
    split
    · next h1 => rw [hunique ⟨by omega, hfirst, h1⟩]
    split
    · next h1 h2 => rw [hunique ⟨by omega, Nat.le_of_not_lt h1, h2⟩]
    split
    · next h2 h3 => rw [hunique ⟨by omega, Nat.le_of_not_lt h2, h3⟩]
    split
    · next h3 h4 => rw [hunique ⟨by omega, Nat.le_of_not_lt h3, h4⟩]
    · next h4 => rw [hunique ⟨by omega, Nat.le_of_not_lt h4, hlast⟩]

theorem attainableVacuum_le_999 {q : Recipe} (tf : Nat) (hok : q.tableOk = true) : attainableVacuum q tf ≤ 999 := by
  by_cases hlow : tf ≤ q.tableT 0
  · exact attainableVacuum_at_low hlow ▸ tableV_le_999 hok (by omega)
  by_cases hhigh : q.tableT 5 ≤ tf
  · exact attainableVacuum_at_high hok hhigh ▸ tableV_le_999 hok (by omega)
  obtain ⟨i, hi, habove, hbelow⟩ := exists_segment_below (Nat.le_of_not_le hlow) (Nat.lt_of_not_le hhigh)
  calc attainableVacuum q tf
      = segmentVacuum q tf i := attainableVacuum_in_segment hok ⟨hi, habove, hbelow⟩
    _ ≤ q.tableV (i + 1) := segmentVacuum_le (tableV_le_succ hok hi) hbelow
    _ ≤ 999 := tableV_le_999 hok (by omega)

/-- Settles O48: below and above the table its end figures stand, and between them the one segment that holds the
temperature gives the floor of its line. -/
theorem attainableVacuumIsInterpolated : Obligations.AttainableVacuumIsInterpolated := by
  intro q tf hok
  refine ⟨attainableVacuum_at_low, attainableVacuum_at_high hok, ?_, ?_, attainableVacuum_le_999 tf hok⟩
  · intro hlow hhigh
    obtain ⟨i, hi, habove, hbelow⟩ := exists_segment_below hlow hhigh
    exact ⟨i, hi, habove, hbelow, fun j hj hjabove hjbelow =>
      inSegment_unique hok ⟨hi, habove, hbelow⟩ ⟨hj, hjabove, hjbelow⟩⟩
  · intro i hi habove hbelow
    have hline : attainableVacuum q tf = segmentVacuum q tf i :=
      attainableVacuum_in_segment hok ⟨hi, habove, hbelow⟩
    refine ⟨Nat.sub_pos_of_lt (tableT_lt_succ hok hi), hline, ?_, ?_, ?_⟩
    · exact hline ▸ le_segmentVacuum q tf i
    · exact hline ▸ segmentVacuum_le (tableV_le_succ hok hi) hbelow
    · intro hpoint
      rw [hline, hpoint, segmentVacuum_at_point]

end Sys2Proof.Machine

/-! What the draw unit and the waiting originators do in the background of an event: the offers of a queue removal, the
arbiter's grants and the withdrawals of a check, as single moves (3.2, 4.6, Chapter 7). Every operation of Draw.lean that
is not asked for by one head comes down to a chain of these moves. -/

namespace Sys2Proof.Machine
open Sys2Proof

/-- One move of the background: bookkeeping of the model, the stage of a waiting announcement, an accepted offer, the
delivery mark of a waiting verdict, a close no longer pending, a grant, or, where `w` allows it, a withdrawal. -/
inductive Move (w : Bool) : State → State → Prop
  | consult (s : State) : Move w s (consulted s)
  | refuse (s : State) (p : PerClass Bool) : Move w s { s with refused := p }
  | position (s : State) (st : AnnounceStage) (hst : st ≠ .listening) (h : s.announce.stage = .waiting) :
      Move w s { s with announce := { s.announce with stage := st } }
  | reannounce (s : State) (p q : Bool) (h : s.announce.rePending = true) :
      Move w s { s with announce := { s.announce with rePending := p, reQueued := q } }
  | offer (s : State) (kind : Kind) (p : List Byte) (hhalt : kind ≠ .halt) (hopen : kind ≠ .drawOpen)
      (h : s.accepts kind p = true) : Move w s (enqueue kind p s)
  | queued (s : State) (k : Fin 4) (n : Nat) (h : (s.slots.get k).record.delivery = .waiting) :
      Move w s (modSlot k (Slot.onRecord (Record.verdictQueued n)) s)
  | waiting (s : State) (k : Fin 4) (h : (s.slots.get k).record.delivery = .waiting) :
      Move w s (modSlot k (Slot.onRecord Record.verdictWaiting) s)
  | closed (s : State) (k : Fin 4) (c : DrawClass) : Move w s (modDraw k (OwnDraw.closePending c false) s)
  | grant (s : State) (k : Fin 4) (a : Ask) (hmode : s.unit.mode.keepsView = true)
      (hask : (s.draws.get k).ask = some a) (hfits : s.fits a.cls a.units = true)
      (h : s.accepts .drawOpen (openPayload k a (s.lifeOf k a)) = true) :
      Move w s (modEngine k Engine.granted (modDraw k (OwnDraw.granted a (s.lifeOf k a))
        (enqueue .drawOpen (openPayload k a (s.lifeOf k a)) s)))
  | withdraw (s : State) (k : Fin 4) (hw : w = true) (hpending : (s.draws.get k).status = .pending)
      (h : s.withdrawable k = true) : Move w s (withdrawDraw k s)

/-! ## Lists -/

/-- A list without repetition whose one element is `x`. -/
theorem eq_singleton_of_nodup {α : Type} {l : List α} {x : α} (hl : l.Nodup) (hx : x ∈ l) (h : ∀ y ∈ l, y = x) :
    l = [x] := by
  cases l with
  | nil => exact absurd hx List.not_mem_nil
  | cons y ys =>
    obtain rfl : y = x := h y List.mem_cons_self
    cases ys with
    | nil => rfl
    | cons z zs =>
      obtain rfl : z = y := h z (List.mem_cons_of_mem _ List.mem_cons_self)
      exact absurd List.mem_cons_self (List.nodup_cons.1 hl).1

/-- Induction from the end of a list. -/
theorem list_reverse_induction {α : Type} {motive : List α → Prop} (nil : motive [])
    (append_singleton : ∀ l x, motive l → motive (l ++ [x])) (l : List α) : motive l := by
  have hreverse (m : List α) : motive m.reverse := by
    induction m with
    | nil => exact nil
    | cons x xs ih =>
      rw [List.reverse_cons]
      exact append_singleton _ x ih
  have hl := hreverse l.reverse
  rwa [List.reverse_reverse] at hl

/-! ## Moves -/

/-- A chain of steps of a relation from `a`, its last step at the end. -/
inductive Chain {α : Type} (r : α → α → Prop) (a : α) : α → Prop
  | refl : Chain r a a
  | tail {b c : α} (h : Chain r a b) (hstep : r b c) : Chain r a c

namespace Chain
variable {α : Type} {r q : α → α → Prop} {a b c : α}

theorem single (h : r a b) : Chain r a b := refl.tail h

theorem trans (h : Chain r a b) (h' : Chain r b c) : Chain r a c := by
  induction h' with
  | refl => exact h
  | tail _ hstep ih => exact ih.tail hstep

theorem mono (hr : ∀ x y, r x y → q x y) (h : Chain r a b) : Chain q a b := by
  induction h with
  | refl => exact refl
  | tail _ hstep ih => exact ih.tail (hr _ _ hstep)

end Chain

/-- A chain of background moves. -/
abbrev Moves (w : Bool) : State → State → Prop := Chain (Move w)

theorem Move.toMoves {w : Bool} {s t : State} (h : Move w s t) : Moves w s t := Chain.single h

theorem Moves.refl {w : Bool} {s : State} : Moves w s s := Chain.refl

theorem Move.withdrawals {s t : State} {w : Bool} (h : Move false s t) : Move w s t := by
  cases h with
  | consult => exact .consult _
  | refuse => exact .refuse _ _
  | position _ hst h => exact .position _ _ hst h
  | reannounce _ _ h => exact .reannounce _ _ _ h
  | offer _ _ hhalt hopen h => exact .offer _ _ _ hhalt hopen h
  | queued _ _ h => exact .queued _ _ _ h
  | waiting _ h => exact .waiting _ _ h
  | closed => exact .closed _ _ _
  | grant _ _ hmode hask hfits h => exact .grant _ _ _ hmode hask hfits h
  | withdraw _ hw => exact absurd hw Bool.false_ne_true

/-- What every move keeps, a chain keeps. -/
theorem Moves.keep {β : Sort _} {w : Bool} {p : State → β} (hp : ∀ s t, Move w s t → p t = p s) {s t : State}
    (h : Moves w s t) : p t = p s := by
  induction h with
  | refl => rfl
  | tail _ hmove ih => exact (hp _ _ hmove).trans ih

/-- What every move preserves, a chain preserves. -/
theorem Moves.preserve {w : Bool} {p : State → Prop} (hp : ∀ s t, Move w s t → p s → p t) {s t : State}
    (h : Moves w s t) (hs : p s) : p t := by
  induction h with
  | refl => exact hs
  | tail _ hmove ih => exact hp _ _ hmove ih

/-- A fold of background work is background work. -/
theorem Moves.foldl {α : Type} {w : Bool} {f : State → α → State} (hf : ∀ s a, Moves w s (f s a)) (l : List α)
    (s : State) : Moves w s (l.foldl f s) := by
  induction l generalizing s with
  | nil => exact .refl
  | cons a l ih => exact (hf s a).trans (ih (f s a))

/-! ## Offers and the arbiter -/

theorem moves_offerPosition {w : Bool} (s : State) (hwaits : s.announce.stage = .waiting) :
    Moves w s (offerPosition s) := by
  unfold offerPosition
  split
  · next h => exact (Move.offer s .position _ (by decide) (by decide) h).toMoves.tail (.position _ _ (by decide) hwaits)
  · exact (Move.position s _ (by decide) hwaits).toMoves

theorem moves_offerReannouncement {w : Bool} (s : State) (hwaits : s.announce.rePending = true) :
    Moves w s (offerReannouncement s) := by
  unfold offerReannouncement
  split
  · next h => exact (Move.offer s .position _ (by decide) (by decide) h).toMoves.tail (.reannounce _ _ _ hwaits)
  · exact (Move.reannounce s true s.announce.reQueued hwaits).toMoves

/-- A waiting verdict offered again. -/
theorem moves_offerVerdict {w : Bool} (s : State) (k : Fin 4) (hwaits : (s.slots.get k).record.delivery = .waiting) :
    Moves w s (offerVerdict k s) := by
  unfold offerVerdict
  split
  · next h => exact (Move.offer s .verdict _ (by decide) (by decide) h).toMoves.tail (.queued _ k _ hwaits)
  · exact (Move.waiting s k hwaits).toMoves

theorem moves_retryClose {w : Bool} (k : Fin 4) (c : DrawClass) (s : State) : Moves w s (retryClose k c s) := by
  unfold retryClose
  split
  · next h => exact (Move.offer s .drawClose _ (by decide) (by decide) h).toMoves.tail (.closed _ k c)
  · exact .refl

theorem moves_grantOne {w : Bool} (s : State) (k : Fin 4) (hmode : s.unit.mode.keepsView = true) :
    Moves w s (grantOne s k) := by
  unfold grantOne
  split
  · exact .refl
  · next a hask =>
    split
    · next hfits =>
      split
      · next h => exact (Move.grant s k a hmode hask hfits h).toMoves
      · exact (Move.refuse s _).toMoves
    · exact .refl

theorem moves_arbiter {w : Bool} (c : DrawClass) (s : State) : Moves w s (arbiter c s) := by
  unfold arbiter
  split
  · next hmode =>
    generalize s.arbiterOrder c = l
    induction l generalizing s with
    | nil => exact .refl
    | cons k l ih =>
      have hunit : (grantOne s k).unit = s.unit := (State.still_fields (still_grantOne s k)).2.1
      exact (moves_grantOne s k hmode).trans (ih (grantOne s k) (hunit ▸ hmode))
  · exact .refl

/-- Background work of the classes, in whatever order they come. -/
theorem moves_forClasses {w : Bool} {f : DrawClass → State → State} (hf : ∀ c s, Moves w s (f c s))
    (acts : DrawClass → Bool) (s : State) : Moves w s (forClasses acts f s) :=
  (Move.consult s).toMoves.trans (Moves.foldl (fun s c => hf c s) _ _)

theorem moves_bothArbiters {w : Bool} (s : State) : Moves w s (bothArbiters s) :=
  moves_forClasses moves_arbiter _ s

theorem moves_retryGrants {w : Bool} (s : State) : Moves w s (retryGrants s) :=
  (Move.refuse s _).toMoves.trans (moves_forClasses moves_arbiter _ _)

theorem moves_offerAgain {w : Bool} (s : State) (o : Originator) : Moves w s (offerAgain s o) := by
  unfold offerAgain
  split
  · next hwaits =>
    cases o with
    | position =>
      refine moves_offerPosition s ?_
      simp only [State.waits, Bool.and_eq_true, decide_eq_true_eq] at hwaits
      exact hwaits.2
    | reannounce =>
      refine moves_offerReannouncement s ?_
      simp only [State.waits, Bool.and_eq_true] at hwaits
      exact hwaits.2
    | verdict k => exact moves_offerVerdict s k (by simpa [State.waits] using hwaits)
    | close k c => exact moves_retryClose k c s
    | grants => exact moves_retryGrants s
  · exact .refl

theorem moves_queueRemoval {w : Bool} (s : State) : Moves w s (queueRemoval s) :=
  (Move.consult s).toMoves.trans (Moves.foldl moves_offerAgain _ _)

theorem moves_queueRemovals {w : Bool} (n : Nat) (s : State) : Moves w s (queueRemovals n s) := by
  induction n generalizing s with
  | zero => exact .refl
  | succ n ih => exact (moves_queueRemoval s).trans (ih (queueRemoval s))

/-! ## Withdrawals and doubt -/

theorem withdrawDraw_draws_other {j k : Fin 4} (s : State) (h : j ≠ k) :
    (withdrawDraw k s).draws.get j = s.draws.get j := Four.get_modify_other _ _ h

/-- The check's turns, each at a draw that is PENDING: a withdrawal touches no other head's draw. -/
theorem moves_withdrawOnes (c : DrawClass) (l : List (Fin 4)) (hl : l.Nodup) (s : State)
    (h : ∀ k ∈ l, (s.draws.get k).status = .pending) : Moves true s (l.foldl (withdrawOne c) s) := by
  induction l generalizing s with
  | nil => exact .refl
  | cons k l ih =>
    obtain ⟨hk, hl⟩ := List.nodup_cons.1 hl
    rw [List.foldl_cons]
    unfold withdrawOne
    split
    · next hact =>
      rw [Bool.and_eq_true] at hact
      refine (Move.withdraw s k rfl (h k List.mem_cons_self) hact.2).toMoves.trans (ih hl _ fun j hj => ?_)
      have hjk : j ≠ k := fun e => hk (e ▸ hj)
      rw [withdrawDraw_draws_other s hjk]
      exact h j (List.mem_cons_of_mem k hj)
    · exact ih hl s fun j hj => h j (List.mem_cons_of_mem k hj)

theorem mem_withdrawalOrder {s : State} {c : DrawClass} {k : Fin 4} : k ∈ s.withdrawalOrder c
    ↔ (s.draws.get k).status = .pending ∧ (s.draws.get k).terms.map Ask.cls = some c := by
  have hall : k ∈ headIndexes := by revert k; decide
  unfold State.withdrawalOrder
  rw [(sortBy_perm _ _).mem_iff]
  simp [hall]

theorem nodup_withdrawalOrder (s : State) (c : DrawClass) : (s.withdrawalOrder c).Nodup :=
  (sortBy_perm _ _).nodup_iff.2 (List.Pairwise.filter _ (by decide))

theorem moves_withdrawals (c : DrawClass) (s : State) : Moves true s (withdrawals c s) :=
  moves_withdrawOnes c _ (nodup_withdrawalOrder s c) s fun _ hk => (mem_withdrawalOrder.1 hk).1

theorem moves_withdrawalCheck (c : DrawClass) (s : State) : Moves true s (withdrawalCheck c s) :=
  (moves_withdrawals c s).trans (moves_queueRemovals _ _)

theorem moves_bothChecks (s : State) : Moves true s (bothChecks s) := moves_forClasses moves_withdrawalCheck _ s

theorem moves_checkAndRun (c : DrawClass) (s : State) : Moves true s (checkAndRun c s) :=
  (moves_withdrawalCheck c s).trans (moves_arbiter c _)

/-- Doubt begins: its two fields change, and background work follows. -/
theorem moves_doubtBegins (s : State) : ∃ v : View, v.entries = s.view.entries
    ∧ Moves true { s with view := v } (doubtBegins s) := by
  unfold doubtBegins
  split
  · dsimp only
    split
    · exact ⟨{ s.view with doubt := true, clean := 0 }, rfl, .refl⟩
    · exact ⟨{ s.view with doubt := true, clean := 0 }, rfl, (moves_bothChecks _).trans (moves_bothArbiters _)⟩
  · exact ⟨s.view, rfl, .refl⟩

end Sys2Proof.Machine

/-! What an operation on one head may do: the background moves, changes of the head's own blocks, and its own DRAW-OPEN
put into the queue or cancelled. Every operation of Closure.lean on a head is a chain of such acts, so that the other
heads and the queue are told once. -/

namespace Sys2Proof.Machine
open Sys2Proof

/-- A change of head `k`'s blocks, or the end of its forced run, and of nothing else: the pocket number stays (R66), the
held-back condition is the tracker's, and OVERCURRENT leaves a channel at a binding alone, in RUN (R128). -/
structure OwnChange (k : Fin 4) (s t : State) : Prop where
  still    : t.still = s.still
  transmit : t.transmit = s.transmit
  announce : t.announce = s.announce
  service  : t.service = s.service
    ∨ (∃ o, s.forces k o = true) ∧ t.service = { s.service with forced := none }
  tracks   : ∀ j, j ≠ k → t.tracks.get j = s.tracks.get j
  engines  : ∀ j, j ≠ k → t.engines.get j = s.engines.get j
  slots    : ∀ j, j ≠ k → t.slots.get j = s.slots.get j
  channels : ∀ j, j ≠ k → t.channels.get j = s.channels.get j
  draws    : ∀ j, j ≠ k → t.draws.get j = s.draws.get j
  heldBack : (t.tracks.get k).heldBack = (s.tracks.get k).heldBack
  pocket   : (t.slots.get k).pocket = (s.slots.get k).pocket
  latched  : s.unit.mode ≠ .run → (s.channels.get k).causes.overcurrent = true →
    (t.channels.get k).causes.overcurrent = true

/-- One act of an operation on head `k`. -/
inductive Act (k : Fin 4) : State → State → Prop
  | background {s t : State} (h : Move true s t) : Act k s t
  | own {s t : State} (h : OwnChange k s t) : Act k s t
  | announce (s : State) (a : Ask) (life : Nat) (h : s.accepts .drawOpen (openPayload k a life) = true) :
      Act k s (enqueue .drawOpen (openPayload k a life) s)
  | cancel (s : State) (h : s.withdrawable k = true) : Act k s (removeDrawOpen k s)

/-- A chain of acts on head `k`. -/
abbrev Acts (k : Fin 4) : State → State → Prop := Chain (Act k)

theorem Acts.refl {k : Fin 4} {s : State} : Acts k s s := Chain.refl

theorem Moves.acts {k : Fin 4} {w : Bool} {s t : State} (h : Moves w s t) : Acts k s t :=
  Chain.mono (fun _ _ hmove => Act.background (by
    cases w with
    | false => exact hmove.withdrawals
    | true => exact hmove)) h

theorem OwnChange.acts {k : Fin 4} {s t : State} (h : OwnChange k s t) : Acts k s t :=
  Chain.single (.own h)

section
variable {k : Fin 4} {s t : State}

/-! ## Changes of one block -/

theorem OwnChange.engine (f : Engine → Engine) (t : State) : OwnChange k t (modEngine k f t) :=
  ⟨rfl, rfl, rfl, .inl rfl, fun _ _ => rfl, fun _ h => Four.get_modify_other _ _ h, fun _ _ => rfl, fun _ _ => rfl,
    fun _ _ => rfl, rfl, rfl, fun _ h => h⟩

theorem OwnChange.slot (f : Slot → Slot) (hf : ∀ x, (f x).pocket = x.pocket) (t : State) :
    OwnChange k t (modSlot k f t) :=
  ⟨rfl, rfl, rfl, .inl rfl, fun _ _ => rfl, fun _ _ => rfl, fun _ h => Four.get_modify_other _ _ h, fun _ _ => rfl,
    fun _ _ => rfl, rfl, by rw [modSlot_slots, Four.get_modify_same, hf], fun _ h => h⟩

theorem OwnChange.channel (f : Channel → Channel) (t : State) (hf : t.unit.mode ≠ .run → ∀ x : Channel,
    x.causes.overcurrent = true → (f x).causes.overcurrent = true) : OwnChange k t (modChannel k f t) :=
  ⟨rfl, rfl, rfl, .inl rfl, fun _ _ => rfl, fun _ _ => rfl, fun _ _ => rfl, fun _ h => Four.get_modify_other _ _ h,
    fun _ _ => rfl, rfl, rfl, fun hmode h => by rw [modChannel_channels, Four.get_modify_same]; exact hf hmode _ h⟩

theorem OwnChange.draw (f : OwnDraw → OwnDraw) (t : State) : OwnChange k t (modDraw k f t) :=
  ⟨rfl, rfl, rfl, .inl rfl, fun _ _ => rfl, fun _ _ => rfl, fun _ _ => rfl, fun _ _ => rfl,
    fun _ h => Four.get_modify_other _ _ h, rfl, rfl, fun _ h => h⟩

theorem OwnChange.marks (f : Marks → Marks) (t : State) :
    OwnChange k t (modTrack k (fun x => { x with marks := f x.marks }) t) :=
  ⟨rfl, rfl, rfl, .inl rfl, fun _ h => Four.get_modify_other _ _ h, fun _ _ => rfl, fun _ _ => rfl, fun _ _ => rfl,
    fun _ _ => rfl, by rw [modTrack_tracks, Four.get_modify_same], rfl, fun _ h => h⟩

theorem OwnChange.unforced (t : State) {o : Output} (h : t.forces k o = true) :
    OwnChange k t { t with service := { t.service with forced := none } } :=
  ⟨rfl, rfl, rfl, .inr ⟨⟨o, h⟩, rfl⟩, fun _ _ => rfl, fun _ _ => rfl, fun _ _ => rfl, fun _ _ => rfl, fun _ _ => rfl, rfl, rfl,
    fun _ h => h⟩

/-! ## OVERCURRENT kept (R127, R130, R131) -/

theorem Causes.overcurrent_add {c : Causes} (cause : TripCause) (h : c.overcurrent = true) :
    (c.add cause).overcurrent = true := by
  cases cause
  · rfl
  · exact h
  · exact h

theorem Channel.latched_tripOrAdd (cause : TripCause) (x : Channel) (h : x.causes.overcurrent = true) :
    (x.tripOrAdd cause).causes.overcurrent = true := by
  rw [(Channel.tripOrAdd_fields cause x).2]
  exact Causes.overcurrent_add cause h

theorem Channel.latched_startPhase (r : Recipe) (ceiling : Nat) (x : Channel) (h : x.causes.overcurrent = true) :
    (x.startPhase r ceiling).causes.overcurrent = true := by
  unfold Channel.startPhase
  dsimp only
  split <;> exact h

theorem Channel.latched_endForced (x : Channel) (h : x.causes.overcurrent = true) :
    x.endForced.causes.overcurrent = true := by
  unfold Channel.endForced
  split <;> exact h

/-! ## Chains, one more operation at a time -/

theorem Acts.engine (f : Engine → Engine) (h : Acts k s t) : Acts k s (modEngine k f t) := h.tail (.own (.engine f t))

theorem Acts.slot (f : Slot → Slot) (hf : ∀ x, (f x).pocket = x.pocket) (h : Acts k s t) : Acts k s (modSlot k f t) :=
  h.tail (.own (.slot f hf t))

theorem Acts.channel (f : Channel → Channel) (hf : ∀ x : Channel, x.causes.overcurrent = true →
    (f x).causes.overcurrent = true) (h : Acts k s t) : Acts k s (modChannel k f t) :=
  h.tail (.own (.channel f t fun _ => hf))

theorem Acts.draw (f : OwnDraw → OwnDraw) (h : Acts k s t) : Acts k s (modDraw k f t) := h.tail (.own (.draw f t))

theorem Acts.marks (f : Marks → Marks) (h : Acts k s t) :
    Acts k s (modTrack k (fun x => { x with marks := f x.marks }) t) := h.tail (.own (.marks f t))

theorem Acts.record (f : Record → Record) (h : Acts k s t) : Acts k s (writeRecord k f t) :=
  h.slot _ (Slot.write_pocket _)

theorem Acts.reason (r : Reason) (h : Acts k s t) : Acts k s (addReason k r t) :=
  h.slot _ (Slot.write_pocket _)

theorem Acts.mark (x : Threshold) (h : Acts k s t) : Acts k s (markReached k x t) := h.marks fun m => m.set x

theorem Acts.arbiter (c : DrawClass) (h : Acts k s t) : Acts k s (arbiter c t) :=
  h.trans (Moves.acts (@moves_arbiter true c t))

theorem Acts.queueRemoval (h : Acts k s t) : Acts k s (queueRemoval t) :=
  h.trans (Moves.acts (@moves_queueRemoval true t))

theorem Acts.checkAndRun (c : DrawClass) (h : Acts k s t) : Acts k s (checkAndRun c t) :=
  h.trans (moves_checkAndRun c t).acts

theorem Acts.cancel (h : Acts k s t) (hw : t.withdrawable k = true) : Acts k s (removeDrawOpen k t) :=
  h.tail (.cancel t hw)

/-! ## The operations of Draw.lean that a head calls for -/

theorem Acts.offer {kind : Kind} {p : List Byte} (h : Acts k s t) (hhalt : kind ≠ .halt) (hopen : kind ≠ .drawOpen)
    (ha : t.accepts kind p = true) : Acts k s (enqueue kind p t) :=
  h.tail (.background (.offer t kind p hhalt hopen ha))

theorem Acts.offerVerdict (h : Acts k s t) : Acts k s (offerVerdict k t) := by
  unfold Machine.offerVerdict
  split
  · next ha => exact (h.offer (by decide) (by decide) ha).slot _ fun _ => rfl
  · exact h.slot _ fun _ => rfl

theorem Acts.offerVerdictOnce (h : Acts k s t) : Acts k s (offerVerdictOnce k t) := by
  unfold Machine.offerVerdictOnce
  split
  · next ha => exact (h.offer (by decide) (by decide) ha).slot _ fun _ => rfl
  · exact h

theorem Acts.offerClose (c : DrawClass) (h : Acts k s t) : Acts k s (offerClose k c t) := by
  unfold Machine.offerClose
  split
  · next ha => exact h.offer (by decide) (by decide) ha
  split
  · exact h
  · exact h.draw _

theorem Acts.takeAsk (c : DrawClass) (h : Acts k s t) : Acts k s (takeAsk k c t) := by
  unfold Machine.takeAsk
  split
  · exact (h.draw _).arbiter c
  · exact h

theorem Acts.closeDraw (h : Acts k s t) : Acts k s (closeDraw k t) := by
  unfold Machine.closeDraw
  split
  · exact h
  split
  · split
    · exact (h.draw _).arbiter _
    · exact ((h.draw _).offerClose _).arbiter _
    · split
      · next hw => exact ((h.cancel hw).draw _).queueRemoval.arbiter _
      · exact ((h.draw _).offerClose _).arbiter _
  · exact h

theorem Acts.endAsk (h : Acts k s t) : Acts k s (endAsk k t) := by
  unfold Machine.endAsk
  split
  · split
    · next hw => exact ((h.cancel hw).draw _).queueRemoval.arbiter _
    · exact ((h.draw _).offerClose _).arbiter _
  · exact h.draw _

/-! ## The slot and the release -/

theorem Acts.settleJar (v : Verdict) (r : Reasons) (h : Acts k s t) : Acts k s (settleJar k v r t) :=
  (h.slot (Slot.settle v r) fun _ => rfl).offerVerdict

theorem Acts.bindJar (n : Nat) (hrun : t.unit.mode = .run) (h : Acts k s t) : Acts k s (bindJar k n t) :=
  (((h.slot (Slot.bind (t.recipe n)) fun _ => rfl).marks Marks.withoutRecipe).engine (Engine.bind n)).tail
    (.own (.channel (Channel.rearm (t.pins.heads.get k).oc) _ fun hmode => absurd hrun hmode))

theorem Acts.decideJar (hrun : t.unit.mode = .run) (h : Acts k s t) : Acts k s (decideJar k t) := by
  unfold Machine.decideJar
  split
  · exact h.settleJar _ _
  · exact h.settleJar _ _
  split
  · split
    · split
      · exact h.settleJar _ _
      · exact h.bindJar _ hrun
    · exact h.settleJar _ _
  · exact h.settleJar _ _
  · exact h.settleJar _ _

theorem Acts.supplyDefaults (h : Acts k s t) : Acts k s (supplyDefaults k t) := h.slot _ fun _ => rfl

theorem Acts.slotIntakeClose (h : Acts k s t) : Acts k s (slotIntakeClose k t) := by
  unfold Machine.slotIntakeClose
  split
  · split
    · next hrun => exact h.supplyDefaults.decideJar hrun
    · exact h.supplyDefaults.settleJar _ _
    · exact h.supplyDefaults.settleJar _ _
    all_goals exact h
  · exact h

theorem Acts.slotDischarge (h : Acts k s t) : Acts k s (slotDischarge k t) := by
  unfold Machine.slotDischarge
  split
  · split
    · exact h.slot _ fun _ => rfl
    · exact h.slot _ fun _ => rfl
  · exact h

theorem Acts.slotEntry (h : Acts k s t) : Acts k s (slotEntry t k) := by
  unfold Machine.slotEntry
  split
  · exact h.slot _ fun _ => rfl
  · exact h

theorem Slot.judge_pocket (rc : Recipe) (x : Slot) : (Slot.judge rc x).pocket = x.pocket := by
  simp [Slot.judge]

theorem Acts.releaseSlot (h : Acts k s t) : Acts k s (releaseSlot k t) := by
  unfold Machine.releaseSlot
  dsimp only
  split
  · split
    · exact (h.slot _ (Slot.judge_pocket _)).offerVerdictOnce.slot _ fun _ => rfl
    · exact (h.slot _ (Slot.judge_pocket _)).offerVerdictOnce
  · exact (h.slot _ (Slot.judge_pocket _)).offerVerdict

theorem Acts.release (h : Acts k s t) : Acts k s (release k t) :=
  ((h.engine _).releaseSlot.marks Marks.withoutRecipe).engine _

theorem Acts.toDwell (h : Acts k s t) : Acts k s (toDwell k t) := by
  unfold Machine.toDwell
  split
  · exact (h.engine _).release
  · exact h.engine _

/-! ## The torque phase, trips and forced runs -/

theorem Acts.torqueEnded (out : Bool) (h : Acts k s t) : Acts k s (torqueEnded k out t) := by
  unfold Machine.torqueEnded
  split
  · exact (h.closeDraw.engine _).toDwell
  · exact h

theorem Acts.endPhase (kind : TorqueEnd) (out : Bool) (f : Channel → Channel)
    (hf : ∀ x : Channel, x.causes.overcurrent = true → (f x).causes.overcurrent = true) (h : Acts k s t) :
    Acts k s (endPhase k kind out f t) := ((h.record _).channel f hf).torqueEnded out

theorem Acts.endBeforeStart (kind : TorqueEnd) (h : Acts k s t) : Acts k s (endBeforeStart k kind t) := h.record _

theorem State.forces_drive (s : State) (k : Fin 4) : s.forcedDrive k = s.forces k .drive := rfl

theorem Acts.clearForcedDrive (h : Acts k s t) : Acts k s (clearForcedDrive k t) := by
  unfold Machine.clearForcedDrive
  split
  · next hforced => exact h.tail (.own (.unforced t (State.forces_drive t k ▸ hforced)))
  · exact h

theorem Acts.tripOvercurrent (h : Acts k s t) : Acts k s (tripOvercurrent k t) := by
  unfold Machine.tripOvercurrent
  split
  · split
    · exact h.clearForcedDrive.endPhase _ _ _ fun _ _ => rfl
    · split
      · exact (h.clearForcedDrive.channel _ fun _ _ => rfl).engine _
      · exact h.clearForcedDrive.channel _ fun _ _ => rfl
  · exact h

theorem Acts.tripHalt (cause : TripCause) (h : Acts k s t) : Acts k s (tripHalt cause t k) := by
  unfold Machine.tripHalt
  split
  · exact h.clearForcedDrive.endPhase _ _ _ fun _ => Causes.overcurrent_add cause
  · exact h.clearForcedDrive.channel _ (Channel.latched_tripOrAdd cause)

theorem Acts.watchComparator (h : Acts k s t) : Acts k s (watchComparator k t) := by
  unfold Machine.watchComparator
  split
  · exact h.tripOvercurrent
  · exact h

/-! ## Phases and reports -/

theorem Acts.endFlush (kind : FlushEnd) (h : Acts k s t) : Acts k s (endFlush k kind t) :=
  ((h.engine _).record _).closeDraw.engine _

theorem Acts.enterFlush (h : Acts k s t) : Acts k s (enterFlush k t) := by
  unfold Machine.enterFlush
  dsimp only
  split
  · exact (h.engine _).endFlush _
  split
  · exact (h.engine _).endFlush _
  · exact (h.engine _).engine _

theorem Acts.enterTorque (h : Acts k s t) : Acts k s (enterTorque k t) := by
  unfold Machine.enterTorque
  dsimp only
  split
  · exact ((h.engine _).endBeforeStart _).torqueEnded _
  · exact ((h.engine _).channel _ (Channel.latched_startPhase _ _)).watchComparator

theorem Acts.headOpens (c : DrawClass) (h : Acts k s t) : Acts k s (headOpens k c t) := by
  unfold Machine.headOpens
  split
  · exact h.enterFlush
  · exact h.enterFlush
  · exact h.enterTorque
  · exact h.enterTorque
  · exact h

theorem Acts.openSent (c : DrawClass) (h : Acts k s t) : Acts k s (openSent k c t) := by
  unfold Machine.openSent
  split
  · split
    · exact ((h.draw _).headOpens c).arbiter c
    · exact h.draw _
    · exact h
    · exact h
  · exact h

theorem Acts.openWaiting (a : Ask) (h : Acts k s t) : Acts k s (openWaiting k a t) := by
  unfold Machine.openWaiting
  split
  · next ha => exact Acts.draw _ (h.tail (.announce t a _ ha))
  · exact h.draw _

theorem Acts.forceOpen (c : DrawClass) (h : Acts k s t) : Acts k s (forceOpen k c t) := by
  unfold Machine.forceOpen
  dsimp only
  split
  · exact (((h.draw _).record _).headOpens c).checkAndRun c
  · exact (((h.openWaiting _).record _).headOpens c).checkAndRun c

theorem Acts.beginAsk (h : Acts k s t) : Acts k s (beginAsk k t) := by
  unfold Machine.beginAsk
  split
  · exact h
  · exact (h.engine _).takeAsk _

theorem Acts.decideDrive (h : Acts k s t) : Acts k s (decideDrive k t) := by
  unfold Machine.decideDrive
  split
  · exact (h.endBeforeStart _).toDwell
  split
  · exact (h.endBeforeStart _).toDwell
  dsimp only
  split
  · exact (h.engine _).forceOpen _
  · exact (h.engine _).takeAsk _

theorem Acts.capCheck (h : Acts k s t) : Acts k s (capCheck k t) := by
  unfold Machine.capCheck
  split
  · dsimp only
    split
    · exact ((h.record _).engine _).beginAsk
    · exact (h.record _).engine _
  · exact ((h.record _).reason _).toDwell

theorem Acts.headThreshold (x : Threshold) (h : Acts k s t) : Acts k s (headThreshold k x t) := by
  unfold Machine.headThreshold
  split
  · exact h.capCheck
  · exact h.beginAsk
  · exact h.forceOpen _
  · exact h.forceOpen _
  · exact h.endFlush _
  · exact h.forceOpen _
  · exact h.forceOpen _
  · exact h.endPhase _ _ _ fun _ h => h
  · exact h.release
  · exact h

theorem Acts.report (x : Threshold) (h : Acts k s t) : Acts k s (report k x t) := by
  cases x with
  | intakeClose => exact (h.mark _).slotIntakeClose
  | discharge => exact (h.mark _).slotDischarge
  | cap | fe | fl | fx | dl | rel => exact (h.mark _).headThreshold _

theorem Acts.reportDue (limit : Option Nat) (n : Nat) (h : Acts k s t) : Acts k s (reportDue k limit n t) := by
  induction n generalizing t with
  | zero => exact h
  | succ n ih =>
    unfold Machine.reportDue
    split
    · exact h
    · exact ih (h.report _)

theorem Acts.reportRise (h : Acts k s t) : Acts k s (reportRise k t) := h.reportDue _ _

theorem Acts.newPass (h : Acts k s t) : Acts k s (newPass k t) := ((h.reportDue _ _).marks Marks.newPass).reportRise

theorem Acts.safeEngine (h : Acts k s t) : Acts k s (safeEngine k t) := by
  have hreasoned := (h.engine fun x => { x with steam := false, asking := false }).reason .halted
  unfold Machine.safeEngine
  dsimp only
  split
  · exact h
  · exact h
  · exact hreasoned.toDwell
  · exact hreasoned.toDwell
  · exact (hreasoned.endAsk.record _).toDwell
  · exact (hreasoned.endAsk.record _).toDwell
  · exact (hreasoned.record _).closeDraw.toDwell
  · exact (hreasoned.endAsk.record _).toDwell
  · exact (hreasoned.endAsk.record _).toDwell
  · exact hreasoned
  · exact hreasoned

theorem Acts.safeHead (h : Acts k s t) : Acts k s (safeHead t k) := h.safeEngine.tripHalt _

end

/-- The end of a forced run changes the blocks of its head alone. -/
theorem endForcedRun_acts (s : State) : ∃ k, Acts k s (endForcedRun s) := by
  unfold endForcedRun
  split
  · exact ⟨0, .refl⟩
  · next r hr =>
    have hforces : s.forces r.head r.output = true := by simp [State.forces, hr]
    have hended : Acts r.head s { s with service := { s.service with forced := none } } :=
      (OwnChange.unforced s hforces).acts
    dsimp only
    split
    · exact ⟨r.head, hended.engine _⟩
    · exact ⟨r.head, hended.engine _⟩
    · exact ⟨r.head, hended.channel _ Channel.latched_endForced⟩

end Sys2Proof.Machine

/-! What every act keeps: the still part, the laws of the transmit queue and the silence of a silenced station (R35, R40). -/

namespace Sys2Proof.Machine
open Sys2Proof

theorem Move.still {w : Bool} {s t : State} (h : Move w s t) : t.still = s.still := by
  cases h <;> rfl

theorem Act.still {k : Fin 4} {s t : State} (h : Act k s t) : t.still = s.still := by
  cases h with
  | background h => exact h.still
  | own h => exact h.still
  | announce => rfl
  | cancel => rfl

theorem Moves.still {w : Bool} {s t : State} (h : Moves w s t) : t.still = s.still :=
  h.keep fun _ _ hmove => hmove.still

theorem Acts.still {k : Fin 4} {s t : State} (h : Acts k s t) : t.still = s.still := by
  induction h with
  | refl => rfl
  | tail _ hact ih => exact hact.still.trans ih

/-- What every act preserves, a chain preserves. -/
theorem Acts.preserve {k : Fin 4} {p : State → Prop} (hp : ∀ s t, Act k s t → p s → p t) {s t : State}
    (h : Acts k s t) (hs : p s) : p t := by
  induction h with
  | refl => exact hs
  | tail _ hact ih => exact hp _ _ hact ih

/-! ## The transmit side of one act -/

/-- What an act does to the transmit side: nothing, an accepted offer that is no HALT at the tail, or the DRAW-OPEN of a
head out of the normal part. -/
inductive QueueMove (s t : State) : Prop
  | same (h : t.transmit = s.transmit)
  | offer (kind : Kind) (p : List Byte) (hhalt : kind ≠ .halt) (ha : s.accepts kind p = true)
      (h : t.transmit = (enqueue kind p s).transmit)
  | cancel (k : Fin 4) (hw : s.withdrawable k = true) (h : t.transmit = (removeDrawOpen k s).transmit)

theorem Move.queue {w : Bool} {s t : State} (h : Move w s t) : QueueMove s t := by
  cases h with
  | consult | refuse | position | reannounce | queued | waiting | closed => exact .same rfl
  | offer kind p hhalt _ h => exact .offer kind p hhalt h rfl
  | grant k a _ _ _ h => exact .offer .drawOpen _ (by decide) h rfl
  | withdraw k _ _ h => exact .cancel k h rfl

theorem Act.queue {k : Fin 4} {s t : State} (h : Act k s t) : QueueMove s t := by
  cases h with
  | background h => exact h.queue
  | own h => exact .same h.transmit
  | announce a life h => exact .offer .drawOpen _ (by decide) h rfl
  | cancel h => exact .cancel k h rfl

/-! ## The laws of the transmit queue (R40) -/

theorem Transmit.lawful_iff (t : Transmit) : t.lawful = true ↔ t.normalCount ≤ normalBound
    ∧ (t.normal.filterMap TxFrame.opensHead).Nodup ∧ (∀ f ∈ t.normal, f.frame.kind ≠ .halt)
    ∧ (∀ f, t.slot = some f → f.kind = .halt) ∧ t.onLine.lawful = true := by
  simp only [Transmit.lawful, Bool.and_eq_true, decide_eq_true_eq, List.all_eq_true, Option.all_eq_true]
  constructor
  · rintro ⟨⟨⟨⟨hcount, hopens⟩, hnormal⟩, hslot⟩, hline⟩
    exact ⟨hcount, hopens, hnormal, hslot, hline⟩
  · rintro ⟨hcount, hopens, hnormal, hslot, hline⟩
    exact ⟨⟨⟨⟨hcount, hopens⟩, hnormal⟩, hslot⟩, hline⟩

theorem TxFrame.opensHead_eq_some {x : TxFrame} {n : Nat} :
    x.opensHead = some n ↔ x.frame.kind = .drawOpen ∧ u8 x.frame.payload 0 = n := by
  unfold TxFrame.opensHead
  split <;> simp_all

theorem normalCount_of_onLine (t u : Transmit) (h : u.onLine = t.onLine) :
    u.normalCount + t.normal.length = t.normalCount + u.normal.length := by
  unfold Transmit.normalCount
  rw [h]
  split <;> omega

/-- The normal part with fewer frames, in any order, is lawful. -/
theorem Transmit.lawful_subperm {t u : Transmit} (h : t.lawful = true) (hnormal : u.normal.Sublist t.normal)
    (hslot : u.slot = t.slot) (hline : u.onLine = t.onLine) : u.lawful = true := by
  rw [Transmit.lawful_iff] at h ⊢
  obtain ⟨hcount, hopens, hkinds, hhalt, hsending⟩ := h
  have hlength := hnormal.length_le
  have hcounts := normalCount_of_onLine t u hline
  exact ⟨by omega, (hnormal.filterMap _).nodup hopens, fun f hf => hkinds f (hnormal.subset hf), hslot ▸ hhalt,
    hline ▸ hsending⟩

/-- An accepted offer keeps the bound and doubles no DRAW-OPEN. -/
theorem enqueue_lawful {s : State} {kind : Kind} {p : List Byte} (hhalt : kind ≠ .halt)
    (ha : s.accepts kind p = true) (h : s.transmit.lawful = true) : (enqueue kind p s).transmit.lawful = true := by
  obtain ⟨-, -, hroom, hnodup⟩ := (accepts_iff s kind p).1 ha
  rw [Transmit.lawful_iff] at h ⊢
  obtain ⟨-, hopens, hkinds, hslot, hsending⟩ := h
  have hcounts := normalCount_of_onLine s.transmit (enqueue kind p s).transmit rfl
  rw [enqueue_normal, List.length_append, List.length_singleton] at hcounts
  refine ⟨by omega, ?_, ?_, hslot, hsending⟩
  · rw [enqueue_normal, List.filterMap_append]
    refine List.nodup_append.2 ⟨hopens, ?_, ?_⟩
    · unfold List.filterMap
      split <;> simp
    · intro n hn m hm hnm
      obtain ⟨x, hx, hxn⟩ := List.mem_filterMap.1 hn
      obtain ⟨y, hy, hym⟩ := List.mem_filterMap.1 hm
      rw [List.mem_singleton] at hy
      rw [TxFrame.opensHead_eq_some] at hxn hym
      subst hy
      exact hnodup hym.1 x hx hxn.1 (by rw [hxn.2, hnm]; exact hym.2.symm)
  · rw [enqueue_normal]
    intro f hf
    rcases List.mem_append.1 hf with hold | hnew
    · exact hkinds f hold
    · rw [List.mem_singleton.1 hnew]
      exact hhalt

theorem QueueMove.lawful {s t : State} (h : QueueMove s t) (hs : s.transmit.lawful = true) :
    t.transmit.lawful = true := by
  cases h with
  | same h => rwa [h]
  | offer kind p hhalt ha h =>
    rw [h]
    exact enqueue_lawful hhalt ha hs
  | cancel k _ h =>
    rw [h]
    exact Transmit.lawful_subperm hs List.filter_sublist rfl rfl

theorem Acts.lawful {k : Fin 4} {s t : State} (h : Acts k s t) (hs : s.transmit.lawful = true) :
    t.transmit.lawful = true := h.preserve (fun _ _ hact => hact.queue.lawful) hs

theorem Moves.lawful {w : Bool} {s t : State} (h : Moves w s t) (hs : s.transmit.lawful = true) :
    t.transmit.lawful = true := h.preserve (fun _ _ hmove => hmove.queue.lawful) hs

/-! ## Silence (R35) -/

theorem Transmit.silent_iff (t : Transmit) :
    t.silent = true ↔ t.silenced = true ∧ t.normal = [] ∧ t.slot = none ∧ t.onLine = .none := by
  simp only [Transmit.silent, Bool.and_eq_true, decide_eq_true_eq, List.isEmpty_iff, Option.isNone_iff_eq_none,
    and_assoc]

theorem accepts_silenced {s : State} (h : s.transmit.silenced = true) (kind : Kind) (p : List Byte) :
    s.accepts kind p = false := by
  simp [State.accepts, h]

theorem QueueMove.silent {s t : State} (h : QueueMove s t) (hs : s.transmit.silent = true) :
    t.transmit.silent = true := by
  cases h with
  | same h => rwa [h]
  | offer kind p _ ha _ =>
    have := accepts_silenced ((Transmit.silent_iff _).1 hs).1 kind p
    simp [this] at ha
  | cancel k _ h =>
    rw [Transmit.silent_iff] at hs ⊢
    obtain ⟨hsilenced, hnormal, hslot, hline⟩ := hs
    rw [h]
    exact ⟨hsilenced, by simp [removeDrawOpen, hnormal], hslot, hline⟩

theorem Acts.silent {k : Fin 4} {s t : State} (h : Acts k s t) (hs : s.transmit.silent = true) :
    t.transmit.silent = true := h.preserve (fun _ _ hact => hact.queue.silent) hs

theorem Moves.silent {w : Bool} {s t : State} (h : Moves w s t) (hs : s.transmit.silent = true) :
    t.transmit.silent = true := h.preserve (fun _ _ hmove => hmove.queue.silent) hs

end Sys2Proof.Machine

/-! Head `k` in the background of an event. A head that asks for nothing and has no PENDING draw is undisturbed: the
arbiter and the withdrawal check pass it over, and its slot changes by the delivery marks of its verdict alone. -/

namespace Sys2Proof.Machine
open Sys2Proof

/-- A slot as the delivery of its verdict leaves it (R78). -/
def Slot.sameJar (x y : Slot) : Prop :=
  ∃ d v n, y = { x with record := { x.record with delivery := d, verdictPending := v, ticket := n } }

theorem Slot.sameJar.refl (x : Slot) : x.sameJar x := ⟨_, _, _, rfl⟩

theorem Slot.sameJar.trans {x y z : Slot} (h : x.sameJar y) (h' : y.sameJar z) : x.sameJar z := by
  obtain ⟨_, _, _, rfl⟩ := h
  obtain ⟨d, v, n, rfl⟩ := h'
  exact ⟨d, v, n, rfl⟩

theorem Slot.sameJar.state {x y : Slot} (h : x.sameJar y) : y.state = x.state := by
  obtain ⟨_, _, _, rfl⟩ := h; rfl

theorem Slot.sameJar.pocket {x y : Slot} (h : x.sameJar y) : y.pocket = x.pocket := by
  obtain ⟨_, _, _, rfl⟩ := h; rfl

/-! ## What no background move touches -/

/-- The blocks that no background move touches, and what it leaves of the slots. -/
structure Backdrop (s t : State) : Prop where
  still    : t.still = s.still
  channels : t.channels = s.channels
  tracks   : t.tracks = s.tracks
  service  : t.service = s.service
  jars     : ∀ k, (s.slots.get k).sameJar (t.slots.get k)
  recorded : ∀ k, (s.slots.get k).record.delivery ≠ .waiting → t.slots.get k = s.slots.get k

theorem Backdrop.of_slots {s t : State} (still : t.still = s.still) (channels : t.channels = s.channels)
    (tracks : t.tracks = s.tracks) (service : t.service = s.service) (slots : t.slots = s.slots) : Backdrop s t :=
  ⟨still, channels, tracks, service, fun _ => slots ▸ .refl _, fun _ _ => slots ▸ rfl⟩

theorem Backdrop.trans {s t u : State} (h : Backdrop s t) (h' : Backdrop t u) : Backdrop s u :=
  ⟨h'.still.trans h.still, h'.channels.trans h.channels, h'.tracks.trans h.tracks, h'.service.trans h.service,
    fun k => (h.jars k).trans (h'.jars k), fun k hk => by
      have hkept := h.recorded k hk
      rw [h'.recorded k (hkept ▸ hk), hkept]⟩

theorem Move.backdrop {w : Bool} {s t : State} (h : Move w s t) : Backdrop s t := by
  have hdelivery (k : Fin 4) (f : Record → Record) (hwaits : (s.slots.get k).record.delivery = .waiting)
      (hf : (s.slots.get k).sameJar (Slot.onRecord f (s.slots.get k))) : Backdrop s (modSlot k (Slot.onRecord f) s) := by
    refine ⟨rfl, rfl, rfl, rfl, fun j => ?_, fun j hj => ?_⟩
    · by_cases hjk : j = k
      · subst hjk; simpa using hf
      · simpa [Four.get_modify_other _ _ hjk] using Slot.sameJar.refl _
    · have hjk : j ≠ k := fun e => hj (e ▸ hwaits)
      simp [Four.get_modify_other _ _ hjk]
  cases h with
  | queued k n h => exact hdelivery k _ h ⟨_, _, _, rfl⟩
  | waiting k h => exact hdelivery k _ h ⟨_, _, _, rfl⟩
  | consult | refuse | position | reannounce | offer | closed | grant | withdraw =>
    exact .of_slots rfl rfl rfl rfl rfl

theorem Moves.backdrop {w : Bool} {s t : State} (h : Moves w s t) : Backdrop s t := by
  induction h with
  | refl => exact .of_slots rfl rfl rfl rfl rfl
  | tail _ hmove ih => exact ih.trans hmove.backdrop

/-! ## A quiet head -/

/-- Head `k` asks for nothing and has no PENDING draw, so that no background move concerns it. -/
def State.quiet (s : State) (k : Fin 4) : Prop :=
  (s.draws.get k).ask = none ∧ (s.draws.get k).status ≠ .pending

/-- The draw as the draw unit's retried closes leave it (R153). -/
def OwnDraw.sameDraw (d e : OwnDraw) : Prop := ∃ p, e = { d with closing := p }

theorem OwnDraw.sameDraw.trans {d e f : OwnDraw} (h : d.sameDraw e) (h' : e.sameDraw f) : d.sameDraw f := by
  obtain ⟨_, rfl⟩ := h
  obtain ⟨p, rfl⟩ := h'
  exact ⟨p, rfl⟩

/-- Head `k` is as it was, but for the delivery of its verdict and its pending closes. -/
structure Undisturbed (k : Fin 4) (s t : State) : Prop extends Backdrop s t where
  engine : t.engines.get k = s.engines.get k
  draw   : (s.draws.get k).sameDraw (t.draws.get k)

theorem Undisturbed.quiet {k : Fin 4} {s t : State} (h : Undisturbed k s t) (hs : s.quiet k) : t.quiet k := by
  obtain ⟨p, hp⟩ := h.draw
  unfold State.quiet
  rw [hp]
  exact hs

theorem Undisturbed.trans {k : Fin 4} {s t u : State} (h : Undisturbed k s t) (h' : Undisturbed k t u) :
    Undisturbed k s u :=
  ⟨h.toBackdrop.trans h'.toBackdrop, h'.engine.trans h.engine, h.draw.trans h'.draw⟩

theorem Move.undisturbed {w : Bool} {k : Fin 4} {s t : State} (h : Move w s t) (hs : s.quiet k) :
    Undisturbed k s t := by
  have hback := h.backdrop
  cases h with
  | closed j c =>
    refine ⟨hback, rfl, ?_⟩
    by_cases hjk : k = j
    · subst hjk; exact ⟨(s.draws.get k).closing.put c false, by simp [OwnDraw.closePending]⟩
    · exact ⟨(s.draws.get k).closing, by simp [Four.get_modify_other _ _ hjk]⟩
  | grant j a _ hask _ _ =>
    have hkj : k ≠ j := fun e => by subst e; simp [hs.1] at hask
    exact ⟨hback, Four.get_modify_other _ _ hkj, (s.draws.get k).closing, Four.get_modify_other _ _ hkj⟩
  | withdraw j _ hpending _ =>
    have hkj : k ≠ j := fun e => hs.2 (e ▸ hpending)
    exact ⟨hback, Four.get_modify_other _ _ hkj, (s.draws.get k).closing, Four.get_modify_other _ _ hkj⟩
  | consult | refuse | position | reannounce | offer | queued | waiting => exact ⟨hback, rfl, _, rfl⟩

theorem Moves.undisturbed {w : Bool} {k : Fin 4} {s t : State} (h : Moves w s t) (hs : s.quiet k) :
    Undisturbed k s t := by
  induction h with
  | refl => exact ⟨.of_slots rfl rfl rfl rfl rfl, rfl, _, rfl⟩
  | tail _ hmove ih => exact ih.trans (hmove.undisturbed (ih.quiet hs))

/-! ## The close of a draw (R152, R154) -/

/-- Head `k`'s draw as a close leaves it: no ask, status, terms or open frame; the countdown runs on, and a close may be
pending. -/
def OwnDraw.closed (d e : OwnDraw) : Prop := ∃ p, e = { OwnDraw.ended none d with closing := p }

/-- A close ends head `k`'s draw, and leaves the rest of the head as it was. -/
structure Closes (k : Fin 4) (s t : State) : Prop extends Backdrop s t where
  engine : t.engines.get k = s.engines.get k
  draw   : (s.draws.get k).closed (t.draws.get k)

theorem Closes.status {k : Fin 4} {s t : State} (h : Closes k s t) : (t.draws.get k).status = .none := by
  obtain ⟨_, hp⟩ := h.draw; rw [hp]; rfl

theorem Closes.ask {k : Fin 4} {s t : State} (h : Closes k s t) : (t.draws.get k).ask = none := by
  obtain ⟨_, hp⟩ := h.draw; rw [hp]; rfl

theorem Closes.terms {k : Fin 4} {s t : State} (h : Closes k s t) : (t.draws.get k).terms = none := by
  obtain ⟨_, hp⟩ := h.draw; rw [hp]; rfl

theorem Closes.openFrame {k : Fin 4} {s t : State} (h : Closes k s t) : (t.draws.get k).openFrame = .none := by
  obtain ⟨_, hp⟩ := h.draw; rw [hp]; rfl

theorem Closes.quiet {k : Fin 4} {s t : State} (h : Closes k s t) : t.quiet k :=
  ⟨h.ask, by simp [h.status]⟩

theorem Closes.background {k : Fin 4} {w : Bool} {s t u : State} (h : Closes k s t) (h' : Moves w t u) :
    Closes k s u := by
  have hrest := h'.undisturbed h.quiet
  refine ⟨h.toBackdrop.trans hrest.toBackdrop, hrest.engine.trans h.engine, ?_⟩
  obtain ⟨p, hp⟩ := h.draw
  obtain ⟨q, hq⟩ := hrest.draw
  exact ⟨q, by rw [hq, hp]⟩

theorem Closes.ended (k : Fin 4) (s : State) : Closes k s (modDraw k (OwnDraw.ended none) s) :=
  ⟨.of_slots rfl rfl rfl rfl rfl, rfl, (s.draws.get k).closing, by simp [OwnDraw.ended]⟩

theorem Closes.cancelled (k : Fin 4) (s : State) :
    Closes k s (modDraw k (OwnDraw.ended none) (removeDrawOpen k s)) :=
  ⟨.of_slots rfl rfl rfl rfl rfl, rfl, (s.draws.get k).closing, by simp [OwnDraw.ended]⟩

theorem Closes.offered {k : Fin 4} {s t : State} (c : DrawClass) (h : Closes k s t) :
    Closes k s (offerClose k c t) := by
  unfold offerClose
  split
  · exact ⟨h.toBackdrop.trans (.of_slots rfl rfl rfl rfl rfl), h.engine, h.draw⟩
  split
  · exact h
  · obtain ⟨p, hp⟩ := h.draw
    exact ⟨h.toBackdrop.trans (.of_slots rfl rfl rfl rfl rfl), h.engine, p.put c true,
      by simp [hp, OwnDraw.closePending]⟩

/-- An open draw closes, by whatever way its frame goes. -/
theorem closeDraw_closes {k : Fin 4} {s : State} {a : Ask} (hopen : (s.draws.get k).isOpen = true)
    (hterms : (s.draws.get k).terms = some a) : Closes k s (closeDraw k s) := by
  have harbiter (t : State) : Moves true t (arbiter a.cls t) := moves_arbiter _ _
  unfold closeDraw
  rw [hterms]
  dsimp only
  rw [if_pos hopen]
  split
  · exact (Closes.ended k s).background (harbiter _)
  · exact ((Closes.ended k s).offered a.cls).background (harbiter _)
  · split
    · exact (Closes.cancelled k s).background ((moves_queueRemoval _).trans (harbiter _))
    · exact ((Closes.ended k s).offered a.cls).background (harbiter _)

/-- Where no draw is open there is nothing to close. -/
theorem closeDraw_idle {k : Fin 4} {s : State} (h : (s.draws.get k).isOpen = false) : closeDraw k s = s := by
  unfold closeDraw
  split
  · rfl
  · simp [h]

theorem closeDraw_no_terms {k : Fin 4} {s : State} (h : (s.draws.get k).terms = none) : closeDraw k s = s := by
  unfold closeDraw
  rw [h]

/-- The ask or the PENDING draw of a head ends with nothing left of it (R154). -/
theorem endAsk_closes {k : Fin 4} {s : State} (hopen : (s.draws.get k).isOpen = false)
    (hlawful : (s.draws.get k).lawful = true) : Undisturbed k (modDraw k (fun d => { d with ask := none }) s) (endAsk k s)
      ∧ (s.draws.get k).status = .none ∨ Closes k s (endAsk k s) := by
  simp only [OwnDraw.lawful, Bool.and_eq_true, Bool.or_eq_true, Option.isNone_iff_eq_none, decide_eq_true_eq,
    beq_iff_eq] at hlawful
  unfold endAsk
  split
  · next a hstatus hterms =>
    right
    split
    · exact (Closes.cancelled k s).background ((moves_queueRemoval _).trans (@moves_arbiter true a.cls _))
    · exact ((Closes.ended k s).offered a.cls).background (@moves_arbiter true a.cls _)
  · next hnone =>
    left
    refine ⟨⟨.of_slots rfl rfl rfl rfl rfl, rfl, _, rfl⟩, ?_⟩
    cases hstatus : (s.draws.get k).status with
    | none => rfl
    | pending =>
      obtain ⟨a, ha⟩ := Option.isSome_iff_exists.1 (hlawful.2.trans (by simp [hstatus]))
      exact absurd ha (hnone a hstatus)
    | opened | openForced => simp [OwnDraw.isOpen, hstatus] at hopen

end Sys2Proof.Machine

/-! The laws of one head as propositions, and that what happens to the other heads keeps them (R66, R91, R109, R112, R140). -/

namespace Sys2Proof.Machine
open Sys2Proof

theorem mem_headIndexes (k : Fin 4) : k ∈ headIndexes := by revert k; decide

/-- The laws of a draw and its head's state (R140, R141). -/
structure DrawLaw (p : Phase) (d : OwnDraw) : Prop where
  asks   : d.ask = none ∨ d.status = .none ∧ d.ask.map Ask.cls = p.asks
  terms  : d.terms = none ↔ d.status = .none
  agrees : match p.draw with
    | some (c, isOpen) => d.terms.map Ask.cls = some c ∧ (if isOpen then d.isOpen = true else d.status = .pending)
    | none => d.status = .none

theorem drawLaw_iff (p : Phase) (d : OwnDraw) : DrawLaw p d ↔ d.lawful = true ∧ d.agrees p = true := by
  have hterms : (d.terms.isSome == decide (d.status ≠ .none)) = true ↔ (d.terms = none ↔ d.status = .none) := by
    cases d.terms <;> simp
  simp only [OwnDraw.lawful, OwnDraw.agrees, Bool.and_eq_true, Bool.or_eq_true, hterms, Option.isNone_iff_eq_none,
    decide_eq_true_eq]
  constructor
  · rintro ⟨hask, hsome, hagrees⟩
    refine ⟨⟨hask.imp id And.left, hsome⟩, ?_, hask.imp id And.right⟩
    cases hp : p.draw with
    | none => simpa [hp] using hagrees
    | some x =>
      obtain ⟨c, o⟩ := x
      cases o <;> simpa [hp] using hagrees
  · rintro ⟨⟨hask, hsome⟩, hagrees, hcls⟩
    refine ⟨?_, hsome, ?_⟩
    · rcases hask with h | h
      · exact .inl h
      · exact hcls.imp id fun hc => ⟨h, hc⟩
    · cases hp : p.draw with
      | none => simpa [hp] using hagrees
      | some x =>
        obtain ⟨c, o⟩ := x
        cases o <;> simpa [hp] using hagrees

/-- The laws of one head, as `State.headLawful` gives them. -/
structure HeadLaw (s : State) (k : Fin 4) : Prop where
  bound   : (s.engines.get k).inClosure = true → (s.slots.get k).state = .bound
  torque  : (s.channels.get k).phaseRuns = true ↔ (s.engines.get k).phase = .torque
  drives  : (s.channels.get k).drivesNow = true → (s.channels.get k).phaseRuns = true ∨ s.forces k .drive = true
  channel : (s.channels.get k).lawful = true
  draw    : DrawLaw (s.engines.get k).phase (s.draws.get k)
  valve   : (s.engines.get k).steam = true → (s.engines.get k).phase = .flush
    ∨ s.forces k .steam = true ∧ s.unit.mode = .safe

theorem DrawLaw.of_draw {p : Phase} {d : OwnDraw} {c : DrawClass} {o : Bool} (h : DrawLaw p d)
    (hp : p.draw = some (c, o)) : d.terms.map Ask.cls = some c
      ∧ (if o then d.isOpen = true else d.status = .pending) := by
  have := h.agrees
  simpa only [hp] using this

theorem DrawLaw.of_none {p : Phase} {d : OwnDraw} (h : DrawLaw p d) (hp : p.draw = none) : d.status = .none := by
  have := h.agrees
  simpa only [hp] using this

theorem headLaw_iff (s : State) (k : Fin 4) : HeadLaw s k ↔ s.headLawful k = true := by
  have hbool : ((s.channels.get k).phaseRuns == decide ((s.engines.get k).phase = .torque)) = true
      ↔ ((s.channels.get k).phaseRuns = true ↔ (s.engines.get k).phase = .torque) := by
    cases (s.channels.get k).phaseRuns <;> simp
  simp only [State.headLawful, State.valveLawful, Bool.and_eq_true, Bool.or_eq_true, Bool.not_eq_true',
    decide_eq_true_eq, State.inPhase, hbool]
  constructor
  · rintro ⟨hbound, htorque, hdrives, hchannel, hdraw, hvalve⟩
    obtain ⟨hlawful, hagrees⟩ := (drawLaw_iff _ _).1 hdraw
    refine ⟨⟨⟨⟨⟨⟨?_, htorque⟩, ?_⟩, hchannel⟩, hlawful⟩, hagrees⟩, ?_⟩
    · cases h : (s.engines.get k).inClosure
      · exact .inl rfl
      · exact .inr (hbound h)
    · cases h : (s.channels.get k).drivesNow
      · exact .inl (.inl rfl)
      · exact (hdrives h).elim (fun h => .inl (.inr h)) .inr
    · cases h : (s.engines.get k).steam
      · exact .inl (.inl rfl)
      · refine (hvalve h).imp (fun hflush => .inr ?_) id
        have hopen := hdraw.of_draw (show _ = some (DrawClass.steam, true) by rw [hflush]; rfl)
        exact ⟨⟨hflush, hopen.2⟩, hopen.1⟩
  · rintro ⟨⟨⟨⟨⟨⟨hbound, htorque⟩, hdrives⟩, hchannel⟩, hlawful⟩, hagrees⟩, hvalve⟩
    refine ⟨fun h => ?_, htorque, fun h => ?_, hchannel, (drawLaw_iff _ _).2 ⟨hlawful, hagrees⟩, fun h => ?_⟩
    · simpa [h] using hbound
    · simpa [h] using hdrives
    · rcases hvalve with (hoff | hflush) | hforced
      · simp [h] at hoff
      · exact .inl hflush.1.1
      · exact .inr hforced

/-- The laws of all heads, of a forced run and of a reset in force, as `State.headsLawful` gives them. -/
structure HeadsLaw (s : State) : Prop where
  heads  : ∀ k, HeadLaw s k
  forced : ∀ r, s.service.forced = some r → s.unit.mode = .safe ∧ (s.engines.get r.head).inClosure = false
  rests  : s.inReset ≠ none → ∀ k, (s.engines.get k).phase = .idle ∧ (s.channels.get k).phaseRuns = false

theorem headsLaw_iff (s : State) : HeadsLaw s ↔ s.headsLawful = true := by
  have hheads : headIndexes.all s.headLawful = true ↔ ∀ k, HeadLaw s k := by
    simp only [List.all_eq_true, headLaw_iff]
    exact ⟨fun h k => h k (mem_headIndexes k), fun h k _ => h k⟩
  have hforced : s.forcedLawful = true
      ↔ ∀ r, s.service.forced = some r → s.unit.mode = .safe ∧ (s.engines.get r.head).inClosure = false := by
    unfold State.forcedLawful
    cases s.service.forced <;> simp
  have hrests : s.restsInReset = true
      ↔ (s.inReset ≠ none → ∀ k, (s.engines.get k).phase = .idle ∧ (s.channels.get k).phaseRuns = false) := by
    simp only [State.restsInReset, Bool.or_eq_true, List.all_eq_true, Bool.and_eq_true, Bool.not_eq_true',
      State.inPhase, decide_eq_true_eq, Option.isNone_iff_eq_none]
    constructor
    · rintro (h | h) hne k
      · exact absurd h hne
      · exact h k (mem_headIndexes k)
    · intro h
      by_cases hr : s.inReset = none
      · exact .inl hr
      · exact .inr fun k _ => h hr k
  simp only [State.headsLawful, Bool.and_eq_true, hheads, hforced, hrests]
  exact ⟨fun ⟨h1, h2, h3⟩ => ⟨⟨h1, h2⟩, h3⟩, fun ⟨⟨h1, h2⟩, h3⟩ => ⟨h1, h2, h3⟩⟩

theorem State.forces_iff (s : State) (k : Fin 4) (o : Output) :
    s.forces k o = true ↔ ∃ r, s.service.forced = some r ∧ r.head = k ∧ r.output = o := by
  unfold State.forces
  cases s.service.forced <;> simp

/-- A forced run in force finds SAFE and no closure on its head. -/
theorem HeadsLaw.of_forces {s : State} (h : HeadsLaw s) {k : Fin 4} {o : Output} (hf : s.forces k o = true) :
    s.unit.mode = .safe ∧ (s.engines.get k).inClosure = false := by
  obtain ⟨r, hr, rfl, -⟩ := (State.forces_iff s k o).1 hf
  exact h.forced r hr

/-! ## The laws of a head in the background -/

theorem Engine.inClosure_iff (x : Engine) : x.inClosure = true ↔ x.phase ≠ .idle ∧ x.phase ≠ .out := by
  unfold Engine.inClosure
  cases x.phase <;> simp

theorem Engine.rests_of_not_inClosure {x : Engine} (h : x.inClosure = false) : x.phase = .idle ∨ x.phase = .out := by
  by_cases hidle : x.phase = .idle
  · exact .inl hidle
  · by_cases hout : x.phase = .out
    · exact .inr hout
    · exact absurd ((Engine.inClosure_iff x).2 ⟨hidle, hout⟩) (Bool.eq_false_iff.1 h)

theorem DrawLaw.granted {x : Engine} {d : OwnDraw} {a : Ask} (life : Nat) (h : DrawLaw x.phase d)
    (hask : d.ask = some a) : DrawLaw x.granted.phase (d.granted a life) := by
  have hcls : some a.cls = x.phase.asks := by
    rcases h.asks with hnone | ⟨-, hmap⟩
    · simp [hask] at hnone
    · simpa [hask] using hmap
  refine ⟨.inl rfl, by simp [OwnDraw.granted], ?_⟩
  unfold Engine.granted
  cases hp : x.phase <;> simp [Phase.asks, hp] at hcls <;> simp [Phase.draw, OwnDraw.granted, hcls]

/-- A withdrawal restores the ask of the WAIT that its head returns to. -/
theorem DrawLaw.withdrawn {x : Engine} {d : OwnDraw} {a : Option Ask} (asking : Bool) (h : DrawLaw x.phase d)
    (hpending : d.status = .pending) (ha : a = none ∨ a = d.terms) :
    DrawLaw (x.withdrawn asking).phase (d.ended a) := by
  refine ⟨?_, by simp [OwnDraw.ended], ?_⟩
  · rcases ha with rfl | rfl
    · exact .inl rfl
    · refine .inr ⟨rfl, ?_⟩
      unfold Engine.withdrawn
      cases hp : x.phase with
      | steamAnnounced =>
        have := (h.of_draw (show _ = some (DrawClass.steam, false) by rw [hp]; rfl)).1
        simpa [Phase.asks, OwnDraw.ended] using this
      | driveAnnounced =>
        have := (h.of_draw (show _ = some (DrawClass.drive, false) by rw [hp]; rfl)).1
        simpa [Phase.asks, OwnDraw.ended] using this
      | flush =>
        have := (h.of_draw (show _ = some (DrawClass.steam, true) by rw [hp]; rfl)).2
        simp [OwnDraw.isOpen, hpending] at this
      | torque =>
        have := (h.of_draw (show _ = some (DrawClass.drive, true) by rw [hp]; rfl)).2
        simp [OwnDraw.isOpen, hpending] at this
      | idle | bound | steamWait | seat | driveWait | dwell | out =>
        have := h.of_none (by rw [hp]; rfl)
        simp [hpending] at this
  · unfold Engine.withdrawn
    cases hp : x.phase with
    | steamAnnounced | driveAnnounced => simp [Phase.draw, OwnDraw.ended]
    | flush =>
      have := (h.of_draw (show _ = some (DrawClass.steam, true) by rw [hp]; rfl)).2
      simp [OwnDraw.isOpen, hpending] at this
    | torque =>
      have := (h.of_draw (show _ = some (DrawClass.drive, true) by rw [hp]; rfl)).2
      simp [OwnDraw.isOpen, hpending] at this
    | idle | bound | steamWait | seat | driveWait | dwell | out => simp [Phase.draw, hp, OwnDraw.ended]

theorem State.restoredAsk_cases (s : State) (d : OwnDraw) : s.restoredAsk d = none ∨ s.restoredAsk d = d.terms := by
  unfold State.restoredAsk
  split
  · next a ha =>
    split
    · exact .inl rfl
    · exact .inr ha.symm
  · exact .inl rfl

/-- An engine that a grant or a withdrawal moves: another state of the same closure, not into or out of TORQUE and FLUSH,
with its valve as it was. -/
structure Engine.sameClosure (x y : Engine) : Prop where
  closure : y.inClosure = x.inClosure
  torque  : y.phase = .torque ↔ x.phase = .torque
  flush   : y.phase = .flush ↔ x.phase = .flush
  idle    : y.phase = .idle ↔ x.phase = .idle
  steam   : y.steam = x.steam
  press   : y.press = x.press
  recipe  : y.recipe = x.recipe
  out     : y.out = x.out

theorem Engine.sameClosure.refl (x : Engine) : x.sameClosure x :=
  ⟨rfl, .rfl, .rfl, .rfl, rfl, rfl, rfl, rfl⟩

theorem Engine.sameClosure.trans {x y z : Engine} (h : x.sameClosure y) (h' : y.sameClosure z) : x.sameClosure z :=
  ⟨h'.closure.trans h.closure, h'.torque.trans h.torque, h'.flush.trans h.flush, h'.idle.trans h.idle,
    h'.steam.trans h.steam, h'.press.trans h.press, h'.recipe.trans h.recipe, h'.out.trans h.out⟩

theorem Engine.sameClosure_granted (x : Engine) : x.sameClosure x.granted := by
  unfold Engine.granted
  cases hp : x.phase <;> constructor <;> simp [Engine.inClosure, hp]

theorem Engine.sameClosure_withdrawn (asking : Bool) (x : Engine) : x.sameClosure (x.withdrawn asking) := by
  unfold Engine.withdrawn
  cases hp : x.phase <;> constructor <;> simp [Engine.inClosure, hp]

/-- What happens to head `j` while something else happens: its channel, its track and its jar stay, and its engine moves
within its closure, its draw with it. -/
structure Bystander (j : Fin 4) (s t : State) : Prop where
  still   : t.still = s.still
  channel : t.channels.get j = s.channels.get j
  track   : t.tracks.get j = s.tracks.get j
  jar     : (s.slots.get j).sameJar (t.slots.get j)
  engine  : (s.engines.get j).sameClosure (t.engines.get j)
  draw    : DrawLaw (s.engines.get j).phase (s.draws.get j) → DrawLaw (t.engines.get j).phase (t.draws.get j)
  forced  : ∀ o, t.forces j o = s.forces j o

theorem Bystander.refl (j : Fin 4) (s : State) : Bystander j s s :=
  ⟨rfl, rfl, rfl, .refl _, .refl _, id, fun _ => rfl⟩

theorem Bystander.trans {j : Fin 4} {s t u : State} (h : Bystander j s t) (h' : Bystander j t u) : Bystander j s u :=
  ⟨h'.still.trans h.still, h'.channel.trans h.channel, h'.track.trans h.track, h.jar.trans h'.jar,
    h.engine.trans h'.engine, fun hd => h'.draw (h.draw hd), fun o => (h'.forced o).trans (h.forced o)⟩

/-- Where neither the engine nor the draw of `j` changes. -/
theorem Backdrop.bystander {j : Fin 4} {s t : State} (h : Backdrop s t) (he : t.engines.get j = s.engines.get j)
    (hd : DrawLaw (s.engines.get j).phase (s.draws.get j) → DrawLaw (t.engines.get j).phase (t.draws.get j)) :
    Bystander j s t :=
  ⟨h.still, by rw [h.channels], by rw [h.tracks], h.jars j, he ▸ .refl _, hd, fun o => by
    unfold State.forces
    rw [h.service]⟩

theorem Move.bystander {w : Bool} {s t : State} (h : Move w s t) (j : Fin 4) : Bystander j s t := by
  have hback := h.backdrop
  cases h with
  | closed k c =>
    refine hback.bystander rfl fun hd => ?_
    by_cases hjk : j = k
    · subst hjk
      simp only [modDraw_draws, Four.get_modify_same]
      exact ⟨hd.asks, hd.terms, hd.agrees⟩
    · simp only [modDraw_draws, Four.get_modify_other _ _ hjk]
      exact hd
  | grant k a _ hask _ _ =>
    by_cases hjk : j = k
    · subst hjk
      refine ⟨hback.still, rfl, rfl, .refl _, ?_, fun hd => ?_, fun _ => rfl⟩
      · simpa using Engine.sameClosure_granted (s.engines.get j)
      · simpa using hd.granted _ hask
    · refine hback.bystander (Four.get_modify_other _ _ hjk) fun hd => ?_
      simpa [Four.get_modify_other _ _ hjk] using hd
  | withdraw k _ hpending _ =>
    by_cases hjk : j = k
    · subst hjk
      refine ⟨hback.still, rfl, rfl, .refl _, ?_, fun hd => ?_, fun _ => rfl⟩
      · simpa [withdrawDraw] using Engine.sameClosure_withdrawn _ (s.engines.get j)
      · simpa [withdrawDraw] using hd.withdrawn _ hpending (s.restoredAsk_cases _)
    · refine hback.bystander (Four.get_modify_other _ _ hjk) fun hd => ?_
      simpa [withdrawDraw, Four.get_modify_other _ _ hjk] using hd
  | consult | refuse | position | reannounce | offer | queued | waiting => exact hback.bystander rfl id

theorem Act.bystander {k j : Fin 4} {s t : State} (h : Act k s t) (hjk : j ≠ k) : Bystander j s t := by
  cases h with
  | background h => exact h.bystander j
  | own h =>
    have hengine := h.engines j hjk
    have hdraw := h.draws j hjk
    refine ⟨h.still, h.channels j hjk, h.tracks j hjk, h.slots j hjk ▸ .refl _, hengine ▸ .refl _,
      fun hd => by rwa [hengine, hdraw], fun o => ?_⟩
    obtain hsame | ⟨⟨p, hp⟩, hnone⟩ := h.service
    · simp only [State.forces, hsame]
    · obtain ⟨r, hr, hhead, -⟩ := (State.forces_iff s k p).1 hp
      have hne : r.head ≠ j := fun e => hjk (e.symm.trans hhead)
      simp [State.forces, hnone, hr, hne]
  | announce => exact ⟨rfl, rfl, rfl, .refl _, .refl _, id, fun _ => rfl⟩
  | cancel => exact ⟨rfl, rfl, rfl, .refl _, .refl _, id, fun _ => rfl⟩

theorem Moves.bystander {w : Bool} {s t : State} (h : Moves w s t) (j : Fin 4) : Bystander j s t := by
  induction h with
  | refl => exact .refl j _
  | tail _ hmove ih => exact ih.trans (hmove.bystander j)

theorem Acts.bystander {k j : Fin 4} {s t : State} (h : Acts k s t) (hjk : j ≠ k) : Bystander j s t := by
  induction h with
  | refl => exact .refl j _
  | tail _ hact ih => exact ih.trans (hact.bystander hjk)

/-- A head that stands by keeps its laws. -/
theorem Bystander.law {j : Fin 4} {s t : State} (h : Bystander j s t) (hs : HeadLaw s j) : HeadLaw t j := by
  have hunit : t.unit = s.unit := (State.still_fields h.still).2.1
  refine ⟨fun hc => ?_, ?_, fun hd => ?_, ?_, h.draw hs.draw, fun hv => ?_⟩
  · rw [h.jar.state]
    exact hs.bound (h.engine.closure ▸ hc)
  · rw [h.channel, h.engine.torque]
    exact hs.torque
  · rw [h.channel] at hd ⊢
    rw [h.forced]
    exact hs.drives hd
  · rw [h.channel]
    exact hs.channel
  · rw [h.engine.steam] at hv
    rw [h.engine.flush, h.forced, hunit]
    exact hs.valve hv

end Sys2Proof.Machine

/-! The laws of the heads through the closure: what each operation of Closure.lean on head `k` needs and leaves
(Chapters 4 to 6, 7.7). -/

namespace Sys2Proof.Machine
open Sys2Proof

/-! ## Channels at rest (6.2) -/

/-- A channel that drives nothing and runs no torque phase, OFF or TRIPPED. -/
def Channel.rests (x : Channel) : Prop :=
  (x.state = .off ∨ x.state = .tripped) ∧ x.duty = 0 ∧ x.bridge = .off ∧ x.step = .none ∧ x.count ≤ 3

theorem Channel.lawful_iff (x : Channel) : x.lawful = true ↔ x.stepAgrees = true
    ∧ (x.drivesNow = true ∨ x.duty = 0 ∧ x.bridge = .off) ∧ (x.bridge = .off ∨ x.bridge = x.state.drives)
    ∧ x.count ≤ 3 := by
  simp only [Channel.lawful, Bool.and_eq_true, Bool.or_eq_true, decide_eq_true_eq, and_assoc]

theorem Channel.rests_iff (x : Channel) :
    x.rests ↔ x.lawful = true ∧ x.phaseRuns = false ∧ x.drivesNow = false := by
  rw [Channel.lawful_iff]
  simp only [Channel.rests, Channel.phaseRuns, decide_eq_false_iff_not, Classical.not_not]
  constructor
  · rintro ⟨hstate, hduty, hbridge, hstep, hcount⟩
    refine ⟨⟨?_, .inr ⟨hduty, hbridge⟩, .inl hbridge, hcount⟩, hstep, ?_⟩
    · rcases hstate with h | h <;> simp [Channel.stepAgrees, hstep, h]
    · rcases hstate with h | h <;> simp [Channel.drivesNow, h]
  · rintro ⟨⟨hagrees, hduty, -, hcount⟩, hstep, hdrives⟩
    rw [hdrives] at hduty
    obtain ⟨hduty, hbridge⟩ := hduty.resolve_left Bool.false_ne_true
    refine ⟨?_, hduty, hbridge, hstep, hcount⟩
    cases hx : x.state <;> simp_all [Channel.stepAgrees, Channel.drivesNow]

theorem Channel.rests_trip (cause : TripCause) {x : Channel} (h : x.count ≤ 3) : (x.trip cause).rests :=
  ⟨.inr rfl, rfl, rfl, rfl, h⟩

theorem Channel.rests_overcurrent (x : Channel) : x.overcurrent.rests :=
  ⟨.inr rfl, rfl, rfl, rfl, Nat.min_le_left _ _⟩

theorem Channel.rests_finish (x : Channel) : x.finish.rests := ⟨.inl rfl, rfl, rfl, rfl, Nat.zero_le _⟩

theorem Channel.rests_rearm {x : Channel} (oc : Bool) (h : x.rests) : (x.rearm oc).rests := by
  obtain ⟨hstate, hduty, hbridge, hstep, hcount⟩ := h
  unfold Channel.rearm
  dsimp only
  split
  · split
    · exact ⟨.inl rfl, rfl, rfl, hstep, hcount⟩
    · exact ⟨hstate, hduty, hbridge, hstep, hcount⟩
  · exact ⟨hstate, hduty, hbridge, hstep, hcount⟩

theorem Channel.rests_tripOrAdd {x : Channel} (cause : TripCause) (hlawful : x.lawful = true)
    (h : x.phaseRuns = false) : (x.tripOrAdd cause).rests := by
  obtain ⟨hagrees, hduty, -, hcount⟩ := (Channel.lawful_iff x).1 hlawful
  unfold Channel.tripOrAdd
  split
  · next htripped =>
    have hstill : x.drivesNow = false := by simp [Channel.drivesNow, htripped]
    exact (Channel.rests_iff x).2 ⟨hlawful, h, hstill⟩
  · exact ⟨.inr rfl, rfl, rfl, rfl, hcount⟩

theorem Channel.rests_endForced {x : Channel} (hcount : x.count ≤ 3) (h : x.phaseRuns = false) : x.endForced.rests := by
  have hstep : x.step = .none := by simpa [Channel.phaseRuns] using h
  unfold Channel.endForced
  split
  · exact ⟨.inl rfl, rfl, rfl, hstep, hcount⟩
  · exact ⟨.inr rfl, rfl, rfl, hstep, hcount⟩

/-- The start of a torque phase on a channel in OFF is lawful and runs. -/
theorem Channel.lawful_startPhase (r : Recipe) (ceiling : Nat) {x : Channel} (h : x.rests) :
    (x.startPhase r ceiling).lawful = true ∧ (x.startPhase r ceiling).phaseRuns = true := by
  obtain ⟨-, -, hbridge, -, hcount⟩ := h
  rw [Channel.lawful_iff]
  unfold Channel.startPhase
  dsimp only
  split
  · exact ⟨⟨rfl, .inr ⟨rfl, rfl⟩, .inl rfl, hcount⟩, rfl⟩
  · exact ⟨⟨rfl, .inl rfl, .inl hbridge, hcount⟩, rfl⟩

/-! ## A head that holds a jar -/

/-- Head `k` holds a jar and drives nothing, with a draw as it goes with the state `p`; its engine may still be on its way
there. -/
structure Holding (p : Phase) (s : State) (k : Fin 4) : Prop where
  bound    : (s.slots.get k).state = .bound
  channel  : (s.channels.get k).rests
  draw     : DrawLaw p (s.draws.get k)
  unforced : ∀ o, s.forces k o = false

/-- Head `k` is lawful, and no forced run is on it. -/
structure Settled (s : State) (k : Fin 4) : Prop where
  law      : HeadLaw s k
  unforced : ∀ o, s.forces k o = false

/-- Laws are those of every head, once head `k` has come to rest. -/
theorem HeadsLaw.of_acts {s t : State} {k : Fin 4} (h : HeadsLaw s) (hacts : Acts k s t) (hreset : s.inReset = none)
    (hk : HeadLaw t k) (hforced : ∀ o, t.forces k o = true → s.forces k o = true ∧ (t.engines.get k).inClosure = false) :
    HeadsLaw t := by
  have hstill := State.still_fields hacts.still
  refine ⟨fun j => ?_, fun r hr => ?_, fun hin => ?_⟩
  · by_cases hjk : j = k
    · exact hjk ▸ hk
    · exact (hacts.bystander hjk).law (h.heads j)
  · have hforces : t.forces r.head r.output = true := (State.forces_iff t _ _).2 ⟨r, hr, rfl, rfl⟩
    rw [hstill.2.1]
    by_cases hjk : r.head = k
    · rw [hjk] at hforces ⊢
      obtain ⟨hs, hclosure⟩ := hforced _ hforces
      exact ⟨(h.of_forces hs).1, hclosure⟩
    · have hby := hacts.bystander hjk
      rw [hby.forced] at hforces
      rw [hby.engine.closure]
      exact h.of_forces hforces
  · rw [hstill.2.2.2.2.2.2.2.2.1] at hin
    exact absurd hreset hin

theorem HeadsLaw.of_settled {s t : State} {k : Fin 4} (h : HeadsLaw s) (hacts : Acts k s t) (hreset : s.inReset = none)
    (hk : Settled t k) : HeadsLaw t :=
  h.of_acts hacts hreset hk.law fun o ho => absurd ho (by simp [hk.unforced o])

/-- Background work keeps the laws. -/
theorem HeadsLaw.moves {w : Bool} {s t : State} (h : HeadsLaw s) (hmoves : Moves w s t) : HeadsLaw t := by
  have hstill := State.still_fields hmoves.still
  have hby (j : Fin 4) := hmoves.bystander j
  refine ⟨fun j => (hby j).law (h.heads j), fun r hr => ?_, fun hin k => ?_⟩
  · have hforces : t.forces r.head r.output = true := (State.forces_iff t _ _).2 ⟨r, hr, rfl, rfl⟩
    rw [(hby _).forced] at hforces
    rw [hstill.2.1, (hby _).engine.closure]
    exact h.of_forces hforces
  · rw [hstill.2.2.2.2.2.2.2.2.1] at hin
    rw [(hby k).engine.idle, (hby k).channel]
    exact h.rests hin k

theorem Settled.moves {w : Bool} {s t : State} {k : Fin 4} (h : Settled s k) (hmoves : Moves w s t) : Settled t k :=
  ⟨(hmoves.bystander k).law h.law, fun o => ((hmoves.bystander k).forced o).trans (h.unforced o)⟩

section
variable {s : State} {k : Fin 4}

theorem HeadsLaw.unforced (h : HeadsLaw s) (hclosure : (s.engines.get k).inClosure = true) (o : Output) :
    s.forces k o = false := by
  rw [← Bool.not_eq_true]
  intro hf
  simp [(h.of_forces hf).2] at hclosure

/-- A head in a closure, but not in TORQUE, holds its jar. -/
theorem HeadsLaw.holding (h : HeadsLaw s) (hclosure : (s.engines.get k).inClosure = true)
    (htorque : (s.engines.get k).phase ≠ .torque) : Holding (s.engines.get k).phase s k := by
  have hk := h.heads k
  have hruns : (s.channels.get k).phaseRuns = false := by
    rw [← Bool.not_eq_true]
    exact fun hr => htorque (hk.torque.1 hr)
  refine ⟨hk.bound hclosure, (Channel.rests_iff _).2 ⟨hk.channel, hruns, ?_⟩, hk.draw, h.unforced hclosure⟩
  rw [← Bool.not_eq_true]
  intro hd
  rcases hk.drives hd with hr | hf
  · exact htorque (hk.torque.1 hr)
  · simp [h.unforced hclosure] at hf

/-- The valve of a head in a closure is on in FLUSH alone. -/
theorem HeadsLaw.valve_off (h : HeadsLaw s) (hclosure : (s.engines.get k).inClosure = true)
    (hflush : (s.engines.get k).phase ≠ .flush) : (s.engines.get k).steam = false := by
  rw [← Bool.not_eq_true]
  intro hv
  rcases (h.heads k).valve hv with hp | ⟨hf, -⟩
  · exact hflush hp
  · simp [h.unforced hclosure] at hf

theorem Holding.settled {p : Phase} (h : Holding p s k) (hp : (s.engines.get k).phase = p) (htorque : p ≠ .torque)
    (hvalve : (s.engines.get k).steam = true → p = .flush) : Settled s k := by
  obtain ⟨hlawful, hruns, hdrives⟩ := (Channel.rests_iff _).1 h.channel
  refine ⟨⟨fun _ => h.bound, ?_, fun hd => ?_, hlawful, hp ▸ h.draw, fun hv => .inl (hp.trans (hvalve hv))⟩, h.unforced⟩
  · rw [hruns, hp]
    simp [htorque]
  · simp [hdrives] at hd

theorem Holding.writeRecord {p : Phase} (f : Record → Record) (h : Holding p s k) :
    Holding p (writeRecord k f s) k :=
  ⟨by simp [Machine.writeRecord, h.bound], h.channel, h.draw, h.unforced⟩

theorem Holding.engine {p : Phase} (f : Engine → Engine) (h : Holding p s k) : Holding p (modEngine k f s) k :=
  ⟨h.bound, h.channel, h.draw, h.unforced⟩

theorem DrawLaw.idle {p : Phase} {d : OwnDraw} (hp : p.draw = none) (hask : d.ask = none) (hstatus : d.status = .none)
    (hterms : d.terms = none) : DrawLaw p d :=
  ⟨.inl hask, by simp [hterms, hstatus], by simpa [hp] using hstatus⟩

/-- A head without ask and draw holds its jar in any state without a draw. -/
theorem Holding.change {p q : Phase} (h : Holding p s k) (hp : p.draw = none) (hasks : p.asks = none)
    (hq : q.draw = none) : Holding q s k := by
  have hstatus := h.draw.of_none hp
  have hask : (s.draws.get k).ask = none := by
    rcases h.draw.asks with ha | ⟨-, ha⟩
    · exact ha
    · rwa [hasks, Option.map_eq_none_iff] at ha
  exact ⟨h.bound, h.channel, .idle hq hask hstatus (h.draw.terms.2 hstatus), h.unforced⟩

/-- A close leaves a head that holds its jar without a draw. -/
theorem Holding.closed {p q : Phase} {t : State} (h : Holding p s k) (hc : Closes k s t) (hq : q.draw = none) :
    Holding q t k :=
  ⟨(hc.jars k).state.trans h.bound, by rw [hc.channels]; exact h.channel, .idle hq hc.ask hc.status hc.terms,
    fun o => by rw [State.forces, hc.service]; exact h.unforced o⟩

theorem DrawLaw.opened {p : Phase} {d : OwnDraw} {c : DrawClass} (h : DrawLaw p d) (hp : p.draw = some (c, true)) :
    ∃ a, d.terms = some a ∧ a.cls = c ∧ d.isOpen = true := by
  obtain ⟨hcls, hopen⟩ := h.of_draw hp
  obtain ⟨a, ha, hac⟩ := Option.map_eq_some_iff.1 hcls
  exact ⟨a, ha, hac, hopen⟩

theorem Holding.closeDraw {p q : Phase} {c : DrawClass} (h : Holding p s k) (hp : p.draw = some (c, true))
    (hq : q.draw = none) : Closes k s (closeDraw k s) ∧ Holding q (closeDraw k s) k := by
  obtain ⟨a, hterms, -, hopen⟩ := h.draw.opened hp
  have hc := closeDraw_closes hopen hterms
  exact ⟨hc, h.closed hc hq⟩

/-! ## The release and DWELL (R101) -/

@[simp] theorem offerVerdict_engines (k : Fin 4) (s : State) : (offerVerdict k s).engines = s.engines := by
  unfold offerVerdict; split <;> rfl
@[simp] theorem offerVerdict_channels (k : Fin 4) (s : State) : (offerVerdict k s).channels = s.channels := by
  unfold offerVerdict; split <;> rfl
@[simp] theorem offerVerdict_draws (k : Fin 4) (s : State) : (offerVerdict k s).draws = s.draws := by
  unfold offerVerdict; split <;> rfl
@[simp] theorem offerVerdict_tracks (k : Fin 4) (s : State) : (offerVerdict k s).tracks = s.tracks := by
  unfold offerVerdict; split <;> rfl
@[simp] theorem offerVerdict_service (k : Fin 4) (s : State) : (offerVerdict k s).service = s.service := by
  unfold offerVerdict; split <;> rfl

theorem offerVerdict_slot (k : Fin 4) (s : State) : (s.slots.get k).sameJar ((offerVerdict k s).slots.get k) := by
  unfold offerVerdict
  split
  · exact ⟨_, _, _, by rw [modSlot_slots, Four.get_modify_same]; rfl⟩
  · exact ⟨_, _, _, by rw [modSlot_slots, Four.get_modify_same]; rfl⟩

@[simp] theorem releaseSlot_engines (k : Fin 4) (s : State) : (releaseSlot k s).engines = s.engines := by
  simp only [releaseSlot, offerVerdictOnce]; split
  · split <;> split <;> rfl
  · simp
@[simp] theorem releaseSlot_channels (k : Fin 4) (s : State) : (releaseSlot k s).channels = s.channels := by
  simp only [releaseSlot, offerVerdictOnce]; split
  · split <;> split <;> rfl
  · simp
@[simp] theorem releaseSlot_draws (k : Fin 4) (s : State) : (releaseSlot k s).draws = s.draws := by
  simp only [releaseSlot, offerVerdictOnce]; split
  · split <;> split <;> rfl
  · simp
@[simp] theorem releaseSlot_tracks (k : Fin 4) (s : State) : (releaseSlot k s).tracks = s.tracks := by
  simp only [releaseSlot, offerVerdictOnce]; split
  · split <;> split <;> rfl
  · simp
@[simp] theorem releaseSlot_service (k : Fin 4) (s : State) : (releaseSlot k s).service = s.service := by
  simp only [releaseSlot, offerVerdictOnce]; split
  · split <;> split <;> rfl
  · simp

theorem release_engine (k : Fin 4) (s : State) : (release k s).engines.get k = { s.engines.get k with
    phase := if (s.engines.get k).out then .out else .idle, recipe := none, out := false, press := false } := by
  simp [release, Engine.released]

@[simp] theorem release_channels (k : Fin 4) (s : State) : (release k s).channels = s.channels := by simp [release]
@[simp] theorem release_draws (k : Fin 4) (s : State) : (release k s).draws = s.draws := by simp [release]
@[simp] theorem release_service (k : Fin 4) (s : State) : (release k s).service = s.service := by simp [release]

theorem toDwell_waits {k : Fin 4} {s : State} (h : s.reached k .rel = false) :
    toDwell k s = modEngine k (fun x => { x with phase := .dwell }) s := by
  simp [toDwell, h]

theorem toDwell_releases {k : Fin 4} {s : State} (h : s.reached k .rel = true) :
    toDwell k s = release k (modEngine k (fun x => { x with phase := .dwell }) s) := by
  simp [toDwell, h]

@[simp] theorem toDwell_channels (k : Fin 4) (s : State) : (toDwell k s).channels = s.channels := by
  unfold toDwell; split <;> simp
@[simp] theorem toDwell_draws (k : Fin 4) (s : State) : (toDwell k s).draws = s.draws := by
  unfold toDwell; split <;> simp
@[simp] theorem toDwell_service (k : Fin 4) (s : State) : (toDwell k s).service = s.service := by
  unfold toDwell; split <;> simp

/-- The engine after a release, or in DWELL. -/
theorem Holding.release (h : Holding .dwell s k) (hvalve : (s.engines.get k).steam = false) :
    Settled (release k s) k := by
  obtain ⟨hlawful, hruns, hdrives⟩ := (Channel.rests_iff _).1 h.channel
  have hstatus := h.draw.of_none rfl
  have hask : (s.draws.get k).ask = none := by
    rcases h.draw.asks with ha | ⟨-, ha⟩
    · exact ha
    · simpa [Phase.asks] using ha
  have hforces (o : Output) : (Machine.release k s).forces k o = false := by
    rw [State.forces, release_service]
    exact h.unforced o
  have hphase : ((Machine.release k s).engines.get k).phase = .idle
      ∨ ((Machine.release k s).engines.get k).phase = .out := by
    rw [release_engine]
    cases (s.engines.get k).out
    · exact .inl rfl
    · exact .inr rfl
  refine ⟨⟨fun hc => ?_, ?_, fun hd => ?_, by rwa [release_channels], ?_, fun hv => ?_⟩, hforces⟩
  · rw [Engine.inClosure_iff] at hc
    exact absurd hphase (not_or.2 hc)
  · rw [release_channels, hruns]
    rcases hphase with hp | hp <;> simp [hp]
  · rw [release_channels, hdrives] at hd
    exact absurd hd Bool.false_ne_true
  · rw [release_draws]
    rcases hphase with hp | hp <;> rw [hp] <;> exact .idle rfl hask hstatus (h.draw.terms.2 hstatus)
  · rw [release_engine] at hv
    exact absurd hv (by simp [hvalve])

theorem Holding.toDwell (h : Holding .dwell s k) (hvalve : (s.engines.get k).steam = false) :
    Settled (toDwell k s) k := by
  have hdwell := h.engine fun x => { x with phase := .dwell }
  unfold Machine.toDwell
  split
  · exact hdwell.release (by simpa using hvalve)
  · exact hdwell.settled (by simp) (by decide) (by simp [hvalve])

/-! ## Ends of the torque phase (R100, R121 to R123) -/

theorem Holding.torqueEnded (h : Holding .torque s k) (out : Bool) (hp : (s.engines.get k).phase = .torque)
    (hvalve : (s.engines.get k).steam = false) : Settled (torqueEnded k out s) k := by
  obtain ⟨hclosed, hdwell⟩ := h.closeDraw rfl (rfl : Phase.draw .dwell = none)
  unfold Machine.torqueEnded
  rw [if_pos hp]
  exact (hdwell.engine _).toDwell (by simp [hclosed.engine, hvalve])

/-- A running phase of a lawful head ends with its channel at rest. -/
theorem HeadsLaw.endPhase (h : HeadsLaw s) (kind : TorqueEnd) (out : Bool) (f : Channel → Channel)
    (hp : (s.engines.get k).phase = .torque) (hf : (f (s.channels.get k)).rests) :
    Settled (endPhase k kind out f s) k := by
  have hclosure : (s.engines.get k).inClosure = true := by simp [Engine.inClosure, hp]
  have hk := h.heads k
  have hbound : ((Machine.writeRecord k (Record.torqueDone kind ((s.channels.get k).tauFinal kind)
      ((s.channels.get k).peak.getD 0)) s).slots.get k).state = .bound := by
    simp [Machine.writeRecord, hk.bound hclosure]
  have hholding : Holding .torque (modChannel k f (Machine.writeRecord k (Record.torqueDone kind
      ((s.channels.get k).tauFinal kind) ((s.channels.get k).peak.getD 0)) s)) k :=
    ⟨hbound, by simpa using hf, hp ▸ hk.draw, h.unforced hclosure⟩
  exact hholding.torqueEnded out hp (h.valve_off hclosure (by simp [hp]))

/-! ## Trips (6.5) -/

theorem clearForcedDrive_unforced (h : s.forces k .drive = false) : clearForcedDrive k s = s := by
  unfold clearForcedDrive
  rw [State.forces_drive, h]
  rfl

@[simp] theorem clearForcedDrive_channels (k : Fin 4) (s : State) :
    (clearForcedDrive k s).channels = s.channels := by unfold clearForcedDrive; split <;> rfl
@[simp] theorem clearForcedDrive_engines (k : Fin 4) (s : State) :
    (clearForcedDrive k s).engines = s.engines := by unfold clearForcedDrive; split <;> rfl
@[simp] theorem clearForcedDrive_slots (k : Fin 4) (s : State) :
    (clearForcedDrive k s).slots = s.slots := by unfold clearForcedDrive; split <;> rfl
@[simp] theorem clearForcedDrive_draws (k : Fin 4) (s : State) :
    (clearForcedDrive k s).draws = s.draws := by unfold clearForcedDrive; split <;> rfl
@[simp] theorem clearForcedDrive_tracks (k : Fin 4) (s : State) :
    (clearForcedDrive k s).tracks = s.tracks := by unfold clearForcedDrive; split <;> rfl

/-- The forced run of a motor is over; one of another output or head goes on. -/
theorem clearForcedDrive_forces (k : Fin 4) (s : State) (o : Output) : (clearForcedDrive k s).forces k o = true ↔
    s.forces k o = true ∧ o ≠ .drive := by
  unfold clearForcedDrive
  rw [State.forces_drive]
  split
  · next hdrive =>
    obtain ⟨r, hr, rfl, hd⟩ := (State.forces_iff s k .drive).1 hdrive
    simp only [State.forces, hr, Bool.and_eq_true, decide_eq_true_eq, true_and]
    refine ⟨fun hf => absurd hf Bool.false_ne_true, fun ⟨ho, hne⟩ => absurd (ho.symm.trans hd) hne⟩
  · next hdrive =>
    refine ⟨fun ho => ⟨ho, ?_⟩, And.left⟩
    rintro rfl
    exact hdrive ho

/-- A trip outside a torque phase: the channel comes to rest, and a forced run of the motor is over. -/
theorem HeadsLaw.trip_outside (h : HeadsLaw s) (hreset : s.inReset = none) (hruns : (s.channels.get k).phaseRuns = false)
    (f : Channel → Channel) (hf : (f (s.channels.get k)).rests)
    (hlatch : ∀ x : Channel, x.causes.overcurrent = true → (f x).causes.overcurrent = true) :
    HeadsLaw (modChannel k f (clearForcedDrive k s)) := by
  have hk := h.heads k
  obtain ⟨hlawful, hstopped, hdrives⟩ := (Channel.rests_iff _).1 hf
  have htorque : (s.engines.get k).phase ≠ .torque := fun hp => by simp [hk.torque.2 hp] at hruns
  have hunit : (clearForcedDrive k s).unit = s.unit := (State.still_fields (still_clearForcedDrive k s)).2.1
  refine h.of_acts (Acts.refl.clearForcedDrive.channel f hlatch) hreset
    ⟨by simpa using hk.bound, ?_, fun hd => ?_, by simpa using hlawful, by simpa using hk.draw, fun hv => ?_⟩
    fun o ho => ?_
  · simp [hstopped, htorque]
  · simp [hdrives] at hd
  · rcases hk.valve (by simpa using hv) with hp | ⟨hsteam, hmode⟩
    · exact .inl (by simpa using hp)
    · exact .inr ⟨(clearForcedDrive_forces k s .steam).2 ⟨hsteam, by decide⟩, by simpa [hunit] using hmode⟩
  · have hs := ((clearForcedDrive_forces k s o).1 ho).1
    exact ⟨hs, by simpa using (h.of_forces hs).2⟩

theorem HeadsLaw.clearForced_in_torque (h : HeadsLaw s) (hp : (s.engines.get k).phase = .torque) :
    clearForcedDrive k s = s :=
  clearForcedDrive_unforced (h.unforced (by simp [Engine.inClosure, hp]) _)

theorem HeadsLaw.tripHalt (h : HeadsLaw s) (hreset : s.inReset = none) (cause : TripCause) (k : Fin 4) :
    HeadsLaw (tripHalt cause s k) := by
  have hk := h.heads k
  have hacts : Acts k s (Machine.tripHalt cause s k) := Acts.refl.tripHalt cause
  revert hacts
  unfold Machine.tripHalt
  split
  · next hruns =>
    have hp := hk.torque.1 hruns
    rw [h.clearForced_in_torque hp]
    exact fun hacts => h.of_settled hacts hreset
      (h.endPhase _ _ _ hp (Channel.rests_trip _ ((Channel.lawful_iff _).1 hk.channel).2.2.2))
  · next hruns =>
    rw [Bool.not_eq_true] at hruns
    exact fun _ => h.trip_outside hreset hruns _ (Channel.rests_tripOrAdd _ hk.channel hruns)
      (Channel.latched_tripOrAdd cause)

theorem Engine.takenOut_cases (x : Engine) :
    x.takenOut = x ∨ x.phase = .idle ∧ x.takenOut = { x with phase := .out } := by
  unfold Engine.takenOut
  split
  · exact .inr ⟨‹_›, rfl⟩
  · exact .inl rfl

/-- A head taken out is lawful as it was in IDLE. -/
theorem HeadsLaw.takenOut (h : HeadsLaw s) (hreset : s.inReset = none) (k : Fin 4) :
    HeadsLaw (modEngine k Engine.takenOut s) := by
  have hk := h.heads k
  refine h.of_acts (Acts.refl.engine _) hreset ?_ fun o ho => ⟨ho, ?_⟩
  · obtain hsame | ⟨hidle, hout⟩ := (s.engines.get k).takenOut_cases
    · exact ⟨by simpa [hsame] using hk.bound, by simpa [hsame] using hk.torque, hk.drives, hk.channel,
        by simpa [hsame] using hk.draw, by
          simp only [modEngine_engines, Four.get_modify_same, hsame]
          exact hk.valve⟩
    · have hruns : (s.channels.get k).phaseRuns = false := by
        rw [← Bool.not_eq_true, hk.torque, hidle]
        decide
      have hdraw := hk.draw
      rw [hidle] at hdraw
      refine ⟨fun hc => ?_, ?_, hk.drives, hk.channel, ?_, fun hv => ?_⟩
      · simp [hout, Engine.inClosure] at hc
      · simp [hout, hruns]
      · simpa [hout] using (⟨hdraw.asks, hdraw.terms, hdraw.agrees⟩ : DrawLaw .out (s.draws.get k))
      · simp only [modEngine_engines, Four.get_modify_same, hout] at hv
        rcases hk.valve hv with hp | hf
        · simp [hidle] at hp
        · exact .inr hf
  · obtain hsame | ⟨-, hout⟩ := (s.engines.get k).takenOut_cases
    · simpa [hsame] using (h.of_forces ho).2
    · simp [hout, Engine.inClosure]

theorem HeadsLaw.tripOvercurrent (h : HeadsLaw s) (hreset : s.inReset = none) (k : Fin 4) :
    HeadsLaw (tripOvercurrent k s) := by
  have hk := h.heads k
  have hacts : Acts k s (Machine.tripOvercurrent k s) := Acts.refl.tripOvercurrent
  revert hacts
  unfold Machine.tripOvercurrent
  split
  · split
    · next hruns =>
      have hp := hk.torque.1 hruns
      rw [h.clearForced_in_torque hp]
      exact fun hacts => h.of_settled hacts hreset (h.endPhase _ _ _ hp (Channel.rests_overcurrent _))
    · next hruns =>
      rw [Bool.not_eq_true] at hruns
      have htrip := h.trip_outside hreset hruns Channel.overcurrent (Channel.rests_overcurrent _) fun _ _ => rfl
      split
      · have hin : (modChannel k Channel.overcurrent (clearForcedDrive k s)).inReset = none :=
          (State.still_fields (still_clearForcedDrive k s)).2.2.2.2.2.2.2.2.1.trans hreset
        exact fun _ => htrip.takenOut hin k
      · exact fun _ => htrip
  · exact fun _ => h

theorem HeadsLaw.watchComparator (h : HeadsLaw s) (hreset : s.inReset = none) (k : Fin 4) :
    HeadsLaw (watchComparator k s) := by
  unfold Machine.watchComparator
  split
  · exact h.tripOvercurrent hreset k
  · exact h

end
end Sys2Proof.Machine

/-! The laws of the heads through forced runs, the phases of a closure, the reports of thresholds and the entries to RUN,
STAND and SAFE. -/

namespace Sys2Proof.Machine
open Sys2Proof

section
variable {s : State} {k : Fin 4}

/-! ## Forced runs (R189) -/

theorem endForcedRun_service (s : State) : (endForcedRun s).service = { s.service with forced := none } := by
  unfold endForcedRun
  split
  · next hnone => rw [← hnone]
  · split <;> rfl

/-- Without a forced run there is nothing to end. -/
theorem endForcedRun_none (h : s.service.forced = none) : endForcedRun s = s := by
  simp [endForcedRun, h]

/-- A head of a forced run holds no closure, runs no torque phase and draws nothing. -/
theorem HeadsLaw.forced_head (h : HeadsLaw s) {o : Output} (hf : s.forces k o = true) :
    (s.channels.get k).phaseRuns = false ∧ (s.engines.get k).phase ≠ .flush := by
  have hclosure := (h.of_forces hf).2
  have hphase : ∀ p, Engine.inClosure { s.engines.get k with phase := p } = true → (s.engines.get k).phase ≠ p := by
    intro p hp he
    have : s.engines.get k = { s.engines.get k with phase := p } := by rw [← he]
    rw [← this, hclosure] at hp
    exact Bool.false_ne_true hp
  refine ⟨?_, hphase .flush rfl⟩
  rw [← Bool.not_eq_true]
  exact fun hr => hphase .torque rfl ((h.heads k).torque.1 hr)

theorem HeadsLaw.endForcedRun (h : HeadsLaw s) (hreset : s.inReset = none) : HeadsLaw (endForcedRun s) := by
  cases hforced : s.service.forced with
  | none => rwa [endForcedRun_none hforced]
  | some r =>
    have hf : s.forces r.head r.output = true := (State.forces_iff s _ _).2 ⟨r, hforced, rfl, rfl⟩
    have hother (o : Output) (ho : r.output ≠ o) : s.forces r.head o = false := by
      simp [State.forces, hforced, ho]
    obtain ⟨hruns, hflush⟩ := h.forced_head hf
    have hk := h.heads r.head
    have hclosure := (h.of_forces hf).2
    have hvalve (ho : r.output ≠ .steam) : (s.engines.get r.head).steam = false := by
      rw [← Bool.not_eq_true]
      intro hv
      rcases hk.valve hv with hp | ⟨hs, -⟩
      · exact hflush hp
      · simp [hother _ ho] at hs
    have hdrives (ho : r.output ≠ .drive) : (s.channels.get r.head).drivesNow = false := by
      rw [← Bool.not_eq_true]
      intro hd
      rcases hk.drives hd with hr | hs
      · simp [hruns] at hr
      · simp [hother _ ho] at hs
    have hended : Acts r.head s { s with service := { s.service with forced := none } } :=
      (OwnChange.unforced s hf).acts
    have hnot (o : Output) {t : State} (ht : t.forces r.head o = false) (ho : t.forces r.head o = true) :
        s.forces r.head o = true ∧ (t.engines.get r.head).inClosure = false := by simp [ht] at ho
    simp only [Machine.endForcedRun, hforced]
    cases hout : r.output with
    | steam =>
      refine h.of_acts (hended.engine _) hreset ⟨?_, ?_, fun hd => ?_, hk.channel, ?_, fun hv => ?_⟩ fun o => hnot o rfl
      · simpa [Engine.inClosure] using hk.bound
      · simpa using hk.torque
      · simp [hdrives (by simp [hout])] at hd
      · simpa using hk.draw
      · simp at hv
    | press =>
      refine h.of_acts (hended.engine _) hreset ⟨?_, ?_, fun hd => ?_, hk.channel, ?_, fun hv => ?_⟩ fun o => hnot o rfl
      · simpa [Engine.inClosure] using hk.bound
      · simpa using hk.torque
      · simp [hdrives (by simp [hout])] at hd
      · simpa using hk.draw
      · simp [hvalve (by simp [hout])] at hv
    | drive =>
      have hrests := Channel.rests_endForced ((Channel.lawful_iff _).1 hk.channel).2.2.2 hruns
      obtain ⟨hlawful, hstopped, hstill⟩ := (Channel.rests_iff _).1 hrests
      have htorque : (s.engines.get r.head).phase ≠ .torque := fun hp => by simp [hk.torque.2 hp] at hruns
      refine h.of_acts (hended.channel _ Channel.latched_endForced) hreset
        ⟨hk.bound, ?_, fun hd => ?_, by simpa using hlawful, hk.draw, fun hv => ?_⟩ fun o => hnot o rfl
      · simp [hstopped, htorque]
      · simp [hstill] at hd
      · have hoff := hvalve (by simp [hout])
        rw [modChannel_engines] at hv
        simp [hoff] at hv

/-! ## Flush and torque (5.5, 5.7) -/

theorem Holding.endFlush (h : Holding .flush s k) (kind : FlushEnd) : Settled (endFlush k kind s) k := by
  have hrecord := (h.engine fun x => { x with steam := false }).writeRecord fun r => { r with flushEnd := kind }
  obtain ⟨hclosed, hseat⟩ := hrecord.closeDraw rfl (rfl : Phase.draw .seat = none)
  refine (hseat.engine _).settled ?_ (by decide) ?_
  · simp
  · simp [hclosed.engine]

theorem Holding.enterFlush (h : Holding .flush s k) : Settled (enterFlush k s) k := by
  have hentered := h.engine fun x => { x with phase := .flush, asking := false }
  unfold Machine.enterFlush
  dsimp only
  split
  · exact hentered.endFlush _
  split
  · exact hentered.endFlush _
  · exact (hentered.engine _).settled (by simp) (by decide) fun _ => rfl

/-- The rest of the laws carries over where head `k` alone acts. -/
theorem HeadsLaw.enterTorque {t : State} (h : HeadsLaw s) (hreset : s.inReset = none) (hacts : Acts k s t)
    (hk : Holding .torque t k) (hvalve : (t.engines.get k).steam = false) : HeadsLaw (enterTorque k t) := by
  have hentered := hk.engine fun x => { x with phase := .torque, asking := false }
  have hphase : ((modEngine k (fun x => { x with phase := .torque, asking := false }) t).engines.get k).phase = .torque
      ∧ ((modEngine k (fun x => { x with phase := .torque, asking := false }) t).engines.get k).steam = false := by
    simp [hvalve]
  unfold Machine.enterTorque
  dsimp only
  split
  · refine h.of_settled (((hacts.engine _).endBeforeStart _).torqueEnded _) hreset ?_
    exact (hentered.writeRecord _).torqueEnded false hphase.1 hphase.2
  · obtain ⟨hlawful, hruns⟩ := Channel.lawful_startPhase (t.boundRecipe k)
      (t.dutyCeiling (t.boundRecipe k).maxDuty) hk.channel
    have hstarted : Acts k s (modChannel k (Channel.startPhase (t.boundRecipe k)
        (t.dutyCeiling (t.boundRecipe k).maxDuty)) (modEngine k (fun x => { x with phase := .torque, asking := false })
          t)) := (hacts.engine _).channel _ (Channel.latched_startPhase _ _)
    have hin := (State.still_fields hstarted.still).2.2.2.2.2.2.2.2.1.trans hreset
    refine (h.of_settled hstarted hreset ⟨⟨fun _ => hk.bound, ?_, fun _ => .inl ?_, ?_, ?_, fun hv => ?_⟩,
      hk.unforced⟩).watchComparator hin k
    · simp [hruns]
    · simp [hruns]
    · simpa using hlawful
    · simpa using hk.draw
    · simp [hvalve] at hv

/-! ## Draws that open (7.7) -/

/-- The phase that a class's open leads to. -/
def DrawClass.opens : DrawClass → Phase
  | .steam => .flush
  | .drive => .torque

/-- The waiting and announced states of a class. -/
def DrawClass.awaits (c : DrawClass) (p : Phase) : Prop :=
  match c with
  | .steam => p = .steamWait ∨ p = .steamAnnounced
  | .drive => p = .driveWait ∨ p = .driveAnnounced

theorem headOpens_of_awaits {t : State} {c : DrawClass} (h : c.awaits (t.engines.get k).phase) :
    headOpens k c t = match c with | .steam => enterFlush k t | .drive => enterTorque k t := by
  cases c <;> rcases h with h | h <;> simp only [headOpens, h]

theorem HeadsLaw.headOpens {t : State} {c : DrawClass} (h : HeadsLaw s) (hreset : s.inReset = none)
    (hacts : Acts k s t) (hk : Holding c.opens t k) (hawaits : c.awaits (t.engines.get k).phase)
    (hvalve : (t.engines.get k).steam = false) : HeadsLaw (headOpens k c t) := by
  rw [headOpens_of_awaits hawaits]
  cases c with
  | steam => exact h.of_settled hacts.enterFlush hreset hk.enterFlush
  | drive => exact h.enterTorque hreset hacts hk hvalve

theorem DrawClass.awaits_inClosure {c : DrawClass} {x : Engine} (h : c.awaits x.phase) :
    x.inClosure = true ∧ x.phase ≠ .torque ∧ x.phase ≠ .flush := by
  cases c <;> rcases h with h | h <;> simp [Engine.inClosure, h]

/-- A PENDING draw stands in the ANNOUNCED state of its class. -/
theorem DrawLaw.pending {p : Phase} {d : OwnDraw} {a : Ask} (h : DrawLaw p d) (hs : d.status = .pending)
    (ha : d.terms = some a) : a.cls.awaits p := by
  have hagrees := h.agrees
  cases p <;> simp [Phase.draw, hs, ha, OwnDraw.isOpen] at hagrees <;> simp [DrawClass.awaits, hagrees]

theorem HeadsLaw.openSent (h : HeadsLaw s) (hreset : s.inReset = none) (k : Fin 4) (c : DrawClass) :
    HeadsLaw (openSent k c s) := by
  have hk := h.heads k
  unfold Machine.openSent
  split
  · next hframe =>
    obtain ⟨a, ha, rfl⟩ := Option.map_eq_some_iff.1 hframe.2
    split
    · next hpending =>
      have hawaits := hk.draw.pending hpending ha
      obtain ⟨hclosure, htorque, hflush⟩ := DrawClass.awaits_inClosure hawaits
      have hholding := h.holding hclosure htorque
      have hask : (s.draws.get k).ask = none := by
        rcases hk.draw.asks with hn | ⟨hs, -⟩
        · exact hn
        · simp [hpending] at hs
      have hopened : Holding a.cls.opens (modDraw k (fun d => { d with status := .opened, openFrame := .sent }) s) k := by
        refine ⟨hholding.bound, hholding.channel, ?_, hholding.unforced⟩
        rw [modDraw_draws, Four.get_modify_same]
        refine ⟨.inl hask, by simp [ha], ?_⟩
        cases hcls : a.cls <;> simp [DrawClass.opens, Phase.draw, ha, hcls, OwnDraw.isOpen]
      exact (h.headOpens hreset (Acts.refl.draw _) hopened hawaits (h.valve_off hclosure hflush)).moves
        (@moves_arbiter true _ _)
    · next hforced =>
      refine h.of_acts (Acts.refl.draw _) hreset ⟨hk.bound, hk.torque, hk.drives, hk.channel, ?_, hk.valve⟩
        fun o ho => ⟨ho, (h.of_forces ho).2⟩
      rw [modDraw_draws, Four.get_modify_same]
      exact ⟨hk.draw.asks, hk.draw.terms, hk.draw.agrees⟩
    · exact h
    · exact h
  · exact h

/-- The classes' asks and their phases (R88, R97). -/
theorem State.askOf_cls (s : State) (k : Fin 4) (c : DrawClass) : (s.askOf k c).cls = c := by
  cases c <;> rfl

/-- A latest start of a head that awaits its draw. -/
theorem HeadsLaw.forceOpen {t : State} {c : DrawClass} (h : HeadsLaw s) (hreset : s.inReset = none)
    (hacts : Acts k s t) (hk : Holding (t.engines.get k).phase t k) (hawaits : c.awaits (t.engines.get k).phase)
    (hvalve : (t.engines.get k).steam = false) : HeadsLaw (forceOpen k c t) := by
  have hopen : ∀ u : State, Acts k s u → u.engines = t.engines → u.slots = t.slots → u.channels = t.channels →
      u.service = t.service → DrawLaw c.opens (u.draws.get k) →
      HeadsLaw (checkAndRun c (Machine.headOpens k c (Machine.writeRecord k (Record.forced c) u))) := by
    intro u hu hengines hslots hchannels hservice hdraw
    have hholding : Holding c.opens u k := ⟨by rw [hslots]; exact hk.bound, by rw [hchannels]; exact hk.channel,
      hdraw, fun o => by rw [State.forces, hservice]; exact hk.unforced o⟩
    exact (h.headOpens hreset (hu.record _) (hholding.writeRecord _) (by simpa [hengines] using hawaits)
      (by simpa [hengines] using hvalve)).moves (moves_checkAndRun c _)
  unfold Machine.forceOpen
  dsimp only
  split
  · next hpending =>
    refine hopen _ (hacts.draw _) rfl rfl rfl rfl ?_
    have hask : (t.draws.get k).ask = none := by
      rcases hk.draw.asks with hn | ⟨hs, -⟩
      · exact hn
      · simp [hpending] at hs
    have hterms : (t.draws.get k).terms.map Ask.cls = some c := by
      have hagrees := hk.draw.agrees
      cases c <;> rcases hawaits with hp | hp <;> simp [hp, Phase.draw, hpending] at hagrees <;> simp [hagrees]
    rw [modDraw_draws, Four.get_modify_same]
    refine ⟨.inl hask, ?_, ?_⟩
    · simp [hk.draw.terms, hpending]
    · cases c <;> simp [DrawClass.opens, Phase.draw, hterms, OwnDraw.isOpen]
  · have hcls : ((t.askOf k c).cls = c) := State.askOf_cls t k c
    have hlaw (life : Nat) (d : OwnDraw) (f : OpenFrame) (p : PerClass Nat) : DrawLaw c.opens { d with
        ask := none, status := .openForced, terms := some (t.askOf k c), openFrame := f, countdown := p } := by
      refine ⟨.inl rfl, by simp, ?_⟩
      cases c <;> simp [DrawClass.opens, Phase.draw, OwnDraw.isOpen, State.askOf]
    unfold openWaiting
    split
    · next ha =>
      refine hopen _ (Acts.draw _ (hacts.tail (.announce t _ _ ha))) rfl rfl rfl rfl ?_
      rw [modDraw_draws, Four.get_modify_same]
      exact hlaw 0 _ _ _
    · refine hopen _ (hacts.draw _) rfl rfl rfl rfl ?_
      rw [modDraw_draws, Four.get_modify_same]
      exact hlaw 0 _ _ _

/-! ## Asks (5.4, 5.7) -/

/-- A head in the WAIT of a class asks: its draw agrees, and the arbiter's run keeps the laws. -/
theorem HeadsLaw.takeAsk {t : State} {c : DrawClass} (h : HeadsLaw s) (hreset : s.inReset = none) (hacts : Acts k s t)
    (hk : Holding (t.engines.get k).phase t k) (hasks : (t.engines.get k).phase.asks = some c)
    (hvalve : (t.engines.get k).steam = false) : HeadsLaw (takeAsk k c t) := by
  have htorque : (t.engines.get k).phase ≠ .torque := fun hp => by simp [hp, Phase.asks] at hasks
  unfold Machine.takeAsk
  split
  · next hnone =>
    refine HeadsLaw.moves (h.of_settled (hacts.draw fun d => { d with ask := some (t.askOf k c) }) hreset ?_)
      (@moves_arbiter true c _)
    refine @Holding.settled _ _ (t.engines.get k).phase ⟨hk.bound, hk.channel, ?_, hk.unforced⟩ rfl htorque fun hv => ?_
    · rw [modDraw_draws, Four.get_modify_same]
      exact ⟨.inr ⟨hnone, by simp [hasks, State.askOf_cls]⟩, hk.draw.terms, hk.draw.agrees⟩
    · rw [modDraw_engines, hvalve] at hv
      exact absurd hv Bool.false_ne_true
  · exact h.of_settled hacts hreset (hk.settled rfl htorque fun hv => by simp [hvalve] at hv)

theorem HeadsLaw.beginAsk {t : State} (h : HeadsLaw s) (hreset : s.inReset = none) (hacts : Acts k s t)
    (hk : Holding (t.engines.get k).phase t k) (hp : (t.engines.get k).phase = .steamWait)
    (hvalve : (t.engines.get k).steam = false) : HeadsLaw (beginAsk k t) := by
  unfold Machine.beginAsk
  split
  · exact h.of_settled hacts hreset (hk.settled rfl (by simp [hp]) fun hv => by simp [hvalve] at hv)
  · refine h.takeAsk hreset (hacts.engine _) ?_ ?_ ?_
    · simpa using hk.engine fun x => { x with asking := true }
    · simp [hp, Phase.asks]
    · simpa using hvalve

theorem HeadsLaw.decideDrive {t : State} (h : HeadsLaw s) (hreset : s.inReset = none) (hacts : Acts k s t)
    (hk : Holding .seat t k) (hvalve : (t.engines.get k).steam = false) : HeadsLaw (decideDrive k t) := by
  have hdwell : Holding .dwell t k := hk.change rfl rfl rfl
  have hwait : Holding .driveWait t k := hk.change rfl rfl rfl
  unfold Machine.decideDrive
  split
  · exact h.of_settled (hacts.endBeforeStart _).toDwell hreset ((hdwell.writeRecord _).toDwell hvalve)
  split
  · exact h.of_settled (hacts.endBeforeStart _).toDwell hreset ((hdwell.writeRecord _).toDwell hvalve)
  have hasking := hwait.engine fun x => { x with phase := .driveWait, asking := true }
  dsimp only
  split
  · refine h.forceOpen hreset (hacts.engine _) ?_ ?_ ?_
    · simpa using hasking
    · simp [DrawClass.awaits]
    · simpa using hvalve
  · refine h.takeAsk hreset (hacts.engine _) ?_ ?_ ?_
    · simpa using hasking
    · simp [Phase.asks]
    · simpa using hvalve

theorem HeadsLaw.capCheck {t : State} (h : HeadsLaw s) (hreset : s.inReset = none) (hacts : Acts k s t)
    (hk : Holding .bound t k) (hvalve : (t.engines.get k).steam = false) : HeadsLaw (capCheck k t) := by
  have hwait : Holding .steamWait t k := hk.change rfl rfl rfl
  have hdwell : Holding .dwell t k := hk.change rfl rfl rfl
  unfold Machine.capCheck
  split
  · have hcapped := (hwait.writeRecord fun r => { r with cap := .yes }).engine fun x => { x with phase := .steamWait }
    dsimp only
    split
    · refine h.beginAsk hreset ((hacts.record _).engine _) ?_ ?_ ?_
      · simpa using hcapped
      · simp
      · simpa using hvalve
    · exact h.of_settled ((hacts.record _).engine _) hreset
        (hcapped.settled (by simp) (by decide) fun hv => by simp [hvalve] at hv)
  · exact h.of_settled ((hacts.record _).reason _).toDwell hreset
      (((hdwell.writeRecord _).writeRecord _).toDwell (by simpa [addReason] using hvalve))

/-! ## Reports of thresholds (R13, R86) -/

/-- A change of a track is none of the laws' concern. -/
theorem HeadsLaw.marks (h : HeadsLaw s) (k : Fin 4) (f : Track → Track) : HeadsLaw (modTrack k f s) :=
  ⟨fun j => ⟨(h.heads j).bound, (h.heads j).torque, (h.heads j).drives, (h.heads j).channel, (h.heads j).draw,
    (h.heads j).valve⟩, h.forced, h.rests⟩

theorem HeadsLaw.headThreshold (h : HeadsLaw s) (hreset : s.inReset = none) (k : Fin 4) (x : Threshold) :
    HeadsLaw (headThreshold k x s) := by
  have hk := h.heads k
  have hholding {p : Phase} (hp : (s.engines.get k).phase = p) (hc : Engine.inClosure { phase := p } = true)
      (ht : p ≠ .torque) : Holding p s k := by
    subst hp
    exact h.holding hc ht
  have hvalve {p : Phase} (hp : (s.engines.get k).phase = p) (hc : Engine.inClosure { phase := p } = true)
      (hf : p ≠ .flush) : (s.engines.get k).steam = false := by
    subst hp
    exact h.valve_off hc hf
  have hforce {c : DrawClass} (hawaits : c.awaits (s.engines.get k).phase) : HeadsLaw (Machine.forceOpen k c s) := by
    obtain ⟨hclosure, htorque, hflush⟩ := DrawClass.awaits_inClosure hawaits
    exact h.forceOpen hreset .refl (h.holding hclosure htorque) hawaits (h.valve_off hclosure hflush)
  unfold Machine.headThreshold
  split
  · next hp => exact h.capCheck hreset .refl (hholding hp rfl (by decide)) (hvalve hp rfl (by decide))
  · next hp =>
    exact h.beginAsk hreset .refl (hp ▸ hholding hp rfl (by decide)) hp (hvalve hp rfl (by decide))
  · next hp => exact hforce (.inl hp)
  · next hp => exact hforce (.inr hp)
  · next hp => exact h.of_settled (Acts.refl.endFlush _) hreset ((hholding hp rfl (by decide)).endFlush _)
  · next hp => exact hforce (.inl hp)
  · next hp => exact hforce (.inr hp)
  · next hp =>
    exact h.of_settled (Acts.refl.endPhase _ _ _ fun _ hc => hc) hreset (h.endPhase _ _ _ hp (Channel.rests_finish _))
  · next hp =>
    exact h.of_settled Acts.refl.release hreset ((hholding hp rfl (by decide)).release (hvalve hp rfl (by decide)))
  · exact h

/-- A head whose slot is not BOUND holds no closure. -/
theorem HeadLaw.open_slot (h : HeadLaw s k) (hslot : (s.slots.get k).state ≠ .bound) :
    (s.engines.get k).inClosure = false := by
  rw [← Bool.not_eq_true]
  exact fun hc => hslot (h.bound hc)

/-- A head without a closure is lawful whatever its slot becomes. -/
theorem HeadsLaw.slot (h : HeadsLaw s) (hreset : s.inReset = none) (f : Slot → Slot)
    (hpocket : ∀ x, (f x).pocket = x.pocket)
    (hf : (s.engines.get k).inClosure = true → (f (s.slots.get k)).state = .bound) : HeadsLaw (modSlot k f s) := by
  have hk := h.heads k
  refine h.of_acts (Acts.refl.slot f hpocket) hreset
    ⟨by simpa using hf, hk.torque, hk.drives, hk.channel, hk.draw, hk.valve⟩ fun o ho => ⟨ho, (h.of_forces ho).2⟩

/-- What leaves every head's laws their subjects. -/
theorem HeadsLaw.congr {t : State} (h : HeadsLaw s) (hengines : t.engines = s.engines)
    (hslots : ∀ j, (t.slots.get j).state = (s.slots.get j).state) (hchannels : t.channels = s.channels)
    (hdraws : t.draws = s.draws) (hservice : t.service.forced = s.service.forced) (hmode : t.unit.mode = s.unit.mode)
    (hreset : t.inReset = s.inReset) : HeadsLaw t := by
  have hforces (j : Fin 4) (o : Output) : t.forces j o = s.forces j o := by simp only [State.forces, hservice]
  refine ⟨fun j => ?_, ?_, ?_⟩
  · have hj := h.heads j
    exact ⟨by rw [hengines, hslots]; exact hj.bound, by rw [hengines, hchannels]; exact hj.torque,
      by rw [hchannels, hforces]; exact hj.drives, by rw [hchannels]; exact hj.channel,
      by rw [hengines, hdraws]; exact hj.draw, by rw [hengines, hforces, hmode]; exact hj.valve⟩
  · rw [hservice, hengines, hmode]
    exact h.forced
  · rw [hreset, hengines, hchannels]
    exact h.rests

theorem HeadsLaw.offerVerdict (h : HeadsLaw s) (k : Fin 4) : HeadsLaw (offerVerdict k s) := by
  refine h.congr (by simp) (fun j => ?_) (by simp) (by simp) (by simp) ?_ ?_
  · by_cases hjk : j = k
    · exact hjk ▸ (offerVerdict_slot k s).state
    · unfold Machine.offerVerdict
      split <;> simp [Four.get_modify_other _ _ hjk]
  · rw [(State.still_fields (still_offerVerdict k s)).2.1]
  · exact (State.still_fields (still_offerVerdict k s)).2.2.2.2.2.2.2.2.1

theorem HeadsLaw.settleJar (h : HeadsLaw s) (hreset : s.inReset = none) (hc : (s.engines.get k).inClosure = false)
    (v : Verdict) (r : Reasons) : HeadsLaw (settleJar k v r s) :=
  (h.slot hreset (Slot.settle v r) (fun _ => rfl) (by simp [hc])).offerVerdict k

theorem HeadsLaw.bindJar (h : HeadsLaw s) (hreset : s.inReset = none) (hc : (s.engines.get k).inClosure = false)
    (hout : (s.engines.get k).phase ≠ .out) (hrun : s.unit.mode = .run) (n : Nat) : HeadsLaw (bindJar k n s) := by
  have hk := h.heads k
  have hidle : (s.engines.get k).phase = .idle := (Engine.rests_of_not_inClosure hc).resolve_right hout
  have hforces (o : Output) : s.forces k o = false := by
    rw [← Bool.not_eq_true]
    intro hf
    simp [(h.of_forces hf).1] at hrun
  have hruns : (s.channels.get k).phaseRuns = false := by
    rw [← Bool.not_eq_true, hk.torque, hidle]
    decide
  have hrests : (s.channels.get k).rests := by
    refine (Channel.rests_iff _).2 ⟨hk.channel, hruns, ?_⟩
    rw [← Bool.not_eq_true]
    intro hd
    rcases hk.drives hd with hr | hf
    · simp [hruns] at hr
    · simp [hforces] at hf
  have hdraw := hk.draw
  rw [hidle] at hdraw
  have hvalve : (s.engines.get k).steam = false := by
    rw [← Bool.not_eq_true]
    intro hv
    rcases hk.valve hv with hp | ⟨hf, -⟩
    · simp [hidle] at hp
    · simp [hforces] at hf
  refine h.of_settled (Acts.refl.bindJar n hrun) hreset (@Holding.settled _ _ .bound ⟨?_, ?_, ?_, hforces⟩ ?_
    (by decide) ?_)
  · simp [Machine.bindJar, Slot.bind]
  · simpa [Machine.bindJar] using Channel.rests_rearm _ hrests
  · exact ⟨hdraw.asks, hdraw.terms, hdraw.agrees⟩
  · simp [Machine.bindJar, Engine.bind]
  · simp [Machine.bindJar, Engine.bind, hvalve]

theorem HeadsLaw.decideJar (h : HeadsLaw s) (hreset : s.inReset = none) (hc : (s.engines.get k).inClosure = false)
    (hrun : s.unit.mode = .run) : HeadsLaw (decideJar k s) := by
  unfold Machine.decideJar
  split
  · exact h.settleJar hreset hc _ _
  · exact h.settleJar hreset hc _ _
  split
  · split
    · split
      · exact h.settleJar hreset hc _ _
      · next hout => exact h.bindJar hreset hc hout hrun _
    · exact h.settleJar hreset hc _ _
  · exact h.settleJar hreset hc _ _
  · exact h.settleJar hreset hc _ _

theorem HeadsLaw.slotIntakeClose (h : HeadsLaw s) (hreset : s.inReset = none) (k : Fin 4) :
    HeadsLaw (slotIntakeClose k s) := by
  unfold Machine.slotIntakeClose
  split
  · next hopen =>
    have hc := (h.heads k).open_slot (by simp [hopen])
    have hsupplied : HeadsLaw (supplyDefaults k s) := h.slot hreset _ (fun _ => rfl) (by simp [hc])
    split
    · next hrun => exact hsupplied.decideJar hreset hc hrun
    · exact hsupplied.settleJar hreset hc _ _
    · exact hsupplied.settleJar hreset hc _ _
    all_goals exact h
  · exact h

theorem HeadsLaw.slotDischarge (h : HeadsLaw s) (hreset : s.inReset = none) (k : Fin 4) :
    HeadsLaw (slotDischarge k s) := by
  unfold Machine.slotDischarge
  split
  · split
    · next hbound => exact h.slot hreset _ (fun _ => rfl) fun _ => hbound
    · next hopen => exact h.slot hreset _ (fun _ => rfl) (by simp [(h.heads k).open_slot hopen])
  · exact h

theorem HeadsLaw.report (h : HeadsLaw s) (hreset : s.inReset = none) (k : Fin 4) (x : Threshold) :
    HeadsLaw (report k x s) := by
  have hmarked (y : Threshold) : HeadsLaw (markReached k y s) := h.marks k _
  cases x with
  | intakeClose => exact (hmarked _).slotIntakeClose hreset k
  | discharge => exact (hmarked _).slotDischarge hreset k
  | cap | fe | fl | fx | dl | rel => exact (hmarked _).headThreshold hreset k _

theorem still_inReset {t : State} (h : t.still = s.still) (hs : s.inReset = none) : t.inReset = none :=
  (State.still_fields h).2.2.2.2.2.2.2.2.1.trans hs

theorem HeadsLaw.reportDue (h : HeadsLaw s) (hreset : s.inReset = none) (k : Fin 4) (limit : Option Nat) (n : Nat) :
    HeadsLaw (reportDue k limit n s) := by
  induction n generalizing s with
  | zero => exact h
  | succ n ih =>
    unfold Machine.reportDue
    split
    · exact h
    · exact ih (h.report hreset k _) (still_inReset (still_report k _ s) hreset)

theorem HeadsLaw.reportRise (h : HeadsLaw s) (hreset : s.inReset = none) (k : Fin 4) : HeadsLaw (reportRise k s) :=
  h.reportDue hreset k _ _

theorem HeadsLaw.newPass (h : HeadsLaw s) (hreset : s.inReset = none) (k : Fin 4) : HeadsLaw (newPass k s) :=
  ((h.reportDue hreset k none 8).marks k _).reportRise (still_inReset (still_reportDue k none 8 s) hreset) k

/-! ## Entries to RUN, STAND and SAFE (R67, R105) -/

theorem HeadsLaw.slotEntry (h : HeadsLaw s) (hreset : s.inReset = none) (k : Fin 4) : HeadsLaw (slotEntry s k) := by
  unfold Machine.slotEntry
  split
  · next hidle => exact h.slot hreset _ (fun _ => rfl) (by simp [(h.heads k).open_slot (by simp [hidle.1])])
  · exact h

/-- What each step of a fold keeps out of reset, the fold keeps. -/
theorem HeadsLaw.foldl {α : Type} {f : State → α → State} (hstill : ∀ s a, (f s a).inReset = s.inReset)
    (hf : ∀ s a, HeadsLaw s → s.inReset = none → HeadsLaw (f s a)) (l : List α) (h : HeadsLaw s)
    (hreset : s.inReset = none) : HeadsLaw (l.foldl f s) := by
  induction l generalizing s with
  | nil => exact h
  | cons a l ih => exact ih (hf s a h hreset) ((hstill s a).trans hreset)

theorem HeadsLaw.entries (h : HeadsLaw s) (hreset : s.inReset = none) (l : List (Fin 4)) :
    HeadsLaw (l.foldl Machine.slotEntry s) :=
  HeadsLaw.foldl (fun s k => (State.still_fields (still_slotEntry s k)).2.2.2.2.2.2.2.2.1)
    (fun _ k hs hr => hs.slotEntry hr k) l h hreset

/-- The ask or draw of a head in a WAIT or ANNOUNCED state ends, and it holds its jar (R154). -/
theorem Holding.endAsk {p : Phase} (h : Holding p s k) (hp : (∃ c, p.asks = some c) ∨ ∃ c, p.draw = some (c, false)) :
    Holding .dwell (endAsk k s) k ∧ (endAsk k s).engines.get k = s.engines.get k := by
  have hlawful := ((drawLaw_iff _ _).1 h.draw).1
  have hopen : (s.draws.get k).isOpen = false := by
    rcases hp with ⟨c, hc⟩ | ⟨c, hc⟩
    · have : p.draw = none := by cases p <;> simp [Phase.asks] at hc <;> rfl
      simp [OwnDraw.isOpen, h.draw.of_none this]
    · have hpending : (s.draws.get k).status = .pending := by simpa using (h.draw.of_draw hc).2
      simp [OwnDraw.isOpen, hpending]
  obtain ⟨hrest, hnone⟩ | hclosed := endAsk_closes hopen hlawful
  · refine ⟨⟨(hrest.jars k).state.trans h.bound, by rw [hrest.channels]; exact h.channel, ?_, fun o => ?_⟩, hrest.engine⟩
    · obtain ⟨q, hq⟩ := hrest.draw
      rw [hq]
      simp only [modDraw_draws, Four.get_modify_same]
      exact .idle rfl rfl hnone (h.draw.terms.2 hnone)
    · rw [State.forces, hrest.service]
      exact h.unforced o
  · exact ⟨h.closed hclosed rfl, hclosed.engine⟩

theorem HeadsLaw.safeEngine (h : HeadsLaw s) (hreset : s.inReset = none) (k : Fin 4) : HeadsLaw (safeEngine k s) := by
  have hk := h.heads k
  by_cases hopen : (s.engines.get k).inClosure = false
  · rcases Engine.rests_of_not_inClosure hopen with hp | hp <;> simpa only [Machine.safeEngine, hp] using h
  have hclosure : (s.engines.get k).inClosure = true := eq_true_of_ne_false hopen
  have hholding {p : Phase} (hp : (s.engines.get k).phase = p) (ht : p ≠ .torque) : Holding p (addReason k .halted
      (modEngine k (fun x => { x with steam := false, asking := false }) s)) k := by
    subst hp
    exact ((h.holding hclosure ht).engine _).writeRecord _
  have hvalve : ((addReason k .halted (modEngine k (fun x => { x with steam := false, asking := false }) s)).engines.get
      k).steam = false := by simp [addReason]
  refine h.of_settled Acts.refl.safeEngine hreset ?_
  unfold Machine.safeEngine
  dsimp only
  split
  · next hp => simp [Engine.inClosure, hp] at hclosure
  · next hp => simp [Engine.inClosure, hp] at hclosure
  · next hp => exact ((hholding hp (by decide)).change rfl rfl rfl).toDwell hvalve
  · next hp => exact ((hholding hp (by decide)).change rfl rfl rfl).toDwell hvalve
  · next hp =>
    obtain ⟨hdwell, hengine⟩ := (hholding hp (by decide)).endAsk (.inl ⟨.steam, rfl⟩)
    exact (hdwell.writeRecord _).toDwell (by rw [writeRecord_engines, hengine]; exact hvalve)
  · next hp =>
    obtain ⟨hdwell, hengine⟩ := (hholding hp (by decide)).endAsk (.inr ⟨.steam, rfl⟩)
    exact (hdwell.writeRecord _).toDwell (by rw [writeRecord_engines, hengine]; exact hvalve)
  · next hp =>
    obtain ⟨hclosed, hdwell⟩ := ((hholding hp (by decide)).writeRecord
      fun r => { r with flushEnd := .aborted }).closeDraw rfl (rfl : Phase.draw .dwell = none)
    exact hdwell.toDwell (by rw [hclosed.engine]; exact hvalve)
  · next hp =>
    obtain ⟨hdwell, hengine⟩ := (hholding hp (by decide)).endAsk (.inl ⟨.drive, rfl⟩)
    exact (hdwell.writeRecord _).toDwell (by rw [writeRecord_engines, hengine]; exact hvalve)
  · next hp =>
    obtain ⟨hdwell, hengine⟩ := (hholding hp (by decide)).endAsk (.inr ⟨.drive, rfl⟩)
    exact (hdwell.writeRecord _).toDwell (by rw [writeRecord_engines, hengine]; exact hvalve)
  · next hp =>
    have hbound : ((addReason k .halted (modEngine k (fun x => { x with steam := false, asking := false })
        s)).slots.get k).state = .bound := by
      simp [addReason, Machine.writeRecord, hk.bound hclosure]
    refine ⟨⟨fun _ => hbound, ?_, hk.drives, hk.channel, ?_, ?_⟩, h.unforced hclosure⟩
    · simpa [addReason] using hk.torque
    · simpa [addReason] using hk.draw
    · simp [addReason]
  · next hp =>
    exact (hholding hp (by decide)).settled (by simp [addReason, hp]) (by decide) (by simp [addReason])

theorem HeadsLaw.safeHead (h : HeadsLaw s) (hreset : s.inReset = none) (k : Fin 4) : HeadsLaw (safeHead s k) :=
  (h.safeEngine hreset k).tripHalt (still_inReset (still_safeEngine k s) hreset) .safe k

end
end Sys2Proof.Machine

/-! The laws that a step keeps, all at once: what leaves a state as lawful as it was, for every shared operation of the
model (R1, R34, R35, R40, R58, R61, R134). -/

namespace Sys2Proof.Machine
open Sys2Proof

/-- Out of reset, the second state is as lawful as the first. -/
structure KeepsLaws (s t : State) : Prop where
  queue   : s.transmit.lawful = true → t.transmit.lawful = true
  silent  : s.transmit.silent = true → t.transmit.silent = true
  receive : s.receive.lawful = true → t.receive.lawful = true
  store   : Store.wf s.settings.store = true → Store.wf t.settings.store = true
  view    : s.viewLawful = true → t.viewLawful = true
  track   : s.trackLawful = true → t.trackLawful = true
  heads   : s.inReset = none → HeadsLaw s → HeadsLaw t
  reset   : t.inReset = s.inReset

/-- Out of reset, the second state is as lawful as the first, and stays in or out of FAULT with its place. -/
structure Keeps (s t : State) : Prop extends KeepsLaws s t where
  fault   : s.unit.mode = .fault → t.unit.mode = .fault ∧ t.place = s.place
  running : s.unit.mode ≠ .fault → t.unit.mode ≠ .fault

theorem KeepsLaws.refl (s : State) : KeepsLaws s s := ⟨id, id, id, id, id, id, fun _ => id, rfl⟩

theorem KeepsLaws.trans {s t u : State} (h : KeepsLaws s t) (h' : KeepsLaws t u) : KeepsLaws s u :=
  ⟨h'.queue ∘ h.queue, h'.silent ∘ h.silent, h'.receive ∘ h.receive, h'.store ∘ h.store, h'.view ∘ h.view,
    h'.track ∘ h.track, fun hr hs => h'.heads (h.reset.trans hr) (h.heads hr hs), h'.reset.trans h.reset⟩

theorem Keeps.refl (s : State) : Keeps s s := ⟨.refl s, fun h => ⟨h, rfl⟩, id⟩

theorem Keeps.trans {s t u : State} (h : Keeps s t) (h' : Keeps t u) : Keeps s u :=
  ⟨h.toKeepsLaws.trans h'.toKeepsLaws,
    fun hf => ⟨(h'.fault (h.fault hf).1).1, (h'.fault (h.fault hf).1).2.trans (h.fault hf).2⟩,
    fun hm => h'.running (h.running hm)⟩

/-- Laws of the tracker rest on it, on the settings and on the reset in force. -/
theorem State.trackLawful_congr {s t : State} (htracker : t.tracker = s.tracker) (hsettings : t.settings = s.settings)
    (hreset : t.inReset = s.inReset) : t.trackLawful = s.trackLawful := by
  unfold State.trackLawful State.pocketCount State.profileField
  rw [htracker, hsettings, hreset]

/-- What each step of a fold keeps, the fold keeps. -/
theorem Keeps.foldl {α : Type} {f : State → α → State} (hf : ∀ s a, Keeps s (f s a)) (l : List α) (s : State) :
    Keeps s (l.foldl f s) := by
  induction l generalizing s with
  | nil => exact .refl s
  | cons a l ih => exact (hf s a).trans (ih (f s a))

/-- Changes of blocks that no law but the heads' speaks of. -/
theorem Keeps.aside {s t : State} (htransmit : t.transmit = s.transmit) (hreceive : t.receive = s.receive)
    (hsettings : t.settings = s.settings) (hview : t.view = s.view) (hunit : t.unit = s.unit)
    (htracker : t.tracker = s.tracker) (hreset : t.inReset = s.inReset)
    (hheads : s.inReset = none → HeadsLaw s → HeadsLaw t) : Keeps s t := by
  refine ⟨⟨by rw [htransmit]; exact id, by rw [htransmit]; exact id, by rw [hreceive]; exact id,
    by rw [hsettings]; exact id, ?_, ?_, hheads, hreset⟩, fun h => ?_, by rw [hunit]; exact id⟩
  · simp only [State.viewLawful, hview, hunit, imp_self]
  · rw [State.trackLawful_congr htracker hsettings hreset]; exact id
  · simp only [State.place, hunit, h, and_self]

/-- Laws of the parts that an operation leaves still. -/
theorem Keeps.of_still {s t : State} (hstill : t.still = s.still)
    (hqueue : s.transmit.lawful = true → t.transmit.lawful = true)
    (hsilent : s.transmit.silent = true → t.transmit.silent = true)
    (hheads : s.inReset = none → HeadsLaw s → HeadsLaw t) : Keeps s t := by
  obtain ⟨htracker, hunit, hreceive, hview, hsettings, -, -, -, hreset, -⟩ := State.still_fields hstill
  refine ⟨⟨hqueue, hsilent, by rw [hreceive]; exact id, by rw [hsettings]; exact id, ?_, ?_, hheads, hreset⟩,
    fun h => ?_, by rw [hunit]; exact id⟩
  · simp only [State.viewLawful, hview, hunit, imp_self]
  · rw [State.trackLawful_congr htracker hsettings hreset]; exact id
  · simp only [State.place, hunit, h, and_self]

theorem Acts.keeps {k : Fin 4} {s t : State} (h : Acts k s t) (hheads : s.inReset = none → HeadsLaw s → HeadsLaw t) :
    Keeps s t :=
  .of_still h.still h.lawful h.silent hheads

theorem Moves.keeps {w : Bool} {s t : State} (h : Moves w s t) : Keeps s t :=
  .of_still h.still h.lawful h.silent fun _ hs => hs.moves h

/-! ## Time and inputs -/

theorem elapse_transmit (n : Nat) (s : State) : (elapse n s).transmit.normal = s.transmit.normal
    ∧ (elapse n s).transmit.slot = s.transmit.slot ∧ (elapse n s).transmit.onLine = s.transmit.onLine
    ∧ (elapse n s).transmit.silenced = s.transmit.silenced := by
  unfold elapse
  split
  · exact ⟨rfl, rfl, rfl, rfl⟩
  · dsimp only
    unfold Transmit.elapse
    split
    · split <;> exact ⟨rfl, rfl, rfl, rfl⟩
    · exact ⟨rfl, rfl, rfl, rfl⟩

/-- Laws of the transmit side rest on the two parts of the queue and the frame in transmission. -/
theorem Transmit.lawful_congr {t u : Transmit} (hnormal : u.normal = t.normal) (hslot : u.slot = t.slot)
    (hline : u.onLine = t.onLine) : u.lawful = t.lawful := by
  unfold Transmit.lawful Transmit.normalCount
  rw [hnormal, hslot, hline]

theorem Transmit.silent_congr {t u : Transmit} (hnormal : u.normal = t.normal) (hslot : u.slot = t.slot)
    (hline : u.onLine = t.onLine) (hsilenced : u.silenced = t.silenced) : u.silent = t.silent := by
  simp only [Transmit.silent, hnormal, hslot, hline, hsilenced]

theorem elapse_engine (n : Nat) (s : State) (k : Fin 4) :
    ∃ m, (elapse n s).engines.get k = { s.engines.get k with ms := m } := by
  unfold elapse
  split
  · exact ⟨_, rfl⟩
  · exact ⟨_, Four.get_map _ _ _⟩

theorem elapse_channel (n : Nat) (s : State) (k : Fin 4) :
    ∃ m, (elapse n s).channels.get k = { s.channels.get k with ms := m } := by
  unfold elapse
  split
  · exact ⟨_, rfl⟩
  · exact ⟨_, Four.get_map _ _ _⟩

theorem elapse_forced (n : Nat) (s : State) : ∃ f : Nat → Nat,
    (elapse n s).service.forced = s.service.forced.map (fun r => { r with left := f r.left }) := by
  unfold elapse
  split
  · exact ⟨id, by simp⟩
  · exact ⟨fun m => m - n, rfl⟩

theorem elapse_forces (n : Nat) (s : State) (k : Fin 4) (o : Output) : (elapse n s).forces k o = s.forces k o := by
  obtain ⟨f, hf⟩ := elapse_forced n s
  simp only [State.forces, hf]
  cases s.service.forced <;> rfl

/-- The heads with new millisecond counts. -/
theorem HeadsLaw.ticked {s t : State} (h : HeadsLaw s)
    (hengines : ∀ k, ∃ m, t.engines.get k = { s.engines.get k with ms := m })
    (hchannels : ∀ k, ∃ m, t.channels.get k = { s.channels.get k with ms := m }) (hslots : t.slots = s.slots)
    (hdraws : t.draws = s.draws) (hforces : ∀ k o, t.forces k o = s.forces k o) (hmode : t.unit.mode = s.unit.mode)
    (hreset : t.inReset = s.inReset) : HeadsLaw t := by
  refine ⟨fun k => ?_, fun r hr => ?_, fun hin k => ?_⟩
  · have hk := h.heads k
    obtain ⟨_, he⟩ := hengines k
    obtain ⟨_, hc⟩ := hchannels k
    exact ⟨by rw [he, hslots]; exact hk.bound, by rw [he, hc]; exact hk.torque,
      by rw [hc, hforces]; exact hk.drives, by rw [hc]; exact hk.channel, by rw [he, hdraws]; exact hk.draw,
      by rw [he, hforces, hmode]; exact hk.valve⟩
  · have hf : t.forces r.head r.output = true := (State.forces_iff t _ _).2 ⟨r, hr, rfl, rfl⟩
    obtain ⟨_, he⟩ := hengines r.head
    rw [hforces] at hf
    rw [hmode, he]
    exact h.of_forces hf
  · obtain ⟨_, he⟩ := hengines k
    obtain ⟨_, hc⟩ := hchannels k
    rw [he, hc]
    exact h.rests (hreset ▸ hin) k

theorem State.trackLawful_iff (s : State) : s.trackLawful = true ↔
    (s.tracker.begun = true → s.settings.good = true ∧ s.settings.load = none ∧ Profile.fieldsOk s.settings.profile = true)
    ∧ (s.tracker.valid = true → s.tracker.begun = true ∧ s.tracker.c < s.pocketCount)
    ∧ s.tracker.e ≤ eSaturated ∧ s.tracker.l ≤ 65535 ∧ (s.inReset = none ∨ s.tracker.begun = false) := by
  simp only [State.trackLawful, Bool.and_eq_true, Bool.or_eq_true, Bool.not_eq_true', decide_eq_true_eq,
    Option.isNone_iff_eq_none]
  constructor
  · rintro ⟨⟨⟨⟨hbegun, hvalid⟩, he⟩, hl⟩, hr⟩
    refine ⟨fun hb => ?_, fun hv => ?_, he, hl, hr⟩
    · obtain ⟨⟨h1, h2⟩, h3⟩ := hbegun.resolve_left (by simp [hb])
      exact ⟨h1, h2, h3⟩
    · exact hvalid.resolve_left (by simp [hv])
  · rintro ⟨hbegun, hvalid, he, hl, hr⟩
    refine ⟨⟨⟨⟨?_, ?_⟩, he⟩, hl⟩, hr⟩
    · cases hb : s.tracker.begun
      · exact .inl rfl
      · obtain ⟨h1, h2, h3⟩ := hbegun hb
        exact .inr ⟨⟨h1, h2⟩, h3⟩
    · cases hv : s.tracker.valid
      · exact .inl rfl
      · exact .inr (hvalid hv)

theorem elapse_profile (n : Nat) (s : State) : (elapse n s).settings.good = s.settings.good
    ∧ (elapse n s).settings.profile = s.settings.profile
    ∧ ((elapse n s).settings.load = none ↔ s.settings.load = none) := by
  unfold elapse
  split
  · exact ⟨rfl, rfl, .rfl⟩
  · exact ⟨rfl, rfl, by simp⟩

theorem elapse_headsLaw (n : Nat) {s : State} (h : HeadsLaw s) : HeadsLaw (elapse n s) :=
  h.ticked (elapse_engine n s) (elapse_channel n s) (elapse_slots n s) (elapse_draws n s) (elapse_forces n s)
    (by rw [elapse_unit]) (elapse_inReset n s)

theorem elapse_keeps (n : Nat) (s : State) : Keeps s (elapse n s) := by
  obtain ⟨hnormal, hslot, hline, hsilenced⟩ := elapse_transmit n s
  have hunit := elapse_unit n s
  refine ⟨⟨by rw [Transmit.lawful_congr hnormal hslot hline]; exact id,
    by rw [Transmit.silent_congr hnormal hslot hline hsilenced]; exact id, by rw [elapse_receive]; exact id,
    by rw [elapse_store]; exact id, ?_, fun h => ?_, fun _ h => elapse_headsLaw n h, elapse_inReset n s⟩, fun h => ?_,
    by rw [hunit]; exact id⟩
  · simp only [State.viewLawful, hunit, elapse_view, imp_self]
  · cases hr : s.inReset with
    | some r => simpa [elapse, hr] using h
    | none =>
      rw [State.trackLawful_iff] at h ⊢
      obtain ⟨hgood, hprofile, hload⟩ := elapse_profile n s
      obtain ⟨hbegun, hvalid, -, hl, -⟩ := h
      simp only [elapse_tracker n s hr, Tracker.elapse, State.pocketCount, State.profileField, hgood, hprofile, hload,
        elapse_inReset]
      exact ⟨hbegun, hvalid, Nat.min_le_left _ _, hl, .inl hr⟩
  · simp only [State.place, hunit, h, and_self]

theorem setLevels_keeps (p : Levels) (s : State) : Keeps s (setLevels p s) :=
  .aside rfl rfl rfl rfl rfl rfl rfl fun _ h => h.congr rfl (fun _ => rfl) rfl rfl rfl rfl rfl

theorem consulted_keeps (s : State) : Keeps s (consulted s) := (@Move.consult true s).toMoves.keeps

theorem tripOvercurrent_keeps (k : Fin 4) (s : State) : Keeps s (tripOvercurrent k s) :=
  Acts.refl.tripOvercurrent.keeps fun hr h => h.tripOvercurrent hr k

theorem takePins_keeps (p : Levels) (s : State) : Keeps s (takePins p s) :=
  (setLevels_keeps p s).trans ((consulted_keeps _).trans
    (Keeps.foldl (fun s k => tripOvercurrent_keeps k s) _ _))

/-! ## Heads -/

theorem slotEntry_keeps (s : State) (k : Fin 4) : Keeps s (slotEntry s k) :=
  Acts.refl.slotEntry.keeps fun hr h => h.slotEntry hr k

theorem safeHead_keeps (s : State) (k : Fin 4) : Keeps s (safeHead s k) :=
  Acts.refl.safeHead.keeps fun hr h => h.safeHead hr k

theorem endForcedRun_keeps (s : State) : Keeps s (endForcedRun s) := by
  obtain ⟨k, hk⟩ := endForcedRun_acts s
  exact hk.keeps fun hr h => h.endForcedRun hr

theorem newPass_keeps (k : Fin 4) (s : State) : Keeps s (newPass k s) :=
  Acts.refl.newPass.keeps fun hr h => h.newPass hr k

theorem reportRise_keeps (k : Fin 4) (s : State) : Keeps s (reportRise k s) :=
  Acts.refl.reportRise.keeps fun hr h => h.reportRise hr k

/-! ## Modes -/

/-- A change of the mode unit that leaves the place, with the mode in or out of FAULT as it was. -/
theorem unit_keeps {s : State} (u : ModeUnit) (hg : u.g = s.unit.g)
    (hview : s.unit.mode.keepsView = true → u.mode.keepsView = true)
    (hfault : s.unit.mode = .fault → u.mode = .fault ∧ u.p0 = s.unit.p0 ∧ u.node = s.unit.node)
    (hrunning : s.unit.mode ≠ .fault → u.mode ≠ .fault)
    (hsafe : HeadsLaw s → s.unit.mode = .safe → u.mode = .safe ∨ s.service.forced = none) :
    Keeps s { s with unit := u } := by
  refine ⟨⟨id, id, id, id, fun h => ?_, id, fun _ h => ?_, rfl⟩, fun h => ?_, hrunning⟩
  · simp only [State.viewLawful, Bool.and_eq_true, Bool.or_eq_true, hg] at h ⊢
    exact ⟨h.1, h.2.imp hview id⟩
  · have hmode (r : ForcedRun) (hr : s.service.forced = some r) : u.mode = .safe := by
      rcases hsafe h (h.forced r hr).1 with hm | hn
      · exact hm
      · simp [hn] at hr
    refine ⟨fun k => ?_, fun r hr => ⟨hmode r hr, (h.forced r hr).2⟩, h.rests⟩
    have hk := h.heads k
    refine ⟨hk.bound, hk.torque, hk.drives, hk.channel, hk.draw, fun hv => (hk.valve hv).imp id fun ⟨hf, _⟩ => ?_⟩
    obtain ⟨r, hr, -, -⟩ := (State.forces_iff s k .steam).1 hf
    exact ⟨hf, hmode r hr⟩
  · obtain ⟨hm, hp0, hnode⟩ := hfault h
    exact ⟨hm, by simp only [State.place, hg, hp0, hnode]⟩

/-- Counters and marks of the mode unit. -/
theorem marks_keeps {s : State} (u : ModeUnit) (hg : u.g = s.unit.g) (hmode : u.mode = s.unit.mode)
    (hp0 : u.p0 = s.unit.p0) (hnode : u.node = s.unit.node) : Keeps s { s with unit := u } :=
  unit_keeps u hg (hmode ▸ id) (fun h => ⟨hmode.trans h, hp0, hnode⟩) (hmode ▸ id) fun _ h => .inl (hmode.trans h)

theorem setMode_keeps {s : State} (m : Mode) (hs : s.unit.mode ≠ .fault) (hm : m ≠ .fault)
    (hview : s.unit.mode.keepsView = true → m.keepsView = true)
    (hsafe : HeadsLaw s → s.unit.mode = .safe → m = .safe ∨ s.service.forced = none) : Keeps s (setMode m s) :=
  unit_keeps _ rfl hview (fun h => absurd h hs) (fun _ => hm) hsafe

theorem Channel.enterRun_cases (x : Channel) : x.enterRun = x
    ∨ x.state = .tripped ∧ (∃ c, x.enterRun = { x with causes := c } ∨ x.enterRun = { x with causes := c }.stop .off)
      := by
  unfold Channel.enterRun
  split
  · next h =>
    dsimp only
    split
    · exact .inr ⟨h, _, .inr rfl⟩
    · exact .inr ⟨h, _, .inl rfl⟩
  · exact .inl rfl

/-- On an entry to RUN a channel that is not TRIPPED stays, and a TRIPPED one stays at rest. -/
theorem HeadsLaw.enterRunChannels {s : State} (h : HeadsLaw s) :
    HeadsLaw { s with channels := s.channels.map Channel.enterRun } := by
  have hchannel (k : Fin 4) : (s.channels.get k).enterRun = s.channels.get k
      ∨ (s.channels.get k).phaseRuns = false ∧ (s.channels.get k).enterRun.rests := by
    obtain hsame | ⟨htripped, c, hc⟩ := (s.channels.get k).enterRun_cases
    · exact .inl hsame
    · have hk := (h.heads k).channel
      have hrests : (s.channels.get k).rests := by
        obtain ⟨hagrees, hduty, -, hcount⟩ := (Channel.lawful_iff _).1 hk
        have hidle : (s.channels.get k).drivesNow = false := by simp [Channel.drivesNow, htripped]
        refine (Channel.rests_iff _).2 ⟨hk, ?_, hidle⟩
        cases hstep : (s.channels.get k).step <;> simp_all [Channel.stepAgrees, Channel.phaseRuns]
      obtain ⟨hstate, hduty, hbridge, hstep, hcount⟩ := hrests
      refine .inr ⟨by simp [Channel.phaseRuns, hstep], ?_⟩
      rcases hc with hc | hc <;> rw [hc]
      · exact ⟨hstate, hduty, hbridge, hstep, hcount⟩
      · exact ⟨.inl rfl, rfl, rfl, hstep, hcount⟩
  have hruns (k : Fin 4) : (s.channels.get k).enterRun.phaseRuns = (s.channels.get k).phaseRuns := by
    rcases hchannel k with hsame | ⟨hstopped, hrests⟩
    · rw [hsame]
    · rw [hstopped, ((Channel.rests_iff _).1 hrests).2.1]
  refine ⟨fun k => ?_, h.forced, fun hin k => ?_⟩
  · have hk := h.heads k
    refine ⟨hk.bound, ?_, ?_, ?_, hk.draw, hk.valve⟩
    · simpa [hruns] using hk.torque
    · rcases hchannel k with hsame | ⟨-, hrests⟩
      · simpa [hsame, State.forces] using hk.drives
      · simp [((Channel.rests_iff _).1 hrests).2.2]
    · rcases hchannel k with hsame | ⟨-, hrests⟩
      · simpa [hsame] using hk.channel
      · simpa using ((Channel.rests_iff _).1 hrests).1
  · simpa [hruns] using h.rests hin k

theorem enterRun_keeps (s : State) (hmode : s.unit.mode.keepsView = true) : Keeps s (enterRun s) := by
  have hunit : (endForcedRun s).unit = s.unit := (State.still_fields (still_endForcedRun s)).2.1
  have hs : (endForcedRun s).unit.mode ≠ .fault := by
    rw [hunit]
    intro he
    simp [he, Mode.keepsView] at hmode
  have hnone : (endForcedRun s).service.forced = none := by rw [endForcedRun_service]
  have hchannels (u : State) : Keeps u { u with channels := u.channels.map Channel.enterRun } :=
    .aside rfl rfl rfl rfl rfl rfl rfl fun _ h => h.enterRunChannels
  exact (endForcedRun_keeps s).trans ((setMode_keeps .run hs (by decide) (fun _ => rfl) fun _ _ => .inr hnone).trans
    ((hchannels _).trans (Keeps.foldl slotEntry_keeps _ _)))

theorem enterStand_keeps (s : State) (hmode : s.unit.mode = .run ∨ s.unit.mode = .announce) :
    Keeps s (enterStand s) :=
  (setMode_keeps .stand (by rcases hmode with h | h <;> simp [h]) (by decide) (fun _ => rfl)
    (by rcases hmode with h | h <;> simp [h])).trans (Keeps.foldl slotEntry_keeps _ _)

theorem enterSafe_keeps (s : State) (hmode : s.unit.mode.keepsView = true) : Keeps s (enterSafe s) := by
  have hs : s.unit.mode ≠ .fault := fun he => by simp [he, Mode.keepsView] at hmode
  exact (setMode_keeps .safe hs (by decide) (fun _ => rfl) fun _ _ => .inl rfl).trans
    ((Keeps.foldl slotEntry_keeps _ _).trans ((consulted_keeps _).trans (Keeps.foldl safeHead_keeps _ _)))

/-! ## Doubt and the view -/

theorem State.viewLawful_iff (s : State) : s.viewLawful = true ↔ s.view.entries.length ≤ viewBound
    ∧ (s.view.entries.map (fun e => (e.group, e.head, e.cls))).Nodup
    ∧ (∀ e ∈ s.view.entries, s.unit.g ≠ some e.group ∧ e.lawful = true)
    ∧ (s.unit.mode.keepsView = true ∨ s.view.entries = []) := by
  simp only [State.viewLawful, Bool.and_eq_true, Bool.or_eq_true, decide_eq_true_eq, List.all_eq_true,
    List.isEmpty_iff, and_assoc]

/-- A change of the view table by its own rules. -/
theorem view_keeps {s : State} (v : View) (h : s.viewLawful = true → ({ s with view := v } : State).viewLawful = true) :
    Keeps s { s with view := v } :=
  ⟨⟨id, id, id, id, h, id, fun _ h => h.congr rfl (fun _ => rfl) rfl rfl rfl rfl rfl, rfl⟩, fun h => ⟨h, rfl⟩, id⟩

theorem doubt_keeps {s : State} (v : View) (h : v.entries = s.view.entries) : Keeps s { s with view := v } :=
  view_keeps v fun hs => by simpa only [State.viewLawful, h] using hs

theorem doubtBegins_keeps (s : State) : Keeps s (doubtBegins s) := by
  obtain ⟨v, hv, hmoves⟩ := moves_doubtBegins s
  exact (doubt_keeps v hv).trans hmoves.keeps

/-- The entries one pitch older keep the laws of the table. -/
theorem aged_lawful {s : State} {v : View} (hv : v.entries = aged s.view.entries) (h : s.viewLawful = true) :
    ({ s with view := v } : State).viewLawful = true := by
  rw [State.viewLawful_iff] at h ⊢
  obtain ⟨hlength, hnodup, hentries, hmode⟩ := h
  rw [hv]
  refine ⟨?_, ?_, fun e he => ?_, hmode.imp id fun he => by simp [aged, he]⟩
  · exact Nat.le_trans (List.length_filter_le _ _) (by simpa using hlength)
  · refine List.Nodup.sublist ((List.filter_sublist).map _) ?_
    simpa [List.map_map, Function.comp_def] using hnodup
  · obtain ⟨hmem, hlife⟩ := List.mem_filter.1 he
    obtain ⟨d, hd, rfl⟩ := List.mem_map.1 hmem
    obtain ⟨hgroup, hd⟩ := hentries d hd
    refine ⟨hgroup, ?_⟩
    simp only [decide_eq_true_eq] at hlife
    simp only [ViewEntry.lawful, within, Bool.and_eq_true, decide_eq_true_eq] at hd ⊢
    omega

theorem HeadsLaw.countDown {s : State} (h : HeadsLaw s) :
    HeadsLaw { s with draws := s.draws.map OwnDraw.countDown } := by
  refine ⟨fun k => ?_, h.forced, h.rests⟩
  have hk := h.heads k
  refine ⟨hk.bound, hk.torque, hk.drives, hk.channel, ?_, hk.valve⟩
  rw [Four.get_map]
  exact ⟨hk.draw.asks, hk.draw.terms, hk.draw.agrees⟩

theorem View.pulse_entries (p : Nat) (v : View) : (v.pulse p).entries = aged v.entries := by
  unfold View.pulse
  split
  · rfl
  · split <;> rfl

theorem drawPulse_keeps (s : State) : Keeps s (drawPulse s) := by
  unfold drawPulse
  split
  · dsimp only
    refine @Keeps.trans _ { s with view := s.view.pulse s.pocketCount, draws := s.draws.map OwnDraw.countDown } _
      ((view_keeps _ (aged_lawful (View.pulse_entries _ _))).trans
        (.aside rfl rfl rfl rfl rfl rfl rfl fun _ h => h.countDown)) ?_
    split
    · exact (Moves.keeps (moves_bothChecks _)).trans (Moves.keeps (@moves_bothArbiters true _))
    · exact Moves.keeps (@moves_bothArbiters true _)
  · exact .refl s

/-! ## Offers of the mode unit -/

theorem putHalt_lawful {f : Frame} {s : State} (hf : f.kind = .halt) (h : s.transmit.lawful = true) :
    (putHalt f s).transmit.lawful = true := by
  rw [Transmit.lawful_iff] at h ⊢
  obtain ⟨hcount, hopens, hkinds, hslot, hline⟩ := h
  refine ⟨hcount, hopens, hkinds, fun g hg => ?_, hline⟩
  obtain hnew | ⟨q, hq, hkept, -⟩ := putHalt_slot f s
  · rw [hnew] at hg
    cases hg
    exact hf
  · rw [hkept] at hg
    cases hg
    exact hslot _ hq

/-- A change of the transmit side by its own rules. -/
theorem transmit_keeps {s : State} (t : Transmit) (hlawful : s.transmit.lawful = true → t.lawful = true)
    (hsilent : s.transmit.silent = true → t.silent = true) : Keeps s { s with transmit := t } :=
  ⟨⟨hlawful, hsilent, id, id, id, id, fun _ h => h.congr rfl (fun _ => rfl) rfl rfl rfl rfl rfl, rfl⟩,
    fun h => ⟨h, rfl⟩, id⟩

theorem offerHalt_keeps (severity cause : Nat) (s : State) : Keeps s (offerHalt severity cause s) := by
  unfold offerHalt
  split
  · exact .refl s
  · next hopen =>
    refine transmit_keeps _ (putHalt_lawful rfl) fun hs => ?_
    exact absurd ((Transmit.silent_iff _).1 hs).1 hopen

theorem enqueue_keeps {s : State} {kind : Kind} {p : List Byte} (hhalt : kind ≠ .halt)
    (ha : s.accepts kind p = true) : Keeps s (enqueue kind p s) :=
  transmit_keeps _ (enqueue_lawful hhalt ha) fun hs => by
    simp [accepts_silenced ((Transmit.silent_iff _).1 hs).1] at ha

theorem announce_keeps (s : State) (a : Announcing) : Keeps s { s with announce := a } :=
  .aside rfl rfl rfl rfl rfl rfl rfl fun _ h => h.congr rfl (fun _ => rfl) rfl rfl rfl rfl rfl

theorem offerPosition_keeps (s : State) : Keeps s (offerPosition s) := by
  unfold offerPosition
  split
  · next ha => exact (enqueue_keeps (by decide) ha).trans (announce_keeps _ _)
  · exact announce_keeps _ _

theorem offerReannouncement_keeps (s : State) : Keeps s (offerReannouncement s) := by
  unfold offerReannouncement
  split
  · next ha => exact (enqueue_keeps (by decide) ha).trans (announce_keeps _ _)
  · exact announce_keeps _ _

/-! ## FAULT (R34, R35) -/

theorem Channel.rests_faulted {x : Channel} (h : x.lawful = true) : x.faulted.rests := by
  obtain ⟨hagrees, -, -, hcount⟩ := (Channel.lawful_iff x).1 h
  unfold Channel.faulted
  by_cases htripped : x.state = .tripped
  · refine Channel.rests_tripOrAdd .safe h ?_
    cases hstep : x.step <;> simp_all [Channel.stepAgrees, Channel.phaseRuns]
  · unfold Channel.tripOrAdd
    rw [if_neg htripped]
    exact Channel.rests_trip _ hcount

theorem faultBlocks_headsLaw {s : State} (hchannels : ∀ k, (s.channels.get k).lawful = true)
    (hforced : s.service.forced = none) : HeadsLaw (faultBlocks s) := by
  have hrests (k : Fin 4) : ((faultBlocks s).channels.get k).rests := by
    simp only [faultBlocks, Four.get_map]
    exact Channel.rests_faulted (hchannels k)
  have hphase (k : Fin 4) : ((faultBlocks s).engines.get k).phase = .idle
      ∧ ((faultBlocks s).engines.get k).steam = false := by
    simp only [faultBlocks, Four.get_map, Engine.faulted, and_self]
  refine ⟨fun k => ?_, fun r hr => ?_, fun _ k => ⟨(hphase k).1, ((Channel.rests_iff _).1 (hrests k)).2.1⟩⟩
  · obtain ⟨hlawful, hruns, hdrives⟩ := (Channel.rests_iff _).1 (hrests k)
    refine ⟨fun hc => ?_, ?_, fun hd => ?_, hlawful, ?_, fun hv => ?_⟩
    · simp [Engine.inClosure, (hphase k).1] at hc
    · simp [hruns, (hphase k).1]
    · simp [hdrives] at hd
    · rw [(hphase k).1]
      simp only [faultBlocks, Four.get_all]
      exact .idle rfl rfl rfl rfl
    · simp [(hphase k).2] at hv
  · simp [faultBlocks, Service.faulted, hforced] at hr

theorem Transmit.faulted_lawful {t : Transmit} (h : t.lawful = true) : t.faulted.lawful = true := by
  rw [Transmit.lawful_iff] at h ⊢
  obtain ⟨-, -, hkinds, hslot, hline⟩ := h
  refine ⟨?_, by simp [Transmit.faulted], by simp [Transmit.faulted], hslot, ?_⟩
  · simp only [Transmit.faulted, Transmit.normalCount, List.length_nil, normalBound]
    split <;> omega
  · unfold Transmit.faulted
    dsimp only
    split
    · next f rest _ hnormal => simpa [OnLine.lawful] using hkinds f (by simp [hnormal])
    · rfl
    · exact hline

theorem Transmit.silence_lawful (t : Transmit) : t.silence.lawful = true := by
  rw [Transmit.lawful_iff]
  simp [Transmit.silence, Transmit.normalCount, OnLine.lawful]

theorem Transmit.silence_silent (t : Transmit) : t.silence.silent = true := rfl

theorem Transmit.faulted_silent {t : Transmit} (h : t.silent = true) : t.faulted.silent = true := by
  rw [Transmit.silent_iff] at h ⊢
  obtain ⟨hsilenced, hnormal, hslot, hline⟩ := h
  simp [Transmit.faulted, hsilenced, hslot, hline]

theorem offerFaultHalt_keeps (code : FaultCode) (s : State) : Keeps s (offerFaultHalt code s) := by
  unfold offerFaultHalt
  split
  · exact offerHalt_keeps _ _ s
  · exact .refl s

end Sys2Proof.Machine

/-! The entry to FAULT, the silence and the restart as ends of a command, and what a command may do at all: keep every
law, or end in one of them (R34, R35, R190). -/

namespace Sys2Proof.Machine
open Sys2Proof

/-! ## The entry to FAULT (R34) -/

theorem offerFaultHalt_eq (code : FaultCode) (s : State) : ∃ t, offerFaultHalt code s = { s with transmit := t } := by
  unfold offerFaultHalt offerHalt
  split
  · split
    · exact ⟨_, rfl⟩
    · exact ⟨_, rfl⟩
  · exact ⟨_, rfl⟩

theorem endForcedRun_transmit (s : State) : (endForcedRun s).transmit = s.transmit := by
  unfold endForcedRun
  split
  · rfl
  · dsimp only
    split <;> rfl

/-- An entry to FAULT ends the forced run, sets the mode, clears the line's queue and then every block. -/
theorem enterFault_eq (code : FaultCode) {s : State} (h : s.unit.mode ≠ .fault) : ∃ held t n,
    enterFault code s = faultBlocks { endForcedRun s with
      unit := s.unit.faulted code held, transmit := t, free := n }
    ∧ t.normal = [] ∧ (s.transmit.lawful = true → t.lawful = true)
    ∧ (s.transmit.silent = true → t.silent = true) := by
  have hunit : (endForcedRun s).unit = s.unit := (State.still_fields (still_endForcedRun s)).2.1
  have entered : ∃ held n t, enterFault code s = faultBlocks (faultLine code { endForcedRun s with
        unit := s.unit.faulted code held, transmit := t, free := n })
      ∧ (s.transmit.lawful = true → t.lawful = true) ∧ (s.transmit.silent = true → t.silent = true) := by
    unfold enterFault
    rw [if_neg h]
    obtain ⟨t, ht⟩ := offerFaultHalt_eq code (consulted { endForcedRun s with
      unit := (endForcedRun s).unit.faulted code (heldOf (Config.heldInFault (endForcedRun s).free)) })
    have hkeeps := offerFaultHalt_keeps code (consulted { endForcedRun s with
      unit := (endForcedRun s).unit.faulted code (heldOf (Config.heldInFault (endForcedRun s).free)) })
    have hqueue := hkeeps.queue
    have hsilent := hkeeps.silent
    rw [ht] at hqueue hsilent
    dsimp only
    rw [ht]
    refine ⟨heldOf (Config.heldInFault (endForcedRun s).free), (endForcedRun s).free + 1, t, ?_, ?_, ?_⟩
    · rw [← hunit]
      rfl
    · rw [← endForcedRun_transmit s]
      exact hqueue
    · rw [← endForcedRun_transmit s]
      exact hsilent
  obtain ⟨held, n, t, heq, hlawful, hsilent⟩ := entered
  rw [heq]
  unfold faultLine
  split
  · exact ⟨held, _, n, rfl, rfl, fun _ => Transmit.silence_lawful _, fun _ => rfl⟩
  · exact ⟨held, _, n, rfl, rfl, fun hs => Transmit.faulted_lawful (hlawful hs),
      fun hs => Transmit.faulted_silent (hsilent hs)⟩

theorem enterFault_keepsLaws (code : FaultCode) (s : State) : KeepsLaws s (enterFault code s) := by
  by_cases h : s.unit.mode = .fault
  · rw [enterFault_in_fault code s h]
    exact .refl s
  · obtain ⟨held, t, n, heq, -, hlawful, hsilent⟩ := enterFault_eq code h
    have hended := endForcedRun_keeps s
    rw [heq]
    refine ⟨hlawful, hsilent, hended.receive, hended.store, fun _ => ?_, hended.track, fun hr hs => ?_, hended.reset⟩
    · rw [State.viewLawful_iff]
      exact ⟨Nat.zero_le _, List.nodup_nil, fun e he => absurd he List.not_mem_nil, .inr rfl⟩
    · exact faultBlocks_headsLaw (fun k => ((hended.heads hr hs).heads k).channel)
        (congrArg Service.forced (endForcedRun_service s))

/-! ## Silence and restart -/

theorem faultOfLine_keeps {s : State} (h : s.unit.mode = .fault) : Keeps s (faultOfLine s) := by
  unfold faultOfLine
  rw [if_pos h]
  exact (transmit_keeps s.transmit.silence (fun _ => Transmit.silence_lawful _) fun _ => rfl).trans
    (marks_keeps _ rfl rfl rfl rfl)

/-! ## What the entry to FAULT finds -/

/-- No latched OVERCURRENT leaves a channel (R128). -/
def Latched (s t : State) : Prop :=
  ∀ k, (s.channels.get k).causes.overcurrent = true → (t.channels.get k).causes.overcurrent = true

/-- The station's place and mode stay, every slot keeps its pocket number, and outside RUN no latched OVERCURRENT
leaves. -/
structure Calm (s t : State) : Prop where
  g       : t.unit.g = s.unit.g
  node    : t.unit.node = s.unit.node
  mode    : t.unit.mode = s.unit.mode
  pocket  : ∀ k, (t.slots.get k).pocket = (s.slots.get k).pocket
  latched : s.unit.mode ≠ .run → Latched s t

theorem Calm.refl (s : State) : Calm s s := ⟨rfl, rfl, rfl, fun _ => rfl, fun _ _ => id⟩

theorem Calm.trans {s t u : State} (h : Calm s t) (h' : Calm t u) : Calm s u :=
  ⟨h'.g.trans h.g, h'.node.trans h.node, h'.mode.trans h.mode, fun k => (h'.pocket k).trans (h.pocket k),
    fun hm k => h'.latched (h.mode ▸ hm) k ∘ h.latched hm k⟩

theorem Calm.foldl {α : Type} {f : State → α → State} (hf : ∀ s a, Calm s (f s a)) (l : List α) (s : State) :
    Calm s (l.foldl f s) := by
  induction l generalizing s with
  | nil => exact .refl s
  | cons a l ih => exact (hf s a).trans (ih (f s a))

/-- Changes of other blocks. -/
theorem Calm.of_eq {s t : State} (hunit : t.unit = s.unit) (hslots : t.slots = s.slots)
    (hchannels : ∀ k, (t.channels.get k).causes = (s.channels.get k).causes) : Calm s t :=
  ⟨by rw [hunit], by rw [hunit], by rw [hunit], fun k => by rw [hslots], fun _ k => by rw [hchannels]; exact id⟩

theorem Move.calm {w : Bool} {s t : State} (h : Move w s t) : Calm s t := by
  have hunit := (State.still_fields h.still).2.1
  have hback := h.toMoves.backdrop
  exact ⟨by rw [hunit], by rw [hunit], by rw [hunit], fun k => (hback.jars k).pocket,
    fun _ k => by rw [hback.channels]; exact id⟩

theorem Act.calm {k : Fin 4} {s t : State} (h : Act k s t) : Calm s t := by
  cases h with
  | background h => exact h.calm
  | own h =>
    have hunit := (State.still_fields h.still).2.1
    refine ⟨by rw [hunit], by rw [hunit], by rw [hunit], fun j => ?_, fun hm j => ?_⟩
    · by_cases hj : j = k
      · exact hj ▸ h.pocket
      · rw [h.slots j hj]
    · by_cases hj : j = k
      · exact hj ▸ h.latched hm
      · rw [h.channels j hj]; exact id
  | announce _ _ _ => exact .of_eq rfl rfl fun _ => rfl
  | cancel _ => exact .of_eq rfl rfl fun _ => rfl

theorem Moves.calm {w : Bool} {s t : State} (h : Moves w s t) : Calm s t := by
  induction h with
  | refl => exact .refl _
  | tail _ hmove ih => exact ih.trans hmove.calm

theorem Acts.calm {k : Fin 4} {s t : State} (h : Acts k s t) : Calm s t := by
  induction h with
  | refl => exact .refl _
  | tail _ hact ih => exact ih.trans hact.calm

theorem elapse_calm (n : Nat) (s : State) : Calm s (elapse n s) :=
  .of_eq (elapse_unit n s) (elapse_slots n s) fun k => by obtain ⟨m, hm⟩ := elapse_channel n s k; rw [hm]

/-- The laws are kept in calm: what comes before a fault within one command. -/
structure Smooth (s t : State) : Prop where
  keeps : Keeps s t
  calm  : Calm s t

theorem Smooth.refl (s : State) : Smooth s s := ⟨.refl s, .refl s⟩

theorem Smooth.trans {s t u : State} (h : Smooth s t) (h' : Smooth t u) : Smooth s u :=
  ⟨h.keeps.trans h'.keeps, h.calm.trans h'.calm⟩

theorem Smooth.foldl {α : Type} {f : State → α → State} (hf : ∀ s a, Smooth s (f s a)) (l : List α) (s : State) :
    Smooth s (l.foldl f s) :=
  ⟨.foldl (fun s a => (hf s a).keeps) l s, .foldl (fun s a => (hf s a).calm) l s⟩

theorem Acts.smooth {k : Fin 4} {s t : State} (h : Acts k s t)
    (hheads : s.inReset = none → HeadsLaw s → HeadsLaw t) : Smooth s t := ⟨h.keeps hheads, h.calm⟩

theorem Moves.smooth {w : Bool} {s t : State} (h : Moves w s t) : Smooth s t := ⟨h.keeps, h.calm⟩

theorem elapse_smooth (n : Nat) (s : State) : Smooth s (elapse n s) := ⟨elapse_keeps n s, elapse_calm n s⟩

theorem consulted_smooth (s : State) : Smooth s (consulted s) := ⟨consulted_keeps s, .of_eq rfl rfl fun _ => rfl⟩

theorem takePins_smooth (p : Levels) (s : State) : Smooth s (takePins p s) :=
  Smooth.trans ⟨setLevels_keeps p s, .of_eq rfl rfl fun _ => rfl⟩ ((consulted_smooth _).trans
    (.foldl (fun s k => ⟨tripOvercurrent_keeps k s, (Acts.refl.tripOvercurrent : Acts k s _).calm⟩) _ _))

theorem elapse_latched (n : Nat) (s : State) : Latched s (elapse n s) := fun k => by
  obtain ⟨m, hm⟩ := elapse_channel n s k
  rw [hm]
  exact id

/-! ## The ends of a command -/

/-- What a command but a reset makes of a station: a state that is as lawful, or one that an entry to FAULT, a silence or
a restart has ended in. -/
inductive Ends (s : State) : State → Prop
  | kept {t : State} (h : Keeps s t) : Ends s t
  | faulted {u : State} (code : FaultCode) (hcode : code ≠ .none) (hmode : u.unit.mode ≠ .fault) (hkeeps : Keeps s u)
      (hcalm : Calm s u) (hlatched : Latched s u) : Ends s (enterFault code u)
  | silenced {u : State} (hmode : u.unit.mode = .fault) (hkeeps : Keeps s u) : Ends s (faultOfLine u)
  | restarted {u : State} (hline : u.transmit.onLine ≠ .none) (hkeeps : Keeps s u) : Ends s (restartReset u)

theorem Ends.refl (s : State) : Ends s s := .kept (.refl s)

/-- What keeps the laws before a command counts as the command's. -/
theorem Ends.after {s t u : State} (hs : Smooth s t) (hl : Latched s t) (h : Ends t u) :
    Ends s u := by
  obtain ⟨hkeeps, hcalm⟩ := hs
  cases h with
  | kept h => exact .kept (hkeeps.trans h)
  | faulted code hcode hmode h hc hlatched =>
    exact .faulted code hcode hmode (hkeeps.trans h) (hcalm.trans hc) fun k hk => hlatched k (hl k hk)
  | silenced hmode h => exact .silenced hmode (hkeeps.trans h)
  | restarted hline h => exact .restarted hline (hkeeps.trans h)

theorem Ends.whenever {c : State → Bool} {f : State → State} {s : State} (h : c s = true → Ends s (f s)) :
    Ends s (whenever c f s) := by
  unfold Machine.whenever
  split
  · exact h ‹_›
  · exact .refl s

theorem Keeps.whenever {c : State → Bool} {f : State → State} {s : State} (h : c s = true → Keeps s (f s)) :
    Keeps s (whenever c f s) := by
  unfold Machine.whenever
  split
  · exact h ‹_›
  · exact .refl s

/-- A fault found: the entry to FAULT, or nothing in FAULT. -/
theorem Ends.fault {s u : State} {code : FaultCode} (hcode : code ≠ .none) (hs : Smooth s u) (hl : Latched s u) :
    Ends s (enterFault code u) := by
  obtain ⟨hkeeps, hcalm⟩ := hs
  by_cases hmode : u.unit.mode = .fault
  · rw [enterFault_in_fault code u hmode]
    exact .kept hkeeps
  · exact .faulted code hcode hmode hkeeps hcalm hl

theorem Ends.lineFault {s u : State} (hs : Smooth s u) (hl : Latched s u) : Ends s (faultOfLine u) := by
  obtain ⟨hkeeps, hcalm⟩ := hs
  by_cases hmode : u.unit.mode = .fault
  · exact .silenced hmode hkeeps
  · unfold faultOfLine
    rw [if_neg hmode]
    exact .faulted .line (by decide) hmode hkeeps hcalm hl

end Sys2Proof.Machine

/-! The rows of the tracker and of learning keep the laws (Chapters 1 and 2). -/

namespace Sys2Proof.Machine
open Sys2Proof

/-! ## Changes of one block -/

theorem tracker_keeps {s : State} (t : Tracker)
    (h : s.trackLawful = true → ({ s with tracker := t } : State).trackLawful = true) : Keeps s { s with tracker := t } :=
  ⟨⟨id, id, id, id, id, h, fun _ h => h.congr rfl (fun _ => rfl) rfl rfl rfl rfl rfl, rfl⟩, fun h => ⟨h, rfl⟩, id⟩

theorem tracks_keeps {s : State} (t : Four Track) : Keeps s { s with tracks := t } :=
  .aside rfl rfl rfl rfl rfl rfl rfl fun _ h => h.congr rfl (fun _ => rfl) rfl rfl rfl rfl rfl

theorem slots_keeps {s : State} (f : Four Slot) (h : ∀ j, (f.get j).state = (s.slots.get j).state) :
    Keeps s { s with slots := f } :=
  .aside rfl rfl rfl rfl rfl rfl rfl fun _ hs => hs.congr rfl h rfl rfl rfl rfl rfl

/-- A good profile has a pocket (R174). -/
theorem State.pocketCount_pos {s : State} (hgood : s.settings.good = true)
    (hfields : Profile.fieldsOk s.settings.profile = true) : 0 < s.pocketCount := by
  simp only [Profile.fieldsOk, Bool.and_eq_true, within_iff, and_assoc] at hfields
  obtain ⟨-, -, hpockets, -⟩ := hfields
  simp only [State.pocketCount, State.profileField, hgood, if_true]
  omega

theorem State.expectedCount_lt {s : State} (h : 0 < s.pocketCount) : s.expectedCount < s.pocketCount := by
  unfold State.expectedCount
  split <;> omega

/-! ## The PITCH pulse (R3) -/

theorem pitch_lawful {s : State} (h : s.trackLawful = true) :
    ({ s with tracker := s.tracker.pitch s.pocketCount } : State).trackLawful = true := by
  rw [State.trackLawful_iff] at h ⊢
  obtain ⟨hbegun, hvalid, -, hl, hreset⟩ := h
  refine ⟨hbegun, fun hv => ?_, Nat.zero_le _, ?_, hreset⟩
  · obtain ⟨hb, -⟩ := hvalid hv
    obtain ⟨hgood, -, hfields⟩ := hbegun hb
    have hv' : s.tracker.valid = true := hv
    refine ⟨hb, ?_⟩
    simp only [Tracker.pitch, hv', if_true]
    exact Nat.mod_lt _ (State.pocketCount_pos hgood hfields)
  · simp only [Tracker.pitch]
    split
    · exact hl
    · exact Nat.min_le_left _ _

theorem countPitch_smooth (s : State) : Smooth s (countPitch s) := by
  have hpitch (x : State) : Smooth x { x with tracker := x.tracker.pitch x.pocketCount } :=
    ⟨tracker_keeps _ pitch_lawful, .of_eq rfl rfl fun _ => rfl⟩
  unfold countPitch
  dsimp only
  split
  · exact (elapse_smooth 1 s).trans (hpitch _)
  · exact hpitch s

theorem endHolds_smooth (ends : Fin 4 → Bool) (s : State) : Smooth s (endHolds ends s) :=
  ⟨tracks_keeps _, .of_eq rfl rfl fun _ => rfl⟩

theorem resumeHead_smooth (s : State) (k : Fin 4) : Smooth s (resumeHead s k) := by
  unfold resumeHead
  split
  · next hasks =>
    simp only [State.asksAgain, Bool.and_eq_true, decide_eq_true_eq] at hasks
    obtain ⟨⟨hp, -⟩, -⟩ := hasks
    have hclosure : (s.engines.get k).inClosure = true := by simp [Engine.inClosure, hp]
    exact Acts.refl.beginAsk.smooth fun hr h => h.beginAsk hr .refl (h.holding hclosure (by simp [hp])) hp
      (h.valve_off hclosure (by simp [hp]))
  · exact .refl s

theorem resumeHeads_smooth (s : State) : Smooth s (resumeHeads s) :=
  (consulted_smooth s).trans (.foldl resumeHead_smooth _ _)

theorem newPass_smooth (k : Fin 4) (s : State) : Smooth s (newPass k s) := ⟨newPass_keeps k s, Acts.refl.newPass.calm⟩

theorem reportRise_smooth (k : Fin 4) (s : State) : Smooth s (reportRise k s) :=
  ⟨reportRise_keeps k s, Acts.refl.reportRise.calm⟩

theorem headAtPulse_smooth (ended : Fin 4 → Bool) (s : State) (k : Fin 4) : Smooth s (headAtPulse ended s k) := by
  unfold headAtPulse
  split
  · split
    · exact newPass_smooth k s
    · split
      · exact .refl s
      · exact reportRise_smooth k s
  · exact .refl s

theorem headsAtPulse_smooth (ended : Fin 4 → Bool) (s : State) : Smooth s (headsAtPulse ended s) :=
  (consulted_smooth s).trans (.foldl (headAtPulse_smooth ended) _ _)

theorem drawPulse_calm (s : State) : Calm s (drawPulse s) := by
  unfold drawPulse
  split
  · dsimp only
    refine @Calm.trans _ { s with view := s.view.pulse s.pocketCount, draws := s.draws.map OwnDraw.countDown } _
      (.of_eq rfl rfl fun _ => rfl) ?_
    split
    · exact (Moves.calm (moves_bothChecks _)).trans (Moves.calm (@moves_bothArbiters true _))
    · exact Moves.calm (@moves_bothArbiters true _)
  · exact .refl s

theorem holdOffPulse_smooth (s : State) : Smooth s (holdOffPulse s) :=
  ⟨marks_keeps _ rfl rfl rfl rfl, ⟨rfl, rfl, rfl, fun _ => rfl, fun _ _ => id⟩⟩

theorem completeListening_keeps (s : State) (hmode : s.unit.mode = .announce) : Keeps s (completeListening s) := by
  have hs' : Keeps s { s with unit := { s.unit with held := .clear, listen := 0 }
                              announce := { s.announce with stage := .none } } :=
    @Keeps.trans _ { s with unit := { s.unit with held := .clear, listen := 0 } } _
      (marks_keeps _ rfl rfl rfl rfl) (announce_keeps _ _)
  unfold completeListening
  dsimp only
  split
  · exact hs'.trans (enterRun_keeps _ (by simp [hmode, Mode.keepsView]))
  · exact hs'.trans (enterStand_keeps _ (.inr hmode))
  · exact hs'.trans (enterSafe_keeps _ (by simp [hmode, Mode.keepsView]))

theorem listenPulse_keeps (s : State) : Keeps s (listenPulse s) := by
  unfold listenPulse
  split
  · next hl =>
    simp only [State.listens, Bool.and_eq_true, decide_eq_true_eq] at hl
    have hcount : Keeps s { s with unit := { s.unit with listen := s.unit.listen + 1 } } :=
      marks_keeps _ rfl rfl rfl rfl
    dsimp only
    split
    · exact hcount.trans (completeListening_keeps _ hl.1)
    · exact hcount
  · exact .refl s

/-- In LEARN the listening unit does nothing, and the learning unit may fault. -/
theorem learnPulse_ends {s : State} (hmode : s.unit.mode = .learn) : Ends s (learnPulse (listenPulse s)) := by
  have hl : listenPulse s = s := by
    unfold listenPulse
    rw [if_neg]
    simp [State.listens, hmode]
  rw [hl]
  unfold learnPulse
  split
  · have hcount : Smooth s { s with unit := { s.unit with learn := s.unit.learn + 1 } } :=
      ⟨marks_keeps _ rfl rfl rfl rfl, ⟨rfl, rfl, rfl, fun _ => rfl, fun _ _ => id⟩⟩
    dsimp only
    split
    · exact .fault (by decide) hcount fun _ => id
    · exact .kept hcount.keeps
  · exact .refl s

theorem completeListening_mode (s : State) : (completeListening s).unit.mode ≠ .learn := by
  unfold completeListening
  dsimp only
  split
  · rw [(State.still_fields (still_enterRun _)).2.1]; simp [setMode]
  · rw [(State.still_fields (still_enterStand _)).2.1]; simp [setMode]
  · rw [(State.still_fields (still_enterSafe _)).2.1]; simp [setMode]

/-- Outside LEARN the learning unit does nothing. -/
theorem learnPulse_idle {s : State} (hmode : s.unit.mode ≠ .learn) : learnPulse (listenPulse s) = listenPulse s := by
  have hnot : (listenPulse s).unit.mode ≠ .learn := by
    unfold listenPulse
    split
    · dsimp only
      split
      · exact completeListening_mode _
      · exact hmode
    · exact hmode
  unfold learnPulse
  rw [if_neg]
  simp [State.countsLearning, hnot]

/-- The pulse up to the mode unit's counts. -/
theorem pulseUnits_smooth (s : State) : Smooth s (holdOffPulse (drawPulse
    (headsAtPulse (countPitch s).endsHoldAtPulse
      (if s.tracker.motion = .stalled then resumeHeads (endHolds (countPitch s).endsHoldAtPulse (countPitch s))
        else endHolds (countPitch s).endsHoldAtPulse (countPitch s))))) := by
  have hcount := (countPitch_smooth s).trans (endHolds_smooth (countPitch s).endsHoldAtPulse (countPitch s))
  have hdraw (x : State) : Smooth x (drawPulse x) := ⟨drawPulse_keeps x, drawPulse_calm x⟩
  have hrest (x : State) : Smooth x (holdOffPulse (drawPulse (headsAtPulse (countPitch s).endsHoldAtPulse x))) :=
    (headsAtPulse_smooth _ x).trans ((hdraw _).trans (holdOffPulse_smooth _))
  split
  · exact (hcount.trans (resumeHeads_smooth _)).trans (hrest _)
  · exact hcount.trans (hrest _)

theorem takePitch_ends {s : State} (hmode : s.unit.mode = .learn) : Ends s (takePitch s) := by
  have hunits := pulseUnits_smooth s
  exact .after hunits (hunits.calm.latched (by simp [hmode])) (learnPulse_ends (hunits.calm.mode.trans hmode))

theorem takePitch_keeps {s : State} (hmode : s.unit.mode ≠ .learn) : Keeps s (takePitch s) := by
  have hunits := pulseUnits_smooth s
  unfold takePitch
  dsimp only
  rw [learnPulse_idle (by rw [hunits.calm.mode]; exact hmode)]
  exact hunits.keeps.trans (listenPulse_keeps _)

theorem pitchEdge_ends (dt : Nat) (pins : Levels) (s : State) : Ends s (pitchEdge dt pins s) := by
  have hedge := (elapse_smooth dt s).trans (takePins_smooth pins (elapse dt s))
  by_cases hmode : s.unit.mode = .learn
  · exact .after hedge (hedge.calm.latched (by simp [hmode]))
      (.whenever fun _ => takePitch_ends (hedge.calm.mode.trans hmode))
  · exact .kept (hedge.keeps.trans (.whenever fun _ => takePitch_keeps (by rw [hedge.calm.mode]; exact hmode)))

/-! ## The ZERO pulse (R6, R7) -/

theorem givePocket_keeps (p0 : Nat) (s : State) (k : Fin 4) : Keeps s (givePocket p0 s k) :=
  slots_keeps _ fun j => by
    by_cases hj : j = k
    · rw [hj, Four.get_modify_same]
    · rw [Four.get_modify_other _ _ hj]

theorem markPassed_keeps (s : State) (k : Fin 4) : Keeps s (markPassed s k) := by
  have hmark (x : State) (t : Threshold) : Keeps x (markReached k t x) := tracks_keeps _
  unfold markPassed
  dsimp only
  split
  · split
    · exact (hmark _ _).trans (hmark _ _)
    · exact hmark _ _
  · split
    · exact hmark _ _
    · exact .refl s

theorem markPassed_unit (s : State) (k : Fin 4) : (markPassed s k).unit = s.unit := by
  unfold markPassed
  dsimp only
  split <;> split <;> rfl

theorem enterAnnounce_keeps {s : State} (hmode : s.unit.mode = .learn) : Keeps s (enterAnnounce s) :=
  (setMode_keeps .announce (by simp [hmode]) (by decide) (fun _ => rfl) (by simp [hmode])).trans
    ((doubtBegins_keeps _).trans (offerPosition_keeps _))

/-- In LEARN the place is taken, the pockets are given, and the station announces itself. -/
theorem completeLearning_keeps (g p0 : Nat) {s : State} (hmode : s.unit.mode = .learn) :
    Keeps s (completeLearning g p0 s) := by
  have hplace : Keeps s { s with unit := { s.unit with g := some g, p0 := some p0, node := g } } := by
    refine ⟨⟨id, id, id, id, fun h => ?_, id, fun _ h => h.congr rfl (fun _ => rfl) rfl rfl rfl rfl rfl, rfl⟩,
      fun h => absurd h (by simp [hmode]), id⟩
    rw [State.viewLawful_iff] at h ⊢
    obtain ⟨hlength, hnodup, -, hview⟩ := h
    have hempty : s.view.entries = [] := hview.resolve_left (by simp [hmode, Mode.keepsView])
    exact ⟨hlength, hnodup, fun e he => by simp [hempty] at he, .inr hempty⟩
  have hmarked (l l' : List (Fin 4)) (x : State) : Keeps x (l.foldl markPassed (l'.foldl (givePocket p0) x)) :=
    (Keeps.foldl (givePocket_keeps p0) l' x).trans (.foldl markPassed_keeps l _)
  have hunit (l l' : List (Fin 4)) (x : State) :
      (l.foldl markPassed (l'.foldl (givePocket p0) x)).unit = x.unit := by
    rw [foldl_keeps State.unit markPassed markPassed_unit, foldl_keeps State.unit (givePocket p0) fun _ _ => rfl]
  exact (hplace.trans (hmarked _ _ _)).trans (enterAnnounce_keeps (by rw [hunit]; exact hmode))

theorem countValid_keeps (s : State) : Keeps s (countValid s) := by
  unfold countValid
  split
  · next hmode =>
    split
    · exact marks_keeps _ rfl rfl rfl rfl
    · exact completeLearning_keeps _ _ hmode
  · exact .refl s

/-- The count set to the expected one on a tracker that counts. -/
theorem expected_lawful {s : State} (v : Bool) (hb : s.tracker.begun = true) (h : s.trackLawful = true) :
    ({ s with tracker := { s.tracker with c := s.expectedCount, valid := v } } : State).trackLawful = true := by
  rw [State.trackLawful_iff] at h ⊢
  obtain ⟨hbegun, -, he, hl, hreset⟩ := h
  obtain ⟨hgood, -, hfields⟩ := hbegun hb
  exact ⟨hbegun, fun _ => ⟨hb, State.expectedCount_lt (State.pocketCount_pos hgood hfields)⟩, he, hl, hreset⟩

theorem slipSlots_keeps (s : State) : Keeps s (slipSlots s) :=
  slots_keeps _ fun j => by rw [Four.get_map, Slot.write_state]

theorem slipForward_keeps (d : Nat) (old : Four Nat) (ended : Fin 4 → Bool) (s : State) (k : Fin 4) :
    Keeps s (slipForward d old ended s k) := by
  unfold slipForward
  split
  · split
    · exact newPass_keeps k s
    · split
      · exact .refl s
      · exact reportRise_keeps k s
  · exact .refl s

theorem slipBackward_keeps (b : Nat) (old : Four Nat) (s : State) (k : Fin 4) : Keeps s (slipBackward b old s k) := by
  unfold slipBackward
  split
  · exact tracks_keeps _
  · exact .refl s

theorem slip_keeps {s : State} (hb : s.tracker.begun = true) : Keeps s (slip s) := by
  have hcount : Keeps s { s with tracker := { s.tracker with c := s.expectedCount } } :=
    tracker_keeps _ (expected_lawful s.tracker.valid hb)
  unfold slip
  dsimp only
  split
  · exact hcount.trans ((slipSlots_keeps _).trans ((endHolds_smooth _ _).keeps.trans ((consulted_keeps _).trans
      (.foldl (slipForward_keeps _ _ _) _ _))))
  · exact hcount.trans ((slipSlots_keeps _).trans (.foldl (slipBackward_keeps _ _) _ _))

theorem takeZero_keeps {s : State} (hb : s.tracker.begun = true) : Keeps s (takeZero s) := by
  unfold takeZero
  split
  · split
    · exact .refl s
    · exact slip_keeps hb
  · exact (tracker_keeps _ (expected_lawful true hb)).trans (countValid_keeps _)

/-! ## Time-driven rows -/

theorem phaseReports_keeps (s : State) (k : Fin 4) : Keeps s (phaseReports s k) := by
  unfold phaseReports
  split
  · exact reportRise_keeps k s
  · exact .refl s

theorem allPhaseReports_keeps (s : State) : Keeps s (allPhaseReports s) :=
  (consulted_keeps s).trans (.foldl phaseReports_keeps _ _)

theorem stallAsk_keeps (s : State) (k : Fin 4) : Keeps s (stallAsk s k) := by
  unfold stallAsk
  split
  · next hasks =>
    obtain ⟨hp, -⟩ := hasks
    have hacts : Acts k s (modDraw k (fun d => { d with ask := none }) (modEngine k (fun x => { x with asking := false }) s)) :=
      (Acts.refl.engine _).draw _
    refine hacts.keeps fun hr h => ?_
    have hclosure : (s.engines.get k).inClosure = true := by simp [Engine.inClosure, hp]
    have hk := h.holding hclosure (by simp [hp])
    refine h.of_settled hacts hr (@Holding.settled _ _ .steamWait ⟨hk.bound, hk.channel, ?_, hk.unforced⟩ ?_ (by decide) ?_)
    · rw [modDraw_draws, Four.get_modify_same]
      have hd := hk.draw
      rw [hp] at hd
      exact ⟨.inl rfl, hd.terms, hd.agrees⟩
    · simpa using hp
    · simp [h.valve_off hclosure (by simp [hp])]
  · exact .refl s

theorem endFlush_keeps (k : Fin 4) (kind : FlushEnd) {s : State} (hp : (s.engines.get k).phase = .flush) :
    Keeps s (endFlush k kind s) := by
  refine (Acts.refl.endFlush kind).keeps fun hr h => ?_
  have hclosure : (s.engines.get k).inClosure = true := by simp [Engine.inClosure, hp]
  have hk := h.holding hclosure (by simp [hp])
  rw [hp] at hk
  exact h.of_settled (Acts.refl.endFlush kind) hr (hk.endFlush kind)

theorem stallFlush_keeps (s : State) (k : Fin 4) : Keeps s (stallFlush s k) := by
  unfold stallFlush
  split
  · exact endFlush_keeps k .cut ‹_›
  · exact .refl s

theorem enterStalled_keeps (s : State) : Keeps s (enterStalled s) := by
  have hmotion : Keeps s { s with tracker := { s.tracker with motion := .stalled, stage := 0 } } :=
    tracker_keeps _ fun h => by rw [State.trackLawful_iff] at h ⊢; exact h
  exact hmotion.trans ((Keeps.foldl stallAsk_keeps _ _).trans ((consulted_keeps _).trans (.foldl stallFlush_keeps _ _)))

theorem advancePhase_keeps (k : Fin 4) (s : State) : Keeps s (advancePhase k s) := by
  unfold advancePhase
  split
  · split
    · exact elapse_keeps _ s
    · exact .refl s
  · exact .refl s

/-! ## MARK (R22) -/

theorem takeMark_ends {s : State} (hcounts : s.countsLearning = true) : Ends s (takeMark s) := by
  simp only [State.countsLearning, Bool.and_eq_true, decide_eq_true_eq] at hcounts
  obtain ⟨⟨hmode, -⟩, -⟩ := hcounts
  unfold takeMark
  split
  · exact .kept (completeLearning_keeps _ _ hmode)
  · refine .fault (by decide) ⟨?_, ⟨rfl, rfl, rfl, fun _ => rfl, fun _ _ => id⟩⟩ fun _ => id
    refine unit_keeps _ rfl id (fun h => ?_) id fun _ => .inl
    simp [hmode] at h

end Sys2Proof.Machine

/-! The rows of the line interface keep the laws (Chapter 3). -/

namespace Sys2Proof.Machine
open Sys2Proof

/-! ## Reception (R53 to R61) -/

theorem receive_smooth {s : State} (r : Receive) (h : s.receive.lawful = true → r.lawful = true) :
    Smooth s { s with receive := r } :=
  ⟨⟨⟨id, id, h, id, id, id, fun _ h => h.congr rfl (fun _ => rfl) rfl rfl rfl rfl rfl, rfl⟩, fun h => ⟨h, rfl⟩, id⟩,
    .of_eq rfl rfl fun _ => rfl⟩

/-- The receiver moves on within a frame. -/
theorem receiver_keeps {s : State} (x : Receiver) (own : Bool) :
    Keeps s { s with receive := { s.receive with receiver := x, own := own } } :=
  (receive_smooth { s.receive with receiver := x, own := own } id).keeps

theorem Errors.lawful_iff (e : Errors) : e.lawful = true
    ↔ e.check ≤ 255 ∧ e.framing ≤ 255 ∧ e.truncated ≤ 255 ∧ e.length ≤ 255 ∧ e.overrun ≤ 255 := by
  simp only [Errors.lawful, Bool.and_eq_true, decide_eq_true_eq, and_assoc]

theorem Receive.lawful_iff (r : Receive) : r.lawful = true ↔ r.queue.length ≤ receiveBound ∧ r.errors.lawful = true := by
  simp only [Receive.lawful, Bool.and_eq_true, decide_eq_true_eq]

theorem Errors.count_lawful {e : Errors} (k : ReceiveError) (h : e.lawful = true) : (e.count k).lawful = true := by
  rw [Errors.lawful_iff] at h ⊢
  obtain ⟨hcheck, hframing, htruncated, hlength, hoverrun⟩ := h
  have hup (n : Nat) : countUp n ≤ 255 := Nat.min_le_left _ _
  cases k
  · exact ⟨hup _, hframing, htruncated, hlength, hoverrun⟩
  · exact ⟨hcheck, hup _, htruncated, hlength, hoverrun⟩
  · exact ⟨hcheck, hframing, hup _, hlength, hoverrun⟩
  · exact ⟨hcheck, hframing, htruncated, hup _, hoverrun⟩
  · exact ⟨hcheck, hframing, htruncated, hlength, hup _⟩

theorem receiveError_keeps (k : ReceiveError) (s : State) : Keeps s (receiveError k s) := by
  have hcount : Keeps s { s with receive := { s.receive with errors := s.receive.errors.count k } } := by
    refine (receive_smooth _ fun h => ?_).keeps
    rw [Receive.lawful_iff] at h ⊢
    exact ⟨h.1, Errors.count_lawful k h.2⟩
  exact hcount.trans (doubtBegins_keeps _)

theorem passByte_keeps (s : State) : Keeps s (passByte s) := by
  obtain ⟨-, heq⟩ | ⟨-, heq⟩ := passByte_cases s
  · rw [heq]; exact .refl s
  · rw [heq]
    obtain ⟨hnormal, hslot, hline, hsilenced⟩ := elapse_transmit s.transmit.byteSteps s
    refine (elapse_keeps s.transmit.byteSteps s).trans (transmit_keeps _ (fun h => ?_) fun h => ?_)
    · rw [Transmit.lawful_congr hnormal hslot hline] at h
      exact h
    · rw [Transmit.silent_congr hnormal hslot hline hsilenced] at h
      exact h

theorem compareHalt_keeps (f : Frame) (s : State) : Keeps s (compareHalt f s) := by
  refine transmit_keeps _ (fun h => ?_) fun h => ?_
  · rw [Transmit.lawful_iff] at h ⊢
    obtain ⟨hcount, hopens, hkinds, hslot, hline⟩ := h
    refine ⟨hcount, hopens, hkinds, fun g hg => hslot g ?_, hline⟩
    split at hg
    · cases hg
    · next q hq => split at hg <;> simp_all
  · rw [Transmit.silent_iff] at h ⊢
    obtain ⟨hsilenced, hnormal, hslot, hline⟩ := h
    exact ⟨hsilenced, hnormal, by simp [hslot], hline⟩

theorem queueFrame_keeps (f : Frame) (s : State) : Keeps s (queueFrame f s) := by
  unfold queueFrame
  split
  · next hroom =>
    refine (receive_smooth _ fun h => ?_).keeps
    rw [Receive.lawful_iff] at h ⊢
    exact ⟨by rw [List.length_append]; exact hroom, h.2⟩
  · exact receiveError_keeps .overrun s

theorem takeFrame_keeps (f : Frame) (s : State) : Keeps s (takeFrame f s) := by
  have hmeet : Keeps s (meetHalt f s) := by
    unfold meetHalt
    split
    · exact compareHalt_keeps f s
    · exact .refl s
  unfold takeFrame
  split
  · exact hmeet.trans (queueFrame_keeps f _)
  · exact hmeet

theorem endFrame_keeps (s : State) : Keeps s (endFrame s) := receiver_keeps _ _

theorem takeCheck_keeps (lead : Byte) (got : List Byte) (b : Byte) (s : State) : Keeps s (takeCheck lead got b s) := by
  unfold takeCheck
  split
  · split
    · exact endFrame_keeps s
    · exact (endFrame_keeps s).trans (takeFrame_keeps _ _)
  · exact (endFrame_keeps s).trans (receiveError_keeps _ _)

theorem takeLength_keeps (lead b : Byte) (s : State) : Keeps s (takeLength lead b s) := by
  unfold takeLength
  split
  · exact (endFrame_keeps s).trans (receiveError_keeps _ _)
  · exact receiver_keeps _ _

theorem frameByte_keeps (b : Byte) (lead stop : Bool) {take : State → State} {s : State} (h : Keeps s (take s)) :
    Keeps s (frameByte b lead stop take s) := by
  unfold frameByte
  split
  · exact (endFrame_keeps s).trans (receiveError_keeps _ _)
  · split
    · exact @Keeps.trans _ (beginFrame b s) _ (receiver_keeps _ _) (receiveError_keeps _ _)
    · exact h

theorem takeByte_keeps (b : Byte) (lead stop : Bool) (s : State) : Keeps s (takeByte b lead stop s) := by
  refine (passByte_keeps s).trans ?_
  unfold takeByte receiverTakes
  split
  · unfold huntByte
    split
    · exact receiver_keeps _ _
    · exact .refl _
  · exact frameByte_keeps b lead stop (takeLength_keeps _ b _)
  · exact frameByte_keeps b lead stop (receiver_keeps _ _)
  · exact frameByte_keeps b lead stop (takeCheck_keeps _ _ b _)

/-! ## The end of a transmission (R41, R47, R52) -/

theorem Transmit.begin_lawful {t : Transmit} (h : t.lawful = true) : t.begin.lawful = true := by
  unfold Transmit.begin
  rw [Transmit.lawful_iff] at h
  obtain ⟨hcount, hopens, hkinds, hslot, hline⟩ := h
  have hlength : t.normal.length ≤ normalBound := by
    unfold Transmit.normalCount at hcount
    omega
  split
  · next f hf =>
    rw [Transmit.lawful_iff]
    exact ⟨hlength, hopens, hkinds, by simp, by simpa [OnLine.lawful] using hslot f hf⟩
  · next hnone =>
    rw [Transmit.lawful_iff]
    exact ⟨hlength, hopens, hkinds, hslot, rfl⟩

theorem beginFrameOut_keeps {s : State} (h : s.mayBegin = true) : Keeps s (beginFrameOut s) := by
  have hwait : Keeps s (waitGap s) := elapse_keeps _ s
  refine hwait.trans (transmit_keeps _ Transmit.begin_lawful fun hs => ?_)
  have hsilenced : (waitGap s).transmit.silenced = s.transmit.silenced := (elapse_transmit _ s).2.2.2
  rw [Transmit.silent_iff, hsilenced] at hs
  simp [State.mayBegin, hs.1] at h

/-- A frame off the line, with the bits or the byte that another node goes on with. -/
theorem offLine_smooth (byte : Option Nat) (s : State) : Smooth s (offLine byte s) := by
  refine ⟨transmit_keeps _ (fun h => ?_) fun h => ?_, .of_eq rfl rfl fun _ => rfl⟩
  · rw [Transmit.lawful_iff] at h ⊢
    obtain ⟨hcount, hopens, hkinds, hslot, -⟩ := h
    refine ⟨?_, hopens, hkinds, hslot, rfl⟩
    unfold Transmit.normalCount at hcount ⊢
    exact Nat.le_trans (Nat.le_add_right _ _) hcount
  · rw [Transmit.silent_iff] at h ⊢
    obtain ⟨hsilenced, hnormal, hslot, -⟩ := h
    exact ⟨hsilenced, hnormal, hslot, rfl⟩

theorem dropHead_keeps (s : State) : Keeps s (dropHead s) := by
  refine transmit_keeps _ (fun h => ?_) fun h => ?_
  · refine Transmit.lawful_subperm h (List.drop_sublist 1 _) ?_ ?_
    all_goals rfl
  · rw [Transmit.silent_iff] at h ⊢
    obtain ⟨hsilenced, hnormal, hslot, hline⟩ := h
    exact ⟨hsilenced, by simp [hnormal], hslot, hline⟩

theorem sentPosition_keeps (s : State) : Keeps s (sentPosition s) := by
  unfold sentPosition
  split
  · exact @Keeps.trans _ { s with announce := { s.announce with stage := .listening } } _ (announce_keeps _ _)
      (marks_keeps _ rfl rfl rfl rfl)
  · split
    · exact @Keeps.trans _ { s with announce := { s.announce with reQueued := false } } _ (announce_keeps _ _)
        (marks_keeps _ rfl rfl rfl rfl)
    · exact .refl s

theorem openSent_keeps (k : Fin 4) (c : DrawClass) (s : State) : Keeps s (openSent k c s) :=
  (Acts.refl.openSent c).keeps fun hr h => h.openSent hr k c

theorem sentOpen_keeps (p : List Byte) (s : State) : Keeps s (sentOpen p s) := by
  unfold sentOpen
  split
  · exact openSent_keeps _ _ s
  · exact .refl s

theorem sentVerdict_keeps (ticket : Nat) (s : State) : Keeps s (sentVerdict ticket s) :=
  slots_keeps _ fun j => by rw [Four.get_map]; rfl

theorem sentReport_keeps (t : TxFrame) (s : State) : Keeps s (sentReport t s) := by
  unfold sentReport
  split
  · exact sentPosition_keeps s
  · exact sentOpen_keeps _ s
  · exact sentVerdict_keeps _ s
  all_goals exact .refl s

theorem queueRemoval_keeps (s : State) : Keeps s (queueRemoval s) := Moves.keeps (@moves_queueRemoval true s)

theorem frameSent_ends (s : State) : Ends s (frameSent s) := by
  unfold frameSent
  split
  · next t rest hline hnormal =>
    unfold normalSent
    split
    · exact .restarted (by simp [hline]) (.refl s)
    · exact .kept ((offLine_smooth none s).keeps.trans ((dropHead_keeps _).trans ((sentReport_keeps t _).trans
        (queueRemoval_keeps _))))
  · exact .kept (offLine_smooth none s).keeps

/-! ## Collisions (R47 to R51) -/

/-- The head of the normal part put back with another payload or collision count. -/
theorem putHead_smooth {s : State} {t u : TxFrame} {rest : List TxFrame} (hnormal : s.transmit.normal = t :: rest)
    (hopens : u.opensHead = t.opensHead) (hkind : u.frame.kind = t.frame.kind) : Smooth s (putHead u s) := by
  refine ⟨transmit_keeps _ (fun h => ?_) fun h => ?_, .of_eq rfl rfl fun _ => rfl⟩
  · rw [Transmit.lawful_iff] at h ⊢
    obtain ⟨hcount, hnodup, hkinds, hslot, hline⟩ := h
    unfold Transmit.normalCount at hcount ⊢
    simp only [hnormal, List.drop_one, List.tail_cons, List.filterMap_cons, hopens, List.length_cons] at hcount hnodup ⊢
    refine ⟨hcount, hnodup, fun f hf => ?_, hslot, hline⟩
    rcases List.mem_cons.1 hf with rfl | hf
    · rw [hkind]
      exact hkinds t (by simp [hnormal])
    · exact hkinds f (by simp [hnormal, hf])
  · rw [Transmit.silent_iff] at h
    simp [hnormal] at h

theorem countedCollision_ends {s : State} {t : TxFrame} {rest : List TxFrame} (hnormal : s.transmit.normal = t :: rest) :
    Ends s (countedCollision t s) := by
  have hput : Smooth s (putHead t.collided s) := putHead_smooth hnormal rfl rfl
  unfold countedCollision
  split
  · exact .lineFault hput fun _ => id
  · exact .kept hput.keeps

theorem TxFrame.opensHead_of_position {t : TxFrame} (h : t.frame.kind = .position) : t.opensHead = none := by
  simp [TxFrame.opensHead, h]

theorem announceCollision_ends {s : State} {t : TxFrame} {rest : List TxFrame} (hnormal : s.transmit.normal = t :: rest)
    (hkind : t.frame.kind = .position) : Ends s (announceCollision t s) := by
  unfold announceCollision
  split
  · have hput : Smooth { s with announce := { s.announce with stage := .retry } }
        (putHead (t.collided.marked (s.unit.g.getD 0)) { s with announce := { s.announce with stage := .retry } }) :=
      putHead_smooth hnormal (by rw [TxFrame.opensHead_of_position hkind]; exact TxFrame.opensHead_of_position hkind) rfl
    exact .kept ((announce_keeps s _).trans hput.keeps)
  · exact .fault (by decide) (putHead_smooth hnormal rfl rfl) fun _ => id
  all_goals exact countedCollision_ends hnormal

theorem reannounceCollision_keeps (s : State) : Keeps s (reannounceCollision s) :=
  (announce_keeps s _).trans ((dropHead_keeps _).trans (queueRemoval_keeps _))

theorem normalCollision_ends {s : State} {t : TxFrame} {rest : List TxFrame} (hnormal : s.transmit.normal = t :: rest) :
    Ends s (normalCollision t s) := by
  unfold normalCollision
  split
  · exact announceCollision_ends hnormal ‹_›
  · exact .kept (reannounceCollision_keeps s)
  · exact .kept (reannounceCollision_keeps s)
  · exact .kept (reannounceCollision_keeps s)
  · exact countedCollision_ends hnormal

/-- A HALT back in its slot stays one. -/
theorem returnHalt_keeps {s : State} {f : Frame} (byte : Option Nat) (hline : s.transmit.onLine = .halt f) :
    Keeps s (returnHalt f (offLine byte s)) := by
  refine transmit_keeps _ (fun h => ?_) fun h => ?_
  · have hoff := (offLine_smooth byte s).keeps.queue h
    rw [Transmit.lawful_iff] at h hoff ⊢
    obtain ⟨-, -, -, hslot, hhalt⟩ := h
    obtain ⟨hcount, hopens, hkinds, -, -⟩ := hoff
    have hf : f.kind = .halt := by simpa [hline, OnLine.lawful] using hhalt
    refine ⟨hcount, hopens, hkinds, fun g hg => ?_, rfl⟩
    cases hq : s.transmit.slot with
    | none =>
      simp only [offLine, hq, Option.some.injEq] at hg
      exact hg ▸ hf
    | some q =>
      simp only [offLine, hq] at hg
      split at hg
      · exact Option.some.inj hg ▸ hf
      · exact Option.some.inj hg ▸ hslot q hq
  · rw [Transmit.silent_iff] at h
    simp [hline] at h

theorem disown_smooth (s : State) : Smooth s (disown s) := receive_smooth _ id

theorem frameCollided_ends (bit : Nat) (s : State) : Ends s (frameCollided bit s) := by
  unfold frameCollided
  dsimp only
  split
  · exact .kept (returnHalt_keeps _ ‹_›)
  · next t rest _ hnormal =>
    exact .after (offLine_smooth _ s) (fun _ => id) (@normalCollision_ends _ t rest hnormal)
  · exact .kept (offLine_smooth _ s).keeps

end Sys2Proof.Machine

/-! The rows of the delivered frames, of the door, of the heads' own time and of the service unit keep the laws
(Chapters 2, 4 to 7, 9 and 10). -/

namespace Sys2Proof.Machine
open Sys2Proof

/-! ## Delivery (R62) -/

/-- A frame taken leaves the rest of the queue. -/
theorem frameTaken_smooth {s : State} {f : Frame} {rest : List Frame} (hqueue : s.receive.queue = f :: rest) :
    Smooth s { s with receive := { s.receive with queue := rest } } :=
  receive_smooth _ fun h => by
    rw [Receive.lawful_iff, hqueue, List.length_cons] at h
    rw [Receive.lawful_iff]
    exact ⟨Nat.le_of_succ_le h.1, h.2⟩

theorem deliver_ends {kind : Kind} {take : Frame → State → State} (h : ∀ f x, Ends x (take f x)) (s : State) :
    Ends s (deliver kind take s) := by
  unfold deliver
  split
  · exact .refl s
  · next f rest hqueue =>
    split
    · exact .after (frameTaken_smooth hqueue) (fun _ => id) (h f _)
    · exact .refl s

theorem needing_ends (n : Nat) {take : Frame → State → State} (h : ∀ f x, Ends x (take f x)) (f : Frame) (s : State) :
    Ends s (needing n take f s) := by
  unfold needing
  split
  · exact h f s
  · exact .refl s

/-! ## POSITION and JAR-IN -/

theorem takePosition_ends (f : Frame) (s : State) : Ends s (takePosition f s) := by
  have hanswer : Ends s (answerPosition f s) := by
    unfold answerPosition
    split
    · exact .kept (offerReannouncement_keeps s)
    · exact .refl s
  unfold takePosition
  split
  · unfold checkPosition
    split
    · exact .fault (by decide) (.refl s) fun _ => id
    · split
      · exact .fault (by decide) (.refl s) fun _ => id
      · exact .refl s
  · exact hanswer
  · exact hanswer
  · exact hanswer
  all_goals exact .refl s

theorem Slot.takeJar_state (recipe : RecipeRef) (p : List Byte) (x : Slot) : (x.takeJar recipe p).state = x.state := by
  unfold Slot.takeJar
  split <;> rfl

/-- A change of one slot that leaves its state. -/
theorem modSlot_keeps {k : Fin 4} {f : Slot → Slot} (hf : ∀ x, (f x).state = x.state) (s : State) :
    Keeps s (modSlot k f s) :=
  slots_keeps _ fun j => by
    by_cases hj : j = k
    · rw [hj, Four.get_modify_same, hf]
    · rw [Four.get_modify_other _ _ hj]

theorem takeJarIn_keeps (f : Frame) (s : State) : Keeps s (takeJarIn f s) := by
  unfold takeJarIn
  split
  · split
    · exact modSlot_keeps (Slot.takeJar_state _ _) s
    · exact .refl s
  · exact .refl s

/-! ## The view table (R134 to R137) -/

theorem checkAndRun_keeps (c : DrawClass) (s : State) : Keeps s (checkAndRun c s) := (moves_checkAndRun c s).keeps

theorem replaceEntry_keys (e : ViewEntry) (l : List ViewEntry) :
    (replaceEntry e l).map (fun x => (x.group, x.head, x.cls)) = l.map (fun x => (x.group, x.head, x.cls)) := by
  rw [replaceEntry, List.map_map]
  refine List.map_congr_left fun x _ => ?_
  simp only [Function.comp_apply]
  split
  · next hkey =>
    obtain ⟨hg, hh, hc⟩ := (ViewEntry.hasKey_iff _ _ _ x).1 hkey
    rw [hg, hh, hc]
  · rfl

theorem recordDraw_keeps {e : ViewEntry} {s : State} (hmode : s.unit.mode.keepsView = true)
    (hgroup : s.unit.g ≠ some e.group) (he : e.lawful = true) : Keeps s (recordDraw e s) := by
  unfold recordDraw
  split
  · refine Keeps.trans (view_keeps _ fun h => ?_) (checkAndRun_keeps e.cls _)
    rw [State.viewLawful_iff] at h ⊢
    obtain ⟨hlength, hnodup, hentries, -⟩ := h
    refine ⟨by simpa [replaceEntry] using hlength, by rw [replaceEntry_keys]; exact hnodup, fun x hx => ?_, .inl hmode⟩
    obtain ⟨y, hy, rfl⟩ := List.mem_map.1 hx
    dsimp only
    split
    · exact ⟨hgroup, he⟩
    · exact hentries y hy
  · next hany =>
    split
    · next hroom =>
      refine Keeps.trans (view_keeps _ fun h => ?_) (checkAndRun_keeps e.cls _)
      rw [State.viewLawful_iff] at h ⊢
      obtain ⟨-, hnodup, hentries, -⟩ := h
      refine ⟨by rw [List.length_append]; exact hroom, ?_, fun x hx => ?_, .inl hmode⟩
      · rw [List.map_append, List.map_singleton]
        refine List.nodup_append.2 ⟨hnodup, List.nodup_cons.2 ⟨List.not_mem_nil, List.nodup_nil⟩, fun y hmem z hz heq => hany ?_⟩
        rw [List.mem_singleton.1 hz] at heq
        subst heq
        obtain ⟨x, hx, hkey⟩ := List.mem_map.1 hmem
        simp only [Prod.mk.injEq] at hkey
        exact List.any_eq_true.2 ⟨x, hx, (ViewEntry.hasKey_iff _ _ _ x).2 hkey⟩
      · rcases List.mem_append.1 hx with hx | hx
        · exact hentries x hx
        · rw [List.mem_singleton.1 hx]
          exact ⟨hgroup, he⟩
    · exact doubtBegins_keeps s

theorem entryOf_lawful {f : Frame} (c : DrawClass) (h : u8 f.payload 2 ≠ 0) : (entryOf f c).lawful = true := by
  simp only [ViewEntry.lawful, entryOf, clamp, Bool.and_eq_true, within_iff]
  omega

theorem takeDrawOpen_ends (f : Frame) (s : State) : Ends s (takeDrawOpen f s) := by
  unfold takeDrawOpen
  split
  · next hmode =>
    unfold testOpen
    split
    · exact .refl s
    split
    · exact .fault (by decide) (.refl s) fun _ => id
    · next hgroup =>
      split
      · exact .refl s
      split
      · exact .refl s
      · split
        · exact .refl s
        · next hunits => exact .kept (recordDraw_keeps hmode hgroup (entryOf_lawful _ hunits))
  · exact .refl s

theorem removeEntry_keeps (group head : Nat) (c : DrawClass) (s : State) : Keeps s (removeEntry group head c s) := by
  unfold removeEntry
  split
  · refine Keeps.trans (view_keeps _ fun h => ?_) (checkAndRun_keeps c _)
    rw [State.viewLawful_iff] at h ⊢
    obtain ⟨hlength, hnodup, hentries, hmode⟩ := h
    exact ⟨Nat.le_trans (List.length_filter_le _ _) hlength, List.Nodup.sublist (List.filter_sublist.map _) hnodup,
      fun e he => hentries e (List.mem_filter.1 he).1, hmode.imp id fun he => by simp [he]⟩
  · exact .refl s

theorem takeDrawClose_keeps (f : Frame) (s : State) : Keeps s (takeDrawClose f s) := by
  obtain heq | ⟨c, -, -, heq⟩ := takeDrawClose_cases f s
  · rw [heq]; exact .refl s
  · rw [heq]; exact removeEntry_keeps _ _ c s

/-! ## HALT, RESUME and the door (R30 to R33) -/

theorem setHeld_keeps (h : HeldMark) (s : State) : Keeps s (setHeld h s) := marks_keeps _ rfl rfl rfl rfl

theorem haltMode_keeps (trip : Bool) (s : State) : Keeps s (haltMode trip s) := by
  unfold haltMode
  split
  · exact setHeld_keeps _ s
  · exact setHeld_keeps _ s
  · exact setHeld_keeps _ s
  · next hmode =>
    split
    · exact enterSafe_keeps s (by rw [hmode]; rfl)
    · exact enterStand_keeps s (.inl hmode)
  · next hmode =>
    split
    · exact enterSafe_keeps s (by rw [hmode]; rfl)
    · exact .refl s
  all_goals exact .refl s

theorem takeHalt_keeps (f : Frame) (s : State) : Keeps s (takeHalt f s) := by
  unfold takeHalt
  split
  · split
    · exact (endForcedRun_keeps s).trans (haltMode_keeps true _)
    · exact haltMode_keeps false s
  · exact .refl s

theorem takeResume_keeps (f : Frame) (s : State) : Keeps s (takeResume f s) := by
  unfold takeResume
  split
  · exact .refl s
  · unfold resumeMode
    split
    · exact setHeld_keeps _ s
    · exact setHeld_keeps _ s
    · exact setHeld_keeps _ s
    · next hmode => exact enterRun_keeps s (by rw [hmode]; rfl)
    · next hmode => exact enterRun_keeps s (by rw [hmode]; rfl)
    all_goals exact .refl s

theorem pins_keeps {s : State} (p : Pins) : Keeps s { s with pins := p } :=
  .aside rfl rfl rfl rfl rfl rfl rfl fun _ h => h.congr rfl (fun _ => rfl) rfl rfl rfl rfl rfl

theorem tripHalt_keeps (cause : TripCause) (s : State) (k : Fin 4) : Keeps s (tripHalt cause s k) :=
  (Acts.refl.tripHalt cause).keeps fun hr h => h.tripHalt hr cause k

theorem guardTrips_keeps (s : State) : Keeps s (guardTrips s) :=
  (consulted_keeps s).trans (.foldl (tripHalt_keeps .guard) _ _)

theorem endForcedByGuard_keeps (s : State) : Keeps s (endForcedByGuard s) := by
  unfold endForcedByGuard
  split
  · exact .refl s
  · split
    · exact endForcedRun_keeps s
    · exact endForcedRun_keeps s
    · exact .refl s

theorem guardMode_keeps (s : State) : Keeps s (guardMode s) := by
  have hoffer (x : State) : Keeps x (offerGuardHalt x) := offerHalt_keeps _ _ x
  have hunit (x : State) : (offerGuardHalt x).unit = x.unit := by
    unfold offerGuardHalt offerHalt
    split <;> rfl
  unfold guardMode
  split
  · exact setHeld_keeps _ s
  · exact setHeld_keeps _ s
  · exact (setHeld_keeps _ s).trans (hoffer _)
  · next hmode => exact (hoffer s).trans (enterSafe_keeps _ (by rw [hunit, hmode]; rfl))
  · next hmode => exact (hoffer s).trans (enterSafe_keeps _ (by rw [hunit, hmode]; rfl))
  · exact hoffer s
  · exact .refl s

theorem openGuard_keeps (s : State) : Keeps s (openGuard s) :=
  @Keeps.trans _ (setGuard true s) _ (pins_keeps _) ((endForcedByGuard_keeps _).trans
    ((guardTrips_keeps _).trans (guardMode_keeps _)))

/-! ## The heads' own time (5.5, 5.6, 6.4) -/

theorem nextTick_keeps (k : Fin 4) (s : State) : Keeps s (nextTick k s) := by
  have hms (x : State) : Keeps x (modEngine k (fun e => { e with ms := e.ms - msSteps }) x) :=
    .aside rfl rfl rfl rfl rfl rfl rfl fun _ h => by
      refine h.ticked (fun j => ?_) (fun j => ⟨_, rfl⟩) rfl rfl (fun _ _ => rfl) rfl rfl
      by_cases hj : j = k
      · rw [hj, modEngine_engines, Four.get_modify_same]; exact ⟨_, rfl⟩
      · rw [modEngine_engines, Four.get_modify_other _ _ hj]; exact ⟨_, rfl⟩
  exact (elapse_keeps _ s).trans (hms _)

theorem nextTick_engine (k : Fin 4) (s : State) : ∃ m, (nextTick k s).engines.get k = { s.engines.get k with ms := m } := by
  obtain ⟨m, hm⟩ := elapse_engine (msSteps - (s.engines.get k).ms) s k
  exact ⟨m - msSteps, by simp [nextTick, hm]⟩

theorem writeRecord_keeps (k : Fin 4) (f : Record → Record) (s : State) : Keeps s (writeRecord k f s) :=
  modSlot_keeps (Slot.write_state f) s

theorem flushTick_keeps (k : Fin 4) {s : State} (hp : s.inPhase k .flush = true) :
    Keeps s (takeFlushTick k (nextTick k s)) := by
  obtain ⟨m, hm⟩ := nextTick_engine k s
  have hwrite : Keeps s (writeRecord k (Record.flushed (nextTick k s).steamGain (nextTick k s).overSubscribed)
      (nextTick k s)) := (nextTick_keeps k s).trans (writeRecord_keeps _ _ _)
  unfold takeFlushTick
  dsimp only
  split
  · refine hwrite.trans (endFlush_keeps k .complete ?_)
    simpa [hm, State.inPhase] using hp
  · exact hwrite

theorem seatSample_keeps (k : Fin 4) (seated : Bool) {s : State} (hp : s.inPhase k .seat = true) :
    Keeps s (seatSample k seated s) := by
  have hset : Keeps s (setSeat k seated s) := pins_keeps _
  refine hset.trans ((nextTick_keeps k _).trans ?_)
  obtain ⟨m, hm⟩ := nextTick_engine k (setSeat k seated s)
  have hphase : ((nextTick k (setSeat k seated s)).engines.get k).phase = .seat := by
    rw [hm]
    simpa [State.inPhase, setSeat] using hp
  unfold seatSample
  generalize nextTick k (setSeat k seated s) = x at hphase
  have hclosure : (x.engines.get k).inClosure = true := by simp [Engine.inClosure, hphase]
  have hcounted : Acts k x (modEngine k (fun e => { e with samples := e.samples + 1 }) x) := Acts.refl.engine _
  have hholding (h : HeadsLaw x) : Holding .seat (modEngine k (fun e => { e with samples := e.samples + 1 }) x) k := by
    have hk := h.holding hclosure (by simp [hphase])
    rw [hphase] at hk
    exact hk.engine _
  have hvalve (h : HeadsLaw x) : (x.engines.get k).steam = false := h.valve_off hclosure (by simp [hphase])
  unfold takeSeatSample
  dsimp only
  split
  · exact (hcounted.record _).decideDrive.keeps fun hr h =>
      h.decideDrive hr (hcounted.record _) ((hholding h).writeRecord _) (by simpa using hvalve h)
  split
  · refine ((hcounted.record _).reason .seat).toDwell.keeps fun hr h => ?_
    refine h.of_settled ((hcounted.record _).reason .seat).toDwell hr (Holding.toDwell ?_ (by simpa using hvalve h))
    exact (((hholding h).writeRecord _).writeRecord _).change rfl rfl rfl
  · refine hcounted.keeps fun hr h => h.of_settled hcounted hr ((hholding h).settled ?_ (by decide) fun hv => ?_)
    · simpa using hphase
    · simp [hvalve h] at hv

/-! ## Torque steps (R113 to R120) -/

/-- A step of a running phase keeps the channel lawful and the phase running. -/
theorem Channel.stepOnce_lawful (r : Recipe) (ceiling tau : Nat) {x : Channel} (h : x.lawful = true)
    (hruns : x.phaseRuns = true) : (x.stepOnce r ceiling tau).lawful = true
      ∧ (x.stepOnce r ceiling tau).phaseRuns = true := by
  obtain ⟨hagrees, hduty, hbridge, hcount⟩ := (Channel.lawful_iff x).1 h
  rw [Channel.lawful_iff]
  cases hstep : x.step with
  | none => simp [Channel.phaseRuns, hstep] at hruns
  | threadFind =>
    have hstate : x.state = .reverse := by simpa [Channel.stepAgrees, hstep] using hagrees
    simp only [Channel.stepOnce, Channel.act, hstep, Channel.threadFindStep]
    split
    · simp [Channel.stepAgrees, Channel.stop, Channel.phaseRuns, hcount]
    · simp [Channel.stepAgrees, Channel.phaseRuns, hstate, Channel.drivesNow, hcount]
      simpa [hstate] using hbridge
  | gap =>
    have hstate : x.state = .gap := by simpa [Channel.stepAgrees, hstep] using hagrees
    have hoff : x.bridge = .off := by simpa [Channel.drivesNow, hstate, ChannelState.drives] using hbridge
    simp [Channel.stepOnce, Channel.act, hstep, Channel.gapStep, Channel.stepAgrees, Channel.phaseRuns,
      Channel.drivesNow, hoff, hcount]
  | ramp | settle =>
    have hstate : x.state = .forward := by simpa [Channel.stepAgrees, hstep] using hagrees
    rw [hstate] at hbridge
    simp only [Channel.stepOnce, Channel.act, hstep, Channel.driveStep]
    split
    · simp [Channel.settleOne, Channel.sampled, Channel.stepAgrees, Channel.phaseRuns, Channel.drivesNow, hstate,
        hbridge, hcount]
    · simp [Channel.rampUp, Channel.sampled, Channel.stepAgrees, Channel.phaseRuns, Channel.drivesNow, hstate,
        hbridge, hcount]

end Sys2Proof.Machine

/-! The torque steps, the PWM period, the service unit and the settings load keep the laws; then every command but the
resets, in one statement (Chapters 6, 9 and 10). -/

namespace Sys2Proof.Machine
open Sys2Proof

/-! ## Torque steps (R113 to R120) -/

theorem Channel.stepOnce_causes (r : Recipe) (ceiling tau : Nat) (x : Channel) :
    (x.stepOnce r ceiling tau).causes = x.causes := by
  unfold Channel.stepOnce Channel.act
  split
  · rfl
  · unfold Channel.threadFindStep; split <;> rfl
  · rfl
  · unfold Channel.driveStep; split <;> rfl
  · unfold Channel.driveStep; split <;> rfl

theorem stepChannel_keeps {k : Fin 4} {s : State} (hruns : (s.channels.get k).phaseRuns = true) :
    Keeps s (stepChannel k s) := by
  have hacts : Acts k s (stepChannel k s) :=
    Acts.refl.channel _ fun x hx => by rw [Channel.stepOnce_causes]; exact hx
  refine hacts.keeps fun hr h => ?_
  have hk := h.heads k
  obtain ⟨hlawful, hstill⟩ := Channel.stepOnce_lawful (s.boundRecipe k) (s.dutyCeiling (s.boundRecipe k).maxDuty)
    (s.torqueSample k) hk.channel hruns
  have hchannel : (stepChannel k s).channels.get k
      = (s.channels.get k).stepOnce (s.boundRecipe k) (s.dutyCeiling (s.boundRecipe k).maxDuty) (s.torqueSample k) :=
    Four.get_modify_same _ _ _
  refine h.of_acts hacts hr ⟨hk.bound, ?_, fun _ => .inl ?_, ?_, hk.draw, hk.valve⟩ fun o ho => ⟨ho, (h.of_forces ho).2⟩
  · have htorque := hk.torque
    rw [hruns] at htorque
    rw [hchannel, hstill]
    exact htorque
  · rw [hchannel, hstill]
  · rw [hchannel, hlawful]

theorem watchComparator_keeps (k : Fin 4) (s : State) : Keeps s (watchComparator k s) :=
  Acts.refl.watchComparator.keeps fun hr h => h.watchComparator hr k

/-- A phase that runs ends with DONE or TIME. -/
theorem endPhase_keeps {k : Fin 4} {s : State} (kind : TorqueEnd) (hruns : (s.channels.get k).phaseRuns = true) :
    Keeps s (endPhase k kind false Channel.finish s) := by
  have hacts : Acts k s (endPhase k kind false Channel.finish s) := Acts.refl.endPhase _ _ _ fun _ hx => hx
  exact hacts.keeps fun hr h => h.of_settled hacts hr
    (h.endPhase kind false Channel.finish ((h.heads k).torque.1 hruns) (Channel.rests_finish _))

theorem afterStep_keeps (k : Fin 4) (wasGap : Bool) (s : State) : Keeps s (afterStep k wasGap s) := by
  have hends (x : State) : Keeps x (if (x.channels.get k).settled (x.boundRecipe k) then
      endPhase k .done false Channel.finish x
      else if (x.channels.get k).phaseRuns && decide ((x.boundRecipe k).timeLimit ≤ (x.channels.get k).steps) then
        endPhase k .time false Channel.finish x
      else x) := by
    split
    · next hsettled =>
      simp only [Channel.settled, Bool.and_eq_true, decide_eq_true_eq] at hsettled
      exact endPhase_keeps .done (by simp [Channel.phaseRuns, hsettled.1])
    · split
      · next hlimit =>
        simp only [Bool.and_eq_true] at hlimit
        exact endPhase_keeps .time hlimit.1
      · exact .refl x
  unfold afterStep
  dsimp only
  split
  · exact (watchComparator_keeps k s).trans (hends _)
  · exact hends s

theorem torqueStep_keeps {k : Fin 4} (counts : BitVec 12) {s : State} (hruns : s.phaseRuns k = true) :
    Keeps s (torqueStep k counts s) := by
  have hset : Keeps s (setTorque k counts s) := pins_keeps _
  have hnext : Keeps (setTorque k counts s) (nextStep k (setTorque k counts s)) := elapse_keeps _ _
  obtain ⟨m, hm⟩ := elapse_channel (msSteps - ((setTorque k counts s).channels.get k).ms) (setTorque k counts s) k
  have hstill : ((nextStep k (setTorque k counts s)).channels.get k).phaseRuns = true := by
    rw [nextStep, hm]
    exact hruns
  exact hset.trans (hnext.trans ((stepChannel_keeps hstill).trans (afterStep_keeps k _ _)))

theorem overcurrentTrip_keeps (k : Fin 4) (s : State) : Keeps s (tripOvercurrent k (setOvercurrent k true s)) :=
  @Keeps.trans _ (setOvercurrent k true s) _ (pins_keeps _) (tripOvercurrent_keeps k _)

/-! ## The PWM period (R110) -/

theorem Channel.periodStart_lawful {x : Channel} (h : x.lawful = true) : x.periodStart.lawful = true := by
  obtain ⟨hagrees, hduty, -, hcount⟩ := (Channel.lawful_iff x).1 h
  refine (Channel.lawful_iff _).2 ⟨hagrees, ?_, .inr rfl, hcount⟩
  cases hstate : x.state <;> simp_all [Channel.drivesNow, Channel.periodStart, ChannelState.drives]

theorem startPeriod_keeps (s : State) : Keeps s (startPeriod s) := by
  refine .aside rfl rfl rfl rfl rfl rfl rfl fun _ h => ⟨fun k => ?_, h.forced, fun hin k => ?_⟩
  · have hk := h.heads k
    have hchannel : (startPeriod s).channels.get k = (s.channels.get k).periodStart := Four.get_map _ _ _
    refine ⟨hk.bound, ?_, ?_, ?_, hk.draw, hk.valve⟩
    · rw [hchannel]; exact hk.torque
    · rw [hchannel]; exact hk.drives
    · rw [hchannel]; exact Channel.periodStart_lawful hk.channel
  · have hchannel : (startPeriod s).channels.get k = (s.channels.get k).periodStart := Four.get_map _ _ _
    rw [hchannel]
    exact h.rests hin k

/-! ## The service unit (Chapters 9 and 10) -/

theorem answer_keeps (code : Nat) (st : Status) (data : List Byte) (s : State) : Keeps s (answer code st data s) := by
  unfold answer
  split
  · exact enqueue_keeps (by decide) ‹_›
  · exact .refl s

/-- The request in progress and its write; a forced run stays as it is. -/
theorem service_keeps {s : State} (v : Service) (h : v.forced = s.service.forced) : Keeps s { s with service := v } :=
  .aside rfl rfl rfl rfl rfl rfl rfl fun _ hs => hs.congr rfl (fun _ => rfl) rfl rfl h rfl rfl

theorem carryReadState_keeps (args : List Byte) (s : State) : Keeps s (carryReadState args s) := by
  unfold carryReadState
  split <;> exact answer_keeps _ _ _ s

theorem carryReadPocket_keeps (args : List Byte) (s : State) : Keeps s (carryReadPocket args s) := by
  unfold carryReadPocket
  split
  · exact answer_keeps _ _ _ s
  · split <;> exact answer_keeps _ _ _ s

theorem carryReadView_keeps (args : List Byte) (s : State) : Keeps s (carryReadView args s) := by
  unfold carryReadView
  split <;> exact answer_keeps _ _ _ s

theorem carryReadRecord_keeps (args : List Byte) (s : State) : Keeps s (carryReadRecord args s) := by
  unfold carryReadRecord
  split
  · exact answer_keeps _ _ _ s
  · split <;> exact answer_keeps _ _ _ s

theorem carryWriteRecord_keeps (args : List Byte) (s : State) : Keeps s (carryWriteRecord args s) := by
  unfold carryWriteRecord
  split
  · exact answer_keeps _ _ _ s
  · split
    · exact answer_keeps _ _ _ s
    · split
      · exact answer_keeps _ _ _ s
      · exact service_keeps _ rfl

theorem writeStored_keeps (w : StoreWrite) (s : State) : Keeps s (writeStored w s) :=
  ⟨⟨id, id, id, fun h => Store.writeBytes_wf _ _ h, id, id,
    fun _ h => h.congr rfl (fun _ => rfl) rfl rfl rfl rfl rfl, rfl⟩, fun h => ⟨h, rfl⟩, id⟩

theorem storeWriteCompletion_keeps (s : State) : Keeps s (match s.service.write with
    | none => s
    | some w => answer codeWriteRecord .ok [byte w.number] (writeStored w (elapse w.left s))) := by
  split
  · exact .refl s
  · exact (elapse_keeps _ s).trans ((writeStored_keeps _ _).trans (answer_keeps _ _ _ _))

theorem Engine.cleared_fields (x : Engine) : x.cleared.inClosure = x.inClosure ∧ x.cleared.steam = x.steam
    ∧ (x.cleared.phase = .torque ↔ x.phase = .torque) ∧ (x.cleared.phase = .flush ↔ x.phase = .flush)
    ∧ ∀ d, DrawLaw x.phase d → DrawLaw x.cleared.phase d := by
  unfold Engine.cleared
  by_cases hp : x.phase = .out
  · simp only [hp, if_true, Engine.inClosure, true_and, reduceCtorEq]
    exact fun d h => ⟨h.asks, h.terms, h.agrees⟩
  · simp only [hp, if_false, true_and, Engine.inClosure]
    exact fun _ => id

theorem clearHead_keeps (k : Fin 4) (s : State) : Keeps s (clearHead k s) := by
  have hacts : Acts k s (clearHead k s) := (Acts.refl.engine Engine.cleared).channel _ fun _ => id
  refine hacts.keeps fun hr h => ?_
  have hk := h.heads k
  have hengine : (clearHead k s).engines.get k = (s.engines.get k).cleared := Four.get_modify_same _ _ _
  have hchannel : (clearHead k s).channels.get k = { s.channels.get k with count := 0 } := Four.get_modify_same _ _ _
  obtain ⟨hclosure, hsteam, htorque, hflush, hdraw⟩ := (s.engines.get k).cleared_fields
  obtain ⟨hagrees, hduty, hbridge, -⟩ := (Channel.lawful_iff _).1 hk.channel
  refine h.of_acts hacts hr ⟨?_, ?_, ?_, ?_, ?_, ?_⟩ fun o ho => ⟨ho, ?_⟩
  · rw [hengine, hclosure]; exact hk.bound
  · rw [hengine, hchannel, htorque]; exact hk.torque
  · rw [hchannel]; exact hk.drives
  · rw [hchannel, Channel.lawful_iff]; exact ⟨hagrees, hduty, hbridge, Nat.zero_le _⟩
  · rw [hengine]; exact hdraw _ hk.draw
  · rw [hengine, hsteam, hflush]; exact hk.valve
  · rw [hengine, hclosure]; exact (h.of_forces ho).2

theorem carryClearHead_keeps (args : List Byte) (s : State) : Keeps s (carryClearHead args s) := by
  unfold carryClearHead
  split
  · exact answer_keeps _ _ _ s
  · split
    · exact answer_keeps _ _ _ s
    · exact (clearHead_keeps _ s).trans (answer_keeps _ _ _ _)

/-! ## FORCE-OUTPUT (R188) -/

/-- A forced run put in force on a head without a closure, in SAFE. -/
theorem HeadsLaw.force {s : State} (h : HeadsLaw s) (hmode : s.unit.mode = .safe) (hnone : s.service.forced = none)
    {r : ForcedRun} (hclosure : (s.engines.get r.head).inClosure = false) :
    HeadsLaw { s with service := { s.service with forced := some r } } := by
  have hforces (k : Fin 4) (o : Output) : s.forces k o = false := by simp [State.forces, hnone]
  refine ⟨fun k => ?_, fun r' hr' => ⟨hmode, by cases hr'; exact hclosure⟩, h.rests⟩
  have hk := h.heads k
  refine ⟨hk.bound, hk.torque, fun hd => .inl ?_, hk.channel, hk.draw, fun hv => .inl ?_⟩
  · simpa [hforces] using hk.drives hd
  · simpa [hforces] using hk.valve hv

theorem startOutput_acts (k : Fin 4) (o : Output) (duty : Nat) (s : State) : Acts k s (startOutput k o duty s) := by
  unfold startOutput
  split
  · exact Acts.refl.engine _
  · exact Acts.refl.engine _
  · exact (Acts.refl.channel (fun c => { c with state := .forward, duty := duty }) fun _ => id).watchComparator

/-- The forced output switched on: the valve by the forced run, the motor FORWARD on a channel at rest. -/
theorem HeadsLaw.startOutput {s : State} {k : Fin 4} (o : Output) (duty : Nat) (h : HeadsLaw s) (hreset : s.inReset = none)
    (hforces : s.forces k o = true) (hrest : o = .drive → (s.channels.get k).rests) :
    HeadsLaw (startOutput k o duty s) := by
  have hk := h.heads k
  obtain ⟨hmode, hclosure⟩ := h.of_forces hforces
  unfold Machine.startOutput
  split
  · refine h.of_acts (Acts.refl.engine _) hreset ⟨?_, ?_, hk.drives, hk.channel, ?_, fun _ => .inr ⟨hforces, hmode⟩⟩
      fun o ho => ⟨ho, ?_⟩
    · simpa [Engine.inClosure] using hk.bound
    · simpa using hk.torque
    · simpa using hk.draw
    · simpa [Engine.inClosure] using hclosure
  · refine h.of_acts (Acts.refl.engine _) hreset ⟨?_, ?_, hk.drives, hk.channel, ?_, ?_⟩ fun o ho => ⟨ho, ?_⟩
    · simpa [Engine.inClosure] using hk.bound
    · simpa using hk.torque
    · simpa using hk.draw
    · simpa [State.forces] using hk.valve
    · simpa [Engine.inClosure] using hclosure
  · have hrests := hrest rfl
    obtain ⟨-, -, hbridge, hstep, hcount⟩ := hrests
    have hstart : HeadsLaw (modChannel k (fun c => { c with state := .forward, duty := duty }) s) := by
      refine h.of_acts (Acts.refl.channel _ fun _ => id) hreset ⟨hk.bound, ?_, fun _ => .inr hforces, ?_, hk.draw, hk.valve⟩
        fun o ho => ⟨ho, hclosure⟩
      · simpa [Channel.phaseRuns] using hk.torque
      · simp [Channel.lawful_iff, Channel.stepAgrees, hstep, Channel.drivesNow, hbridge, hcount]
    exact hstart.watchComparator hreset k

theorem tryForced_keeps (k : Fin 4) (o : Output) (duty ms : Nat) {s : State} (hmode : s.unit.mode = .safe) :
    Keeps s (tryForced k o duty ms s) := by
  unfold tryForced
  split
  · exact answer_keeps _ _ _ s
  split
  · exact answer_keeps _ _ _ s
  split
  · exact answer_keeps _ _ _ s
  · next hforced hclosure _ =>
    have hnone : s.service.forced = none := by simpa using hforced
    have hidle : (s.engines.get k).inClosure = false := by simpa using hclosure
    let r : ForcedRun := ⟨k, o, duty, msSteps * ms⟩
    have hlaw (hr : s.inReset = none) (h : HeadsLaw s) : HeadsLaw (startForced k o duty ms s) := by
      refine @HeadsLaw.startOutput { s with service := { s.service with forced := some r } } k o duty
        (h.force hmode hnone hidle) hr (by simp [State.forces, r]) fun _ => ?_
      have hk := h.heads k
      have hruns : (s.channels.get k).phaseRuns = false := by
        rw [← Bool.not_eq_true, hk.torque]
        intro hp
        simp [Engine.inClosure, hp] at hidle
      refine (Channel.rests_iff _).2 ⟨hk.channel, hruns, ?_⟩
      rw [← Bool.not_eq_true]
      intro hd
      simpa [hruns, State.forces, hnone] using hk.drives hd
    have hstart : Keeps s (startForced k o duty ms s) := by
      have hacts := startOutput_acts k o duty { s with service := { s.service with forced := some r } }
      exact .of_still hacts.still hacts.lawful hacts.silent hlaw
    exact hstart.trans (answer_keeps _ _ _ _)

theorem carryForceOutput_keeps (args : List Byte) {s : State} (hmode : s.unit.mode = .safe) :
    Keeps s (carryForceOutput args s) := by
  unfold carryForceOutput
  split
  · exact answer_keeps _ _ _ s
  split
  · exact answer_keeps _ _ _ s
  split
  · exact answer_keeps _ _ _ s
  · split
    · exact tryForced_keeps _ _ _ _ hmode
    · exact answer_keeps _ _ _ s

theorem carryRestart_keeps (args : List Byte) (s : State) : Keeps s (carryRestart args s) := by
  unfold carryRestart
  split
  · exact answer_keeps _ _ _ s
  · split
    · next ha =>
      exact @Keeps.trans _ (enqueue .answer restartOk s) _ (enqueue_keeps (by decide) ha) (service_keeps _ rfl)
    · exact .refl s

theorem deliverAsk_keeps (mine : Nat → Bool) {serve : Frame → State → State} (h : ∀ f x, Keeps x (serve f x))
    (s : State) : Keeps s (deliverAsk mine serve s) := by
  unfold deliverAsk
  split
  · exact .refl s
  · next f rest hqueue =>
    have htaken := (frameTaken_smooth hqueue).keeps
    split
    · split
      · exact htaken
      · exact htaken.trans (h f _)
    · exact .refl s

theorem decideAsk_keeps {allowed : State → Bool} {carry : List Byte → State → State}
    (h : ∀ args x, allowed x = true → Keeps x (carry args x)) (f : Frame) (s : State) :
    Keeps s (decideAsk allowed carry f s) := by
  unfold decideAsk
  split
  · exact answer_keeps _ _ _ s
  · split
    · exact answer_keeps _ _ _ s
    · next hallowed => exact h _ s (by simpa using hallowed)

theorem refuseUnknown_keeps (f : Frame) (s : State) : Keeps s (refuseUnknown f s) := by
  unfold refuseUnknown
  split <;> exact answer_keeps _ _ _ s

/-! ## The settings load (R19, R176) -/

theorem takeSettings_keeps {s : State} (hload : s.settings.load ≠ none) : Keeps s (takeSettings s) := by
  refine ⟨⟨id, id, id, id, id, fun h => ?_, fun _ h => h.congr rfl (fun _ => rfl) rfl rfl rfl rfl rfl, rfl⟩,
    fun h => ⟨h, rfl⟩, id⟩
  rw [State.trackLawful_iff] at h ⊢
  obtain ⟨hbegun, hvalid, he, hl, hreset⟩ := h
  have hrest : s.tracker.begun = false := by
    rw [← Bool.not_eq_true]
    exact fun hb => hload (hbegun hb).2.1
  have hinvalid : s.tracker.valid = false := by
    rw [← Bool.not_eq_true]
    exact fun hv => by simp [(hvalid hv).1] at hrest
  exact ⟨fun hb => by simp [takeSettings, hrest] at hb, fun hv => by simp [takeSettings, hinvalid] at hv, he, hl, hreset⟩

theorem takeSettings_calm (s : State) : Calm s (takeSettings s) := .of_eq rfl rfl fun _ => rfl

/-- The tracker begins on a good profile whose load is complete. -/
theorem begin_keeps {s : State} (hmode : s.unit.mode = .start) (hreset : s.inReset = none) (hgood : s.settings.good = true)
    (hload : s.settings.load = none) (hfields : Profile.fieldsOk s.settings.profile = true) :
    Keeps s (setMode .learn { s with tracker := { s.tracker with begun := true } }) := by
  refine @Keeps.trans _ { s with tracker := { s.tracker with begun := true } } _ (tracker_keeps _ fun h => ?_)
    (setMode_keeps .learn (by simp [hmode]) (by decide) (by simp [hmode, Mode.keepsView]) (by simp [hmode]))
  rw [State.trackLawful_iff] at h ⊢
  obtain ⟨-, hvalid, he, hl, -⟩ := h
  exact ⟨fun _ => ⟨hgood, hload, hfields⟩, fun hv => ⟨rfl, (hvalid hv).2⟩, he, hl, .inl hreset⟩

theorem loadComplete_ends {s : State} (hreset : s.inReset = none) {left : Nat} (hload : s.settings.load = some left) :
    Ends s (leaveStart (takeSettings (elapse left s))) := by
  have helapsed : (elapse left s).settings.load ≠ none := by
    rw [Ne, (elapse_profile left s).2.2, hload]
    simp
  have hloaded : Smooth s (takeSettings (elapse left s)) :=
    (elapse_smooth left s).trans ⟨takeSettings_keeps helapsed, takeSettings_calm _⟩
  unfold leaveStart
  split
  · next hmode =>
    split
    · next hgood =>
      refine .kept (hloaded.keeps.trans (begin_keeps hmode ?_ hgood rfl ?_))
      · exact (elapse_inReset left s).trans hreset
      · simp only [takeSettings, Settings.loaded, goodProfile, Bool.and_eq_true] at hgood
        exact hgood.2
    · exact .fault (by decide) hloaded (elapse_latched left s)
  · exact .kept hloaded.keeps

end Sys2Proof.Machine

/-! Every command keeps the laws of a lawful station, or ends in FAULT, in silence or in a reset; and the obligations
that say so for every step (R1, R34 to R36, R40, R58, R61, R134). -/

namespace Sys2Proof.Machine
open Sys2Proof

/-- The commands that begin or end a reset. -/
def resets : Instr → Bool
  | .powerReset | .pinReset | .resetEnd _ => true
  | _ => false

/-- What one command that is no reset makes of the station: in a reset nothing, else one of its ends. -/
def Row (s t : State) : Prop := t = s ∨ s.inReset = none ∧ Ends s t

theorem Row.unlessReset {f : State → State} {s : State} (h : s.inReset = none → Ends s (f s)) :
    Row s (unlessReset f s) := by
  cases hr : s.inReset with
  | none => rw [unlessReset_out f s hr]; exact .inr ⟨hr, h hr⟩
  | some r => rw [unlessReset_in f s (by simp [hr])]; exact .inl rfl

theorem request_row {code : Nat} {allowed : State → Bool} {carry : List Byte → State → State}
    (h : ∀ args x, allowed x = true → Keeps x (carry args x)) (s : State) :
    ∃ t, request code allowed carry s = .next t ∧ Row s t :=
  ⟨_, rfl, .unlessReset fun _ => .kept (deliverAsk_keeps _ (decideAsk_keeps h) s)⟩

/-- A row that one PITCH pulse carries out. -/
theorem pulseRow_row (c : State → Bool) (dt : Nat) (pins : Levels) (s : State) :
    Row s (unlessReset (whenever c (pitchEdge dt pins)) s) :=
  .unlessReset fun _ => .whenever fun _ => pitchEdge_ends dt pins s

/-- A row that one received byte carries out. -/
theorem byteRow_row (c : State → Bool) (b : Byte) (lead stop : Bool) (s : State) :
    Row s (unlessReset (whenever c (takeByte b lead stop)) s) :=
  .unlessReset fun _ => .whenever fun _ => .kept (takeByte_keeps b lead stop s)

/-- A row that one torque step carries out. -/
theorem torqueRow_row {c : State → Bool} {k : Fin 4} (counts : BitVec 12)
    (hc : ∀ x, c x = true → x.phaseRuns k = true) (s : State) :
    Row s (unlessReset (whenever c (torqueStep k counts)) s) :=
  .unlessReset fun _ => .whenever fun h => .kept (torqueStep_keeps counts (hc s h))

theorem State.phaseRuns_of_step {s : State} {k : Fin 4} {x : TorqueStep} (h : (s.channels.get k).step = x)
    (hx : x ≠ .none) : s.phaseRuns k = true := by
  simp [State.phaseRuns, Channel.phaseRuns, h, hx]

theorem thresholdReached_keeps (k : Fin 4) (pins : Levels) (s : State) : Keeps s
    (let s' := takePins pins s
     if s'.tracker.begun && decide (s'.tracker.motion ≠ .stalled) && s'.travelDefined k
        && !(s'.tracks.get k).heldBack then reportRise k (advancePhase k s')
     else s') := by
  dsimp only
  split
  · exact (takePins_keeps pins s).trans ((advancePhase_keeps k _).trans (reportRise_keeps k _))
  · exact takePins_keeps pins s

theorem forcedRunEnd_keeps (s : State) : Keeps s (match s.service.forced with
    | none => s
    | some r => endForcedRun (elapse r.left s)) := by
  split
  · exact .refl s
  · exact (elapse_keeps _ s).trans (endForcedRun_keeps _)

/-- Every command but a reset keeps the laws, or ends in FAULT, in silence or in a restart. -/
theorem exec_row {i : Instr} (hi : resets i = false) (s : State) : ∃ t, exec i s = .next t ∧ Row s t := by
  cases i with
  | powerReset => exact absurd hi Bool.noConfusion
  | pinReset => exact absurd hi Bool.noConfusion
  | resetEnd g => exact absurd hi Bool.noConfusion
  | loadComplete =>
    refine ⟨_, rfl, .unlessReset fun hr => ?_⟩
    split
    · exact .refl s
    · exact loadComplete_ends hr ‹_›
  | pitchPulse dt pins => exact ⟨_, rfl, .unlessReset fun _ => pitchEdge_ends dt pins s⟩
  | zeroPulse dt pins =>
    exact ⟨_, rfl, .unlessReset fun _ => .kept ((elapse_keeps dt s).trans ((takePins_keeps pins _).trans
      (.whenever takeZero_keeps)))⟩
  | eSaturation => exact ⟨_, rfl, .unlessReset fun _ => .kept (elapse_keeps _ s)⟩
  | stall =>
    exact ⟨_, rfl, .unlessReset fun _ => .whenever fun _ => .kept ((elapse_keeps _ s).trans
      ((allPhaseReports_keeps _).trans (enterStalled_keeps _)))⟩
  | thresholdReached k pins => exact ⟨_, rfl, .unlessReset fun _ => .kept (thresholdReached_keeps k pins s)⟩
  | markEdge dt => exact ⟨_, rfl, .unlessReset fun _ => .after (elapse_smooth dt s) (elapse_latched dt s)
      (.whenever takeMark_ends)⟩
  | noMark dt pins => exact ⟨_, rfl, pulseRow_row _ dt pins s⟩
  | listeningComplete dt pins => exact ⟨_, rfl, pulseRow_row _ dt pins s⟩
  | reAnnounceHoldOffEnd dt pins => exact ⟨_, rfl, pulseRow_row _ dt pins s⟩
  | doubtEnd dt pins => exact ⟨_, rfl, pulseRow_row _ dt pins s⟩
  | viewEntryExpiry dt pins => exact ⟨_, rfl, pulseRow_row _ dt pins s⟩
  | closeCountdownEnd dt pins => exact ⟨_, rfl, pulseRow_row _ dt pins s⟩
  | position => exact ⟨_, rfl, .unlessReset fun _ => deliver_ends (needing_ends 5 takePosition_ends) s⟩
  | jarIn =>
    exact ⟨_, rfl, .unlessReset fun _ => deliver_ends (needing_ends 7 fun f x => .kept (takeJarIn_keeps f x)) s⟩
  | drawOpen => exact ⟨_, rfl, .unlessReset fun _ => deliver_ends (needing_ends 4 takeDrawOpen_ends) s⟩
  | drawClose =>
    exact ⟨_, rfl, .unlessReset fun _ => deliver_ends (needing_ends 2 fun f x => .kept (takeDrawClose_keeps f x)) s⟩
  | halt => exact ⟨_, rfl, .unlessReset fun _ => deliver_ends (fun f x => .kept (takeHalt_keeps f x)) s⟩
  | resume =>
    exact ⟨_, rfl, .unlessReset fun _ => deliver_ends (needing_ends 0 fun f x => .kept (takeResume_keeps f x)) s⟩
  | guardOpens => exact ⟨_, rfl, .unlessReset fun _ => .whenever fun _ => .kept (openGuard_keeps s)⟩
  | guardCloses => exact ⟨_, rfl, .unlessReset fun _ => .kept (pins_keeps _)⟩
  | framingError b lead => exact ⟨_, rfl, byteRow_row _ b lead false s⟩
  | truncatedError b => exact ⟨_, rfl, byteRow_row _ b true true s⟩
  | lengthError b => exact ⟨_, rfl, byteRow_row _ b false true s⟩
  | frameComplete b => exact ⟨_, rfl, byteRow_row _ b false true s⟩
  | byteTaken b lead stop => exact ⟨_, rfl, .unlessReset fun _ => .kept (takeByte_keeps b lead stop s)⟩
  | transmissionStart =>
    exact ⟨_, rfl, .unlessReset fun _ => .whenever fun h => .kept (beginFrameOut_keeps h)⟩
  | transmissionComplete =>
    exact ⟨_, rfl, .unlessReset fun _ => .whenever fun _ => .after (elapse_smooth _ s) (elapse_latched _ s)
      (frameSent_ends _)⟩
  | collision bit =>
    exact ⟨_, rfl, .unlessReset fun _ => .whenever fun _ => .after ((elapse_smooth _ s).trans (disown_smooth _))
      (elapse_latched _ s) (frameCollided_ends bit _)⟩
  | flushTick k => exact ⟨_, rfl, .unlessReset fun _ => .whenever fun h => .kept (flushTick_keeps k h)⟩
  | seatSample k seated =>
    exact ⟨_, rfl, .unlessReset fun _ => .whenever fun h => .kept (seatSample_keeps k seated h)⟩
  | seatWindowEnd k =>
    refine ⟨_, rfl, .unlessReset fun _ => .whenever fun h => .kept (seatSample_keeps k false ?_)⟩
    simp only [State.lastSample, Bool.and_eq_true] at h
    exact h.1
  | torqueStep k counts => exact ⟨_, rfl, torqueRow_row counts (fun _ => id) s⟩
  | threadFindEnd k counts =>
    refine ⟨_, rfl, torqueRow_row counts (fun x hx => ?_) s⟩
    simp only [State.threadFindEnds, Bool.and_eq_true, decide_eq_true_eq] at hx
    exact State.phaseRuns_of_step hx.1 (by decide)
  | gapEnd k counts =>
    refine ⟨_, rfl, torqueRow_row counts (fun x hx => ?_) s⟩
    simp only [State.inGap, decide_eq_true_eq] at hx
    exact State.phaseRuns_of_step hx (by decide)
  | torqueTimeLimit k counts =>
    refine ⟨_, rfl, torqueRow_row counts (fun x hx => ?_) s⟩
    simp only [State.timeEnds, Bool.and_eq_true] at hx
    exact hx.1.1
  | overcurrentTrip k => exact ⟨_, rfl, .unlessReset fun _ => .kept (overcurrentTrip_keeps k s)⟩
  | forcedRunEnd => exact ⟨_, rfl, .unlessReset fun _ => .kept (forcedRunEnd_keeps s)⟩
  | pwmPeriodStart =>
    exact ⟨_, rfl, .unlessReset fun _ => .kept ((elapse_keeps _ s).trans (startPeriod_keeps _))⟩
  | storeWriteCompletion => exact ⟨_, rfl, .unlessReset fun _ => .kept (storeWriteCompletion_keeps s)⟩
  | readState => exact request_row (fun args x _ => carryReadState_keeps args x) s
  | readPocket => exact request_row (fun args x _ => carryReadPocket_keeps args x) s
  | readView => exact request_row (fun args x _ => carryReadView_keeps args x) s
  | readRecord => exact request_row (fun args x _ => carryReadRecord_keeps args x) s
  | writeRecord => exact request_row (fun args x _ => carryWriteRecord_keeps args x) s
  | clearHead => exact request_row (fun args x _ => carryClearHead_keeps args x) s
  | forceOutput =>
    refine request_row (fun args x hx => carryForceOutput_keeps args ?_) s
    simp only [forceMode, Bool.and_eq_true, decide_eq_true_eq] at hx
    exact hx.1
  | restart => exact request_row (fun args x _ => carryRestart_keeps args x) s
  | unknownRequest => exact ⟨_, rfl, .unlessReset fun _ => .kept (deliverAsk_keeps _ refuseUnknown_keeps s)⟩

end Sys2Proof.Machine

/-! The resets on a lawful station, and the obligations of what every step keeps. -/

namespace Sys2Proof.Machine
open Sys2Proof

/-! ## Resets (R36, R37) -/

/-- Each law of the kept ones holds of the second state where it holds of the first. -/
structure StepLaws (s t : State) : Prop where
  queue   : s.transmit.lawful = true → t.transmit.lawful = true
  receive : s.receive.lawful = true → t.receive.lawful = true
  store   : Store.wf s.settings.store = true → Store.wf t.settings.store = true
  view    : s.viewLawful = true → t.viewLawful = true
  track   : s.trackLawful = true → t.trackLawful = true
  heads   : HeadsLaw s → HeadsLaw t

theorem StepLaws.refl (s : State) : StepLaws s s := ⟨id, id, id, id, id, id⟩

theorem KeepsLaws.stepLaws {s t : State} (h : KeepsLaws s t) (hr : s.inReset = none) : StepLaws s t :=
  ⟨h.queue, h.receive, h.store, h.view, h.track, h.heads hr⟩

theorem cutWrite_wf {s : State} (h : Store.wf s.settings.store = true) :
    Store.wf (cutWrite s).settings.store = true := by
  unfold cutWrite
  split
  · exact h
  · exact Store.writeBytes_wf _ _ h

theorem resetBlocks_headsLaw (kind : ResetKind) (code : FaultCode) (s : State) : HeadsLaw (resetBlocks kind code s) :=
  (headsLaw_iff _).2 rfl

theorem beginReset_stepLaws (kind : ResetKind) (code : FaultCode) (s : State) :
    StepLaws s (beginReset kind code s) :=
  ⟨fun _ => rfl, fun _ => rfl, cutWrite_wf, fun _ => rfl, fun _ => rfl, fun _ => (headsLaw_iff _).2 rfl⟩

/-- An opening of GUARD found at a start trips channels without a phase. -/
theorem HeadsLaw.guardAtStart {s : State} (h : HeadsLaw s) (hruns : ∀ k, (s.channels.get k).phaseRuns = false) :
    HeadsLaw (guardAtStart s) := by
  unfold Machine.guardAtStart
  split
  · have hrests (k : Fin 4) : ((s.channels.map (Channel.tripOrAdd .guard)).get k).rests := by
      rw [Four.get_map]
      exact Channel.rests_tripOrAdd .guard (h.heads k).channel (hruns k)
    have hstopped (k : Fin 4) := (Channel.rests_iff _).1 (hrests k)
    refine ⟨fun k => ?_, h.forced, fun hin k => ⟨(h.rests hin k).1, (hstopped k).2.1⟩⟩
    have hk := h.heads k
    have htorque := hk.torque
    rw [hruns k] at htorque
    refine ⟨hk.bound, ?_, fun hd => ?_, (hstopped k).1, hk.draw, hk.valve⟩
    · rw [(hstopped k).2.1]
      exact htorque
    · rw [(hstopped k).2.2] at hd
      exact absurd hd Bool.false_ne_true
  · exact h

/-- GUARD found open at a start changes the held mark and the channels alone. -/
theorem guardAtStart_fields (s : State) : (guardAtStart s).transmit = s.transmit ∧ (guardAtStart s).receive = s.receive
    ∧ (guardAtStart s).settings = s.settings ∧ (guardAtStart s).view = s.view ∧ (guardAtStart s).tracker = s.tracker
    ∧ (guardAtStart s).inReset = s.inReset ∧ (guardAtStart s).unit.mode = s.unit.mode
    ∧ (guardAtStart s).place = s.place ∧ (guardAtStart s).unit.causeKind = s.unit.causeKind := by
  unfold guardAtStart
  split <;> exact ⟨rfl, rfl, rfl, rfl, rfl, rfl, rfl, rfl, rfl⟩

theorem guardAtStart_viewLawful (s : State) : (guardAtStart s).viewLawful = s.viewLawful := by
  unfold guardAtStart
  split <;> rfl

theorem guardAtStart_trackLawful (s : State) : (guardAtStart s).trackLawful = s.trackLawful := by
  unfold guardAtStart
  split <;> rfl

theorem endReset_stepLaws (g : Bool) {s : State} (hin : s.inReset.isSome = true) : StepLaws s (endReset g s) := by
  have hne : s.inReset ≠ none := by simpa using Option.isSome_iff_ne_none.1 hin
  refine ⟨?_, ?_, ?_, ?_, fun h => ?_, fun h => ?_⟩
  · rw [endReset, (guardAtStart_fields _).1]; exact id
  · rw [endReset, (guardAtStart_fields _).2.1]; exact id
  · rw [endReset, (guardAtStart_fields _).2.2.1]; exact id
  · rw [endReset, guardAtStart_viewLawful]; exact id
  · rw [endReset, guardAtStart_trackLawful]
    rw [State.trackLawful_iff] at h ⊢
    obtain ⟨-, hvalid, he, hl, hreset⟩ := h
    have hrest : s.tracker.begun = false := hreset.resolve_left hne
    refine ⟨fun hb => ?_, hvalid, he, hl, .inr hrest⟩
    simp [hrest] at hb
  · refine @HeadsLaw.guardAtStart { s with
      inReset := none, settings := { s.settings with load := some loadSteps }
      pins := { s.pins with guardOpen := g } } ⟨fun k => ?_, h.forced, fun hn => absurd rfl hn⟩
      fun k => (h.rests hne k).2
    have hk := h.heads k
    exact ⟨hk.bound, hk.torque, hk.drives, hk.channel, hk.draw, hk.valve⟩

theorem restartReset_keepsLaws {s : State} (hreset : s.inReset = none) (hline : s.transmit.onLine ≠ .none) :
    KeepsLaws s (restartReset s) := by
  obtain ⟨htransmit, hreceive, hsettings, -, -, hin, -⟩ := guardAtStart_fields (resetBlocks .restart s.unit.fault s)
  refine ⟨fun _ => ?_, fun h => ?_, fun _ => ?_, fun h => ?_, fun _ => ?_, fun _ => ?_, fun _ _ => ?_, ?_⟩
  · rw [restartReset, htransmit]; rfl
  · exact absurd ((Transmit.silent_iff _).1 h).2.2.2 hline
  · rw [restartReset, hreceive]; rfl
  · rw [restartReset, hsettings]; exact h
  · rw [restartReset, guardAtStart_viewLawful]; rfl
  · rw [restartReset, guardAtStart_trackLawful]; rfl
  · exact (resetBlocks_headsLaw _ _ s).guardAtStart fun k => by
      show ((Four.all ({} : Channel)).get k).phaseRuns = false
      rw [Four.get_all]; rfl
  · rw [restartReset, hin, hreset]; rfl

/-! ## One command -/

theorem Ends.keepsLaws {s t : State} (h : Ends s t) (hr : s.inReset = none) : KeepsLaws s t := by
  cases h with
  | kept h => exact h.toKeepsLaws
  | faulted code _ _ hkeeps _ _ => exact hkeeps.toKeepsLaws.trans (enterFault_keepsLaws code _)
  | silenced hmode hkeeps => exact (hkeeps.trans (faultOfLine_keeps hmode)).toKeepsLaws
  | restarted hline hkeeps =>
    exact hkeeps.toKeepsLaws.trans (restartReset_keepsLaws (hkeeps.reset.trans hr) hline)

theorem Row.stepLaws {s t : State} (h : Row s t) : StepLaws s t := by
  obtain rfl | ⟨hr, hends⟩ := h
  · exact .refl t
  · exact (hends.keepsLaws hr).stepLaws hr

/-- The three commands of a reset. -/
theorem exec_resets {i : Instr} (hi : resets i = true) (s : State) : ∃ t, exec i s = .next t
    ∧ (t = s ∨ (∃ kind code, t = beginReset kind code s) ∨ s.inReset.isSome = true ∧ ∃ g, t = endReset g s) := by
  cases i with
  | powerReset => exact ⟨_, rfl, .inr (.inl ⟨_, _, rfl⟩)⟩
  | pinReset =>
    refine ⟨_, rfl, ?_⟩
    cases hr : s.inReset with
    | none => exact .inr (.inl ⟨_, _, unlessReset_out _ s hr⟩)
    | some r => exact .inl (unlessReset_in _ s (by simp [hr]))
  | resetEnd g =>
    have harm : exec (.resetEnd g) s = execResetEnd g s := rfl
    rw [harm, execResetEnd]
    by_cases hr : s.inReset.isSome = true
    · rw [if_pos hr]
      exact ⟨_, rfl, .inr (.inr ⟨hr, g, rfl⟩)⟩
    · rw [if_neg hr]
      exact ⟨_, rfl, .inl rfl⟩
  | _ => exact absurd hi Bool.false_ne_true

theorem exec_stepLaws {i : Instr} {s t : State} (h : exec i s = .next t) : StepLaws s t := by
  cases hi : resets i with
  | false =>
    obtain ⟨u, hu, hrow⟩ := exec_row hi s
    cases hu.symm.trans h
    exact hrow.stepLaws
  | true =>
    obtain ⟨u, hu, hcases⟩ := exec_resets hi s
    cases hu.symm.trans h
    obtain rfl | ⟨kind, code, rfl⟩ | ⟨hin, g, rfl⟩ := hcases
    · exact .refl t
    · exact beginReset_stepLaws kind code s
    · exact endReset_stepLaws g hin

/-! ## One step -/

theorem step_front {s : State} {c : Instr} {rest : List Instr} (h : s.pending = c :: rest) :
    step s = exec c { s with pending := rest } := by
  unfold step
  rw [h]
  rfl

theorem step_idle {s : State} (h : s.pending = []) : step s = .next (elapse 1 s) := by
  unfold step
  rw [h]

/-- The waiting commands are no part of a law. -/
theorem withPending_headsLaw {s : State} (q : List Instr) (h : HeadsLaw s) : HeadsLaw { s with pending := q } :=
  h.congr rfl (fun _ => rfl) rfl rfl rfl rfl rfl

theorem elapse_stepLaws (n : Nat) (s : State) : StepLaws s (elapse n s) :=
  let h := elapse_keeps n s
  ⟨h.queue, h.receive, h.store, h.view, h.track, elapse_headsLaw n⟩

theorem step_stepLaws {s t : State} (h : step s = .next t) : StepLaws s t := by
  cases hq : s.pending with
  | nil =>
    cases (step_idle hq).symm.trans h
    exact elapse_stepLaws 1 s
  | cons c rest =>
    rw [step_front hq] at h
    have hlaws := exec_stepLaws h
    exact ⟨hlaws.queue, hlaws.receive, hlaws.store, hlaws.view, hlaws.track,
      fun hs => hlaws.heads (withPending_headsLaw rest hs)⟩

/-! ## The obligations -/

/-- Settles O53: the queue's laws are among those that every command keeps. -/
theorem transmitQueueStaysLawful : Obligations.TransmitQueueStaysLawful := by
  unfold Obligations.TransmitQueueStaysLawful
  exact fun _ _ hs h => (step_stepLaws h).queue hs

/-- Settles O54: the receive side's and the store's laws are among those that every command keeps. -/
theorem receiveSideAndStoreStayLawful : Obligations.ReceiveSideAndStoreStayLawful := by
  unfold Obligations.ReceiveSideAndStoreStayLawful
  exact fun _ _ hs hstore h => ⟨(step_stepLaws h).receive hs, (step_stepLaws h).store hstore⟩

/-- Settles O55: the view's laws are among those that every command keeps. -/
theorem viewStaysLawful : Obligations.ViewStaysLawful := by
  unfold Obligations.ViewStaysLawful
  exact fun _ _ hs h => (step_stepLaws h).view hs

/-- Settles O56: the tracker's laws are among those that every command keeps. -/
theorem trackerStaysLawful : Obligations.TrackerStaysLawful := by
  unfold Obligations.TrackerStaysLawful
  exact fun _ _ hs h => (step_stepLaws h).track hs

/-- Settles O57: the heads' laws are among those that every command keeps. -/
theorem headsStayLawful : Obligations.HeadsStayLawful := by
  unfold Obligations.HeadsStayLawful
  exact fun _ _ hs h => (headsLaw_iff _).1 ((step_stepLaws h).heads ((headsLaw_iff _).2 hs))

/-! ## FAULT and silence -/

/-- A command that ends in FAULT from another mode has made the entry. -/
theorem Ends.entered {s t : State} (h : Ends s t) (hs : s.unit.mode ≠ .fault) (ht : t.unit.mode = .fault) :
    ∃ (u : State) (code : FaultCode), code ≠ .none ∧ u.unit.mode ≠ .fault ∧ Keeps s u ∧ Calm s u
      ∧ Latched s u ∧ t = enterFault code u := by
  cases h with
  | kept h => exact absurd ht (h.running hs)
  | faulted code hcode hmode hkeeps hcalm hl => exact ⟨_, code, hcode, hmode, hkeeps, hcalm, hl, rfl⟩
  | silenced hmode hkeeps => exact absurd hmode (hkeeps.running hs)
  | restarted hline hkeeps =>
    rw [restartReset, (guardAtStart_fields _).2.2.2.2.2.2.1] at ht
    exact absurd ht (by decide : Mode.start ≠ Mode.fault)

theorem exec_entered {i : Instr} {s t : State} (h : exec i s = .next t) (hs : s.unit.mode ≠ .fault)
    (ht : t.unit.mode = .fault) : s.inReset = none ∧ Ends s t := by
  cases hi : resets i with
  | false =>
    obtain ⟨u, hu, hrow⟩ := exec_row hi s
    cases hu.symm.trans h
    obtain rfl | hends := hrow
    · exact absurd ht hs
    · exact hends
  | true =>
    obtain ⟨u, hu, hcases⟩ := exec_resets hi s
    cases hu.symm.trans h
    obtain rfl | ⟨kind, code, rfl⟩ | ⟨-, g, rfl⟩ := hcases
    · exact absurd ht hs
    · exact absurd ht (by show Mode.start ≠ Mode.fault; decide)
    · rw [endReset, (guardAtStart_fields _).2.2.2.2.2.2.1] at ht
      exact absurd ht hs

theorem Marks.withoutRecipe_get {x : Threshold} (m : Marks) (hx : x.isProfile = false) :
    m.withoutRecipe.get x = false := by
  cases x with
  | intakeClose | discharge => cases hx
  | cap | fe | fl | fx | dl | rel => rfl

/-- A channel at the entry to FAULT (R126, R127). -/
theorem Channel.faulted_fields {x : Channel} (hlawful : x.lawful = true) : x.faulted.state = .tripped
    ∧ x.faulted.causes = x.causes.add .safe ∧ x.faulted.duty = 0 ∧ x.faulted.bridge = .off ∧ x.faulted.step = .none := by
  obtain ⟨-, hduty, hbridge, hstep, -⟩ := Channel.rests_faulted hlawful
  obtain ⟨hstate, hcauses⟩ := Channel.tripOrAdd_fields .safe x
  exact ⟨hstate, hcauses, hduty, hbridge, hstep⟩

theorem endForcedRun_latched (s : State) : Latched s (endForcedRun s) := by
  unfold endForcedRun
  split
  · exact fun _ => id
  · next r _ =>
    split
    · exact fun _ => id
    · exact fun _ => id
    · intro k hk
      by_cases hkr : k = r.head
      · subst hkr
        rw [modChannel_channels, Four.get_modify_same]
        exact Channel.latched_endForced _ hk
      · rw [modChannel_channels, Four.get_modify_other _ _ hkr]
        exact hk

/-- In FAULT a command that is no reset keeps the mode and the place, or has restarted; silence stays. -/
theorem Ends.faultAndSilence {s t : State} (h : Ends s t) :
    (s.unit.mode = .fault → (t.unit.mode = .fault ∧ t.place = s.place) ∨ t.restarted = true)
    ∧ (s.transmit.silent = true → t.transmit.silent = true) := by
  cases h with
  | kept h => exact ⟨fun hs => .inl (h.fault hs), h.silent⟩
  | faulted code _ hmode hkeeps _ _ =>
    exact ⟨fun hs => absurd (hkeeps.fault hs).1 hmode, (enterFault_keepsLaws code _).silent ∘ hkeeps.silent⟩
  | silenced hmode hkeeps =>
    have h := hkeeps.trans (faultOfLine_keeps hmode)
    exact ⟨fun hs => .inl (h.fault hs), h.silent⟩
  | restarted hline hkeeps =>
    refine ⟨fun _ => .inr ?_, fun hs => ?_⟩
    · unfold restartReset guardAtStart
      split <;> rfl
    · exact absurd ((Transmit.silent_iff _).1 (hkeeps.silent hs)).2.2.2 hline

theorem exec_faultAndSilence {i : Instr} {s t : State} (h : exec i s = .next t) :
    (s.unit.mode = .fault → (t.unit.mode = .fault ∧ t.place = s.place) ∨ t.inReset.isSome = true ∨ t.restarted = true)
    ∧ (s.transmit.silent = true → t.transmit.silent = true ∨ t.inReset.isSome = true) := by
  cases hi : resets i with
  | false =>
    obtain ⟨u, hu, hrow⟩ := exec_row hi s
    cases hu.symm.trans h
    obtain rfl | ⟨-, hends⟩ := hrow
    · exact ⟨fun hs => .inl ⟨hs, rfl⟩, .inl⟩
    · obtain ⟨hfault, hsilent⟩ := hends.faultAndSilence
      exact ⟨fun hs => (hfault hs).imp id .inr, fun hs => .inl (hsilent hs)⟩
  | true =>
    obtain ⟨u, hu, hcases⟩ := exec_resets hi s
    cases hu.symm.trans h
    obtain rfl | ⟨kind, code, rfl⟩ | ⟨-, g, rfl⟩ := hcases
    · exact ⟨fun hs => .inl ⟨hs, rfl⟩, .inl⟩
    · exact ⟨fun _ => .inr (.inl rfl), fun _ => .inr rfl⟩
    · obtain ⟨htransmit, -, -, -, -, -, hmode, hplace, -⟩ := guardAtStart_fields { s with
        inReset := none, settings := { s.settings with load := some loadSteps }
        pins := { s.pins with guardOpen := g } }
      refine ⟨fun hs => .inl ⟨hmode.trans hs, hplace⟩, fun hs => .inl ?_⟩
      rw [endReset, htransmit]
      exact hs

/-- Settles O58: the entry is the last thing a command does, in calm, and clears every block. -/
theorem everyEntryToFaultClearsTheStation : Obligations.EveryEntryToFaultClearsTheStation := by
  unfold Obligations.EveryEntryToFaultClearsTheStation
  intro s t hlaw hmode hstep hfault
  obtain ⟨rest, hreset, hends⟩ : ∃ rest, s.inReset = none ∧ Ends { s with pending := rest } t := by
    cases hq : s.pending with
    | nil =>
      cases (step_idle hq).symm.trans hstep
      rw [elapse_unit] at hfault
      exact absurd hfault hmode
    | cons c rest =>
      rw [step_front hq] at hstep
      obtain ⟨hr, hends⟩ := exec_entered hstep hmode hfault
      exact ⟨rest, hr, hends⟩
  obtain ⟨u, code, hcode, hu, hkeeps, hcalm, hlatched, rfl⟩ := hends.entered hmode hfault
  have hheads : HeadsLaw u := hkeeps.heads hreset (withPending_headsLaw rest ((headsLaw_iff s).2 hlaw))
  have hended : HeadsLaw (endForcedRun u) := (endForcedRun_keeps u).heads (hkeeps.reset.trans hreset) hheads
  have hcalm' : Calm u (endForcedRun u) := by
    obtain ⟨k, hk⟩ := endForcedRun_acts u
    exact hk.calm
  obtain ⟨held, x, n, heq, hnormal, -, -⟩ := enterFault_eq code hu
  rw [heq]
  refine ⟨hcode, hcalm.g, hcalm.node, fun k => ?_, rfl, rfl, hnormal, congrArg Service.forced (endForcedRun_service u), ?_⟩
  · obtain ⟨hstate, hcauses, hduty, hbridge, hstep⟩ := Channel.faulted_fields (hended.heads k).channel
    simp only [faultBlocks, Four.get_map, Four.get_all, hstate, hcauses, hduty, hbridge, hstep]
    refine ⟨?_, rfl, rfl, rfl, rfl, rfl, rfl, rfl, fun y hy => Marks.withoutRecipe_get _ hy, trivial, rfl,
      fun h => Causes.overcurrent_add .safe ?_, trivial, trivial, trivial, trivial⟩
    · rw [Slot.faulted, ← hcalm.pocket k, ← hcalm'.pocket k]
    · exact endForcedRun_latched u k (hlatched k h)
  · show ((endForcedRun u).service.faulted).request ≠ .restart
    unfold Service.faulted
    dsimp only
    split
    · decide
    · assumption

/-- Settles O60: what keeps the laws keeps FAULT and silence, and so do the entry to FAULT and the silence itself. -/
theorem onlyAResetLeavesFaultAndSilence : Obligations.OnlyAResetLeavesFaultAndSilence := by
  unfold Obligations.OnlyAResetLeavesFaultAndSilence
  intro s t hstep
  cases hq : s.pending with
  | nil =>
    cases (step_idle hq).symm.trans hstep
    have hk := elapse_keeps 1 s
    exact ⟨fun h => .inl (hk.fault h), fun h => .inl (hk.silent h)⟩
  | cons c rest =>
    rw [step_front hq] at hstep
    have hends := exec_faultAndSilence hstep
    exact hends

/-- Settles O1: the two cases of the step. -/
theorem stepTakesTheFrontCommand : Obligations.StepTakesTheFrontCommand := by
  unfold Obligations.StepTakesTheFrontCommand
  exact fun s => ⟨fun c rest => step_front, step_idle⟩

/-- Settles O59: the reset state is closed, and its laws evaluate. -/
theorem resetIsLawful : Obligations.ResetIsLawful := by
  unfold Obligations.ResetIsLawful
  exact ⟨rfl, rfl, reset_store_wf, rfl, rfl, rfl⟩

/-- Settles O2: the reset state is closed, and each table evaluates. -/
theorem resetLeavesTheTableValues : Obligations.ResetLeavesTheTableValues := by
  unfold Obligations.ResetLeavesTheTableValues
  refine ⟨rfl, rfl, ⟨rfl, rfl, rfl, rfl, rfl, rfl, rfl, rfl, rfl⟩, rfl, ⟨rfl, rfl, rfl, rfl, rfl, rfl⟩,
    ⟨rfl, rfl, rfl⟩, rfl, rfl, rfl, rfl, fun k => ?_⟩
  have hslot : State.reset.slots.get k = {} := Four.get_all _ k
  have hengine : State.reset.engines.get k = {} := Four.get_all _ k
  have hchannel : State.reset.channels.get k = {} := Four.get_all _ k
  have hdraw : State.reset.draws.get k = {} := Four.get_all _ k
  refine ⟨⟨_, hslot⟩, ⟨_, hengine⟩, ⟨_, hchannel⟩, hdraw, ?_⟩
  rw [State.bridgeOutputs, hchannel]
  rfl

end Sys2Proof.Machine

/-! The service unit: how an ask is answered, and the obligations of the four reads, WRITE-RECORD, CLEAR-HEAD, RESTART and
the unknown codes (Chapters 9 and 10). -/

namespace Sys2Proof.Machine
open Sys2Proof

/-! ## Bytes -/

@[simp] theorem byte_toNat_byte (b : Byte) : byte b.toNat = b := by simp [byte]

@[simp] theorem u8_cons_zero (b : Byte) (l : List Byte) : u8 (b :: l) 0 = b.toNat := rfl

@[simp] theorem u8_cons_succ (b : Byte) (l : List Byte) (i : Nat) : u8 (b :: l) (i + 1) = u8 l i := rfl

/-! ## An ask and its answer (R181, R182) -/

theorem State.withFrames_unit (q : List Frame) (s : State) : (s.withFrames q).unit = s.unit := rfl

/-- An answer offered in the state without the ask: at the tail, or dropped by a full normal part. -/
theorem answer_withFrames {s : State} (rest : List Frame) (code : Nat) (st : Status) (data : List Byte)
    (h : s.transmit.silenced = false) :
    answer code st data (s.withFrames rest) = s.answered rest (answerPayload code st data) := by
  have haccepts : (s.withFrames rest).accepts .answer (answerPayload code st data) = true
      ↔ s.transmit.normalCount < normalBound := by
    rw [accepts_iff]
    exact ⟨fun ha => ha.2.2.1, fun hroom => ⟨h, fun _ => rfl, hroom, fun hk => by cases hk⟩⟩
  unfold answer State.answered
  by_cases hroom : s.transmit.normalCount < normalBound
  · rw [if_pos (haccepts.2 hroom), if_pos hroom]
    rfl
  · rw [if_neg (fun ha => hroom (haccepts.1 ha)), if_neg hroom]

theorem refuse_withFrames {s : State} (rest : List Frame) (code : Nat) (st : Status)
    (h : s.transmit.silenced = false) :
    refuse code st (s.withFrames rest) = s.answered rest [byte code, byte st.code] :=
  answer_withFrames rest code st [] h

section
variable {s : State} {code : Nat} {args : List Byte} {rest : List Frame} {allowed : State → Bool}
  {carry : List Byte → State → State}

/-- An ask of a request code that is delivered is decided in the state without it. -/
theorem request_delivered {f : Frame} (hf : s.delivers .ask f rest) (hcode : f.code = code)
    (hs : s.transmit.silenced = false) :
    request code allowed carry s = .next (decideAsk allowed carry f (s.withFrames rest)) := by
  obtain ⟨hreset, hqueue, hkind⟩ := hf
  unfold request
  rw [unlessReset_out _ s hreset, deliverAsk_front _ _ s f rest hqueue hkind (by simp [hcode]) hs]
  rfl

theorem request_carried (h : s.asked code args rest) (hallowed : allowed (s.withFrames rest) = true) :
    request code allowed carry s = .next (carry args (s.withFrames rest)) := by
  obtain ⟨f, hf, hcode, rfl, hs, hnone⟩ := h
  have hnone' : (s.withFrames rest).service.request = .none := hnone
  rw [request_delivered hf hcode hs]
  simp [decideAsk, hnone', hallowed]

theorem request_refused (h : s.asked code args rest) (hallowed : allowed (s.withFrames rest) = false) :
    request code allowed carry s = .next (s.answered rest [byte code, 2]) := by
  obtain ⟨f, hf, hcode, rfl, hs, hnone⟩ := h
  have hnone' : (s.withFrames rest).service.request = .none := hnone
  rw [request_delivered hf hcode hs, ← hcode]
  simp only [decideAsk, hnone', hallowed, ne_eq, not_true_eq_false, if_false, Bool.not_false, if_true]
  rw [refuse_withFrames rest _ _ hs]
  rfl

theorem asked_silenced (h : s.asked code args rest) : s.transmit.silenced = false := by
  obtain ⟨f, -, -, -, hs, -⟩ := h
  exact hs

end

/-! ## The station's heads -/

theorem State.mem_heads {s : State} {k : Fin 4} : k ∈ s.heads ↔ s.hasHead k = true := by
  simp [State.heads, mem_headIndexes]

theorem State.hasHead_iff {s : State} {k : Fin 4} : s.hasHead k = true ↔ k.val < s.headCount := by
  simp [State.hasHead]

/-- The head that a predicate true of one head alone finds. -/
theorem State.find_head {s : State} {k : Fin 4} {p : Fin 4 → Bool} (hk : s.hasHead k = true) (hp : p k = true)
    (honly : ∀ j, p j = true → j = k) : s.heads.find? p = some k := by
  cases hfind : s.heads.find? p with
  | none => exact absurd hp (List.find?_eq_none.1 hfind k (State.mem_heads.2 hk))
  | some j => rw [honly j (List.find?_some hfind)]

theorem State.headArg_some {s : State} {k : Fin 4} {n : Nat} (hk : s.hasHead k = true) (hn : n = k.val) :
    s.headArg n = some k :=
  State.find_head hk (by simp [hn]) fun j hj => by
    simp only [decide_eq_true_eq] at hj
    exact Fin.ext (hj.trans hn)

theorem State.headArg_none {s : State} {n : Nat} (hn : s.headCount ≤ n) : s.headArg n = none := by
  refine List.find?_eq_none.2 fun j hj => ?_
  have := State.hasHead_iff.1 (State.mem_heads.1 hj)
  simp only [decide_eq_true_eq]
  omega

/-! ## READ-STATE (R183) -/

theorem causeBits_eq (c : Causes) (out : Bool) : causeBits c out = (if c.overcurrent then 1 else 0)
    + (if c.guard then 2 else 0) + (if c.safe then 4 else 0) + (if out then 128 else 0) := by
  obtain ⟨o, g, x⟩ := c
  revert o g x out
  decide

theorem headBytes_length (s : State) (k : Fin 4) : (headBytes s k).length = 8 := by
  unfold headBytes
  split <;> rfl

theorem stateBytes_length (s : State) : (stateBytes s).length = 68 := by
  simp only [stateBytes, stationBytes, unitBytes, le16, List.length_append, List.length_cons, List.length_nil,
    headBytes_length]

theorem carryReadState_args {args : List Byte} (s : State) (h : args ≠ []) :
    carryReadState args s = refuse codeReadState .badArgs s := by
  simp [carryReadState, h]

theorem carryReadState_nil (s : State) : carryReadState [] s = answer codeReadState .ok (stateBytes s) s := rfl

/-! ## READ-POCKET (R184) -/

theorem optWord_length (n : Option Nat) : (optWord n).length = 2 := by cases n <;> rfl

theorem pocketBytes_length (s : State) (k : Fin 4) : (pocketBytes s k).length = 30 := by
  simp only [pocketBytes, le16, le24, List.length_append, List.length_cons, List.length_nil, optWord_length]

theorem carryReadPocket_args {args : List Byte} (s : State) (h : args.length ≠ 1) :
    carryReadPocket args s = refuse codeReadPocket .badArgs s := if_pos h

theorem carryReadPocket_absent (s : State) {b : Byte} (h : s.headCount ≤ b.toNat) :
    carryReadPocket [b] s = refuse codeReadPocket .noSuch s := by
  simp [carryReadPocket, State.headArg_none h]

theorem carryReadPocket_head (s : State) {k : Fin 4} {b : Byte} (hk : s.hasHead k = true) (hb : b.toNat = k.val) :
    carryReadPocket [b] s = answer codeReadPocket .ok (pocketBytes s k) s := by
  simp [carryReadPocket, State.headArg_some hk hb]

/-! ## READ-VIEW and READ-RECORD (R185, R186) -/

theorem carryReadView_args {args : List Byte} (s : State) (h : args.length ≠ 1) :
    carryReadView args s = refuse codeReadView .badArgs s := if_pos (.inl h)

theorem carryReadView_beyond (s : State) {b : Byte} (h : s.view.entries.length < b.toNat) :
    carryReadView [b] s = refuse codeReadView .badArgs s := if_pos (.inr h)

theorem carryReadView_page (s : State) {b : Byte} (h : b.toNat ≤ s.view.entries.length) :
    carryReadView [b] s = answer codeReadView .ok (viewBytes s b.toNat) s := by
  exact if_neg fun hbad => hbad.elim (fun hlen => hlen rfl) (Nat.not_lt.2 h)

theorem carryReadRecord_args {args : List Byte} (s : State) (h : args.length ≠ 2) :
    carryReadRecord args s = refuse codeReadRecord .badArgs s := if_pos (.inl h)

theorem carryReadRecord_copy {c n : Byte} (s : State) (h : 1 < c.toNat) :
    carryReadRecord [c, n] s = refuse codeReadRecord .badArgs s := if_pos (.inr h)

theorem carryReadRecord_number {c n : Byte} (s : State) (hc : c.toNat ≤ 1) (h : 8 < n.toNat) :
    carryReadRecord [c, n] s = refuse codeReadRecord .noSuch s := by
  have hc' : ¬ 1 < c.toNat := by omega
  simp [carryReadRecord, hc', lastRecord, h]

theorem carryReadRecord_data {c n : Byte} (s : State) (hc : c.toNat ≤ 1) (h : n.toNat ≤ 8) :
    carryReadRecord [c, n] s = answer codeReadRecord .ok (recordData s c.toNat n.toNat) s := by
  have hc' : ¬ 1 < c.toNat := by omega
  have h' : ¬ 8 < n.toNat := by omega
  simp [carryReadRecord, hc', lastRecord, h']

theorem State.activeBytes_profile (s : State) : s.activeBytes 0
    = if s.settings.profile = [] then List.replicate 32 0 else s.settings.profile := by
  simp [State.activeBytes, recordBytes, profileLength]

theorem State.activeBytes_recipe (s : State) {n : Nat} (h : 1 ≤ n) : s.activeBytes n
    = if s.recipe (n - 1) = [] then List.replicate 64 0 else s.recipe (n - 1) := by
  have h' : n ≠ 0 := by omega
  simp [State.activeBytes, recordBytes, recipeLength, h']

/-- Settles O49: each read's answer by its arguments, and the layouts evaluated. -/
theorem readsAreAnswered : Obligations.ReadsAreAnswered := by
  unfold Obligations.ReadsAreAnswered
  intro s args rest
  refine ⟨fun h => ?_, fun h => ?_, fun h => ?_, fun h => ?_⟩
  · have hs := asked_silenced h
    have hserved : exec .readState s = .next (carryReadState args (s.withFrames rest)) := request_carried h rfl
    refine ⟨fun hne => ?_, ?_⟩
    · rw [hserved, carryReadState_args _ hne, refuse_withFrames rest _ _ hs]
      rfl
    · rintro rfl
      intro headData data
      have hhead (k : Fin 4) : headBytes s k = headData k := by
        unfold headBytes
        simp only [headData, causeBits_eq]
        rfl
      have hdata : stateBytes s = data := by
        simp only [stateBytes, stationBytes, unitBytes, hhead, data, List.append_assoc, List.cons_append,
          List.nil_append]
      refine ⟨hdata ▸ stateBytes_length s, ?_⟩
      rw [hserved, carryReadState_nil, answer_withFrames rest _ _ _ hs, ← hdata]
      rfl
  · have hs := asked_silenced h
    have hserved : exec .readPocket s = .next (carryReadPocket args (s.withFrames rest)) := request_carried h rfl
    refine ⟨fun hne => ?_, ?_⟩
    · rw [hserved, carryReadPocket_args _ hne, refuse_withFrames rest _ _ hs]
      rfl
    · rintro b rfl
      refine ⟨fun hb => ?_, fun k hk hb => ?_⟩
      · rw [hserved, carryReadPocket_absent (s.withFrames rest) hb, refuse_withFrames rest _ _ hs]
        rfl
      · intro r marks recipe data
        have hdata : pocketBytes s k = data := by
          have hcode : r.recipe.code = recipe := by
            simp only [recipe]
            cases r.recipe <;> rfl
          simp only [data, ← hcode]
          rfl
        refine ⟨hdata ▸ pocketBytes_length s k, ?_⟩
        rw [hserved, carryReadPocket_head (s.withFrames rest) hk hb, answer_withFrames rest _ _ _ hs, ← hdata]
        rfl
  · have hs := asked_silenced h
    have hserved : exec .readView s = .next (carryReadView args (s.withFrames rest)) := request_carried h rfl
    refine ⟨fun hne => ?_, ?_⟩
    · rw [hserved, carryReadView_args _ hne, refuse_withFrames rest _ _ hs]
      rfl
    · rintro b rfl
      refine ⟨fun hb => ?_, fun hb => ?_⟩
      · rw [hserved, carryReadView_beyond (s.withFrames rest) hb, refuse_withFrames rest _ _ hs]
        rfl
      · rw [hserved, carryReadView_page (s.withFrames rest) hb, answer_withFrames rest _ _ _ hs]
        simp only [viewBytes, byte_toNat_byte]
        rfl
  · have hs := asked_silenced h
    have hserved : exec .readRecord s = .next (carryReadRecord args (s.withFrames rest)) := request_carried h rfl
    refine ⟨fun hne => ?_, ?_⟩
    · rw [hserved, carryReadRecord_args _ hne, refuse_withFrames rest _ _ hs]
      rfl
    · rintro c n rfl
      refine ⟨fun hc => ?_, fun hc hn => ?_, fun hc hn => ?_, fun hc hn => ?_, fun hc h1 hn => ?_⟩
      · rw [hserved, carryReadRecord_copy _ hc, refuse_withFrames rest _ _ hs]
        rfl
      · rw [hserved, carryReadRecord_number _ hc hn, refuse_withFrames rest _ _ hs]
        rfl
      · rw [hserved, carryReadRecord_data _ (by omega) hn, answer_withFrames rest _ _ _ hs, recordData, if_pos hc,
          byte_toNat_byte]
        rfl
      · rw [hserved, carryReadRecord_data _ (by omega) (by omega), answer_withFrames rest _ _ _ hs, recordData,
          if_neg (by omega), byte_toNat_byte, hn, State.activeBytes_profile]
        rfl
      · rw [hserved, carryReadRecord_data _ (by omega) hn, answer_withFrames rest _ _ _ hs, recordData,
          if_neg (by omega), byte_toNat_byte, State.activeBytes_recipe _ h1, State.activeGood, if_neg (by omega)]
        rfl

end Sys2Proof.Machine

/-! The obligations of the service unit's requests that act: WRITE-RECORD and its completion, CLEAR-HEAD, FORCE-OUTPUT and
the end of its run, RESTART and the unknown codes (Chapters 9 and 10). -/

namespace Sys2Proof.Machine
open Sys2Proof

/-- Two changes that agree on a head's block change the four blocks alike. -/
theorem Four.modify_congr {α : Type} (f : Four α) (k : Fin 4) {g h : α → α} (hgh : g (f.get k) = h (f.get k)) :
    f.modify k g = f.modify k h := by
  refine Four.ext_get _ _ fun j => ?_
  by_cases hj : j = k
  · rw [hj, Four.get_modify_same, Four.get_modify_same, hgh]
  · rw [Four.get_modify_other _ _ hj, Four.get_modify_other _ _ hj]

theorem Four.modify_same {α : Type} (f : Four α) (k : Fin 4) {g : α → α} (hg : g (f.get k) = f.get k) :
    f.modify k g = f := by
  refine Four.ext_get _ _ fun j => ?_
  by_cases hj : j = k
  · rw [hj, Four.get_modify_same, hg]
  · rw [Four.get_modify_other _ _ hj]

/-! ## WRITE-RECORD (R178) -/

theorem carryWriteRecord_number {b : Byte} {r : List Byte} (s : State) (h : 8 < b.toNat) :
    carryWriteRecord (b :: r) s = refuse codeWriteRecord .noSuch s := if_pos h

theorem carryWriteRecord_bad {b : Byte} {r : List Byte} {s : State} (hb : b.toNat ≤ 8)
    (h : ¬(r.length = recordBytes b.toNat ∧ goodSum r = true ∧ s.writableFields b.toNat r = true)) :
    carryWriteRecord (b :: r) s = refuse codeWriteRecord .badArgs s := by
  have hb' : ¬ lastRecord < b.toNat := by unfold lastRecord; omega
  refine (if_neg hb').trans (if_pos ?_)
  by_cases hlength : r.length = recordBytes b.toNat
  · by_cases hsum : goodSum r = true
    · exact .inr (.inr fun hfields => h ⟨hlength, hsum, hfields⟩)
    · exact .inr (.inl hsum)
  · exact .inl hlength

theorem carryWriteRecord_good {b : Byte} {r : List Byte} {s : State} (hb : b.toNat ≤ 8)
    (hlength : r.length = recordBytes b.toNat) (hsum : goodSum r = true)
    (hfields : s.writableFields b.toNat r = true) : carryWriteRecord (b :: r) s = beginWrite b.toNat r s := by
  have hb' : ¬ lastRecord < b.toNat := by unfold lastRecord; omega
  exact (if_neg hb').trans (if_neg (by simp [hlength, hsum, hfields]))

theorem State.writableFields_iff (s : State) (number : Nat) (r : List Byte) : s.writableFields number r = true
    ↔ (number = 0 → Profile.fieldsOk r = true)
      ∧ (number ≠ 0 → Recipe.fieldsOk r = true
        ∧ (s.settings.good = true → Recipe.orderAgainst s.settings.profile r = true)) := by
  unfold State.writableFields
  by_cases h : number = 0
  · simp [h]
  · cases hgood : s.settings.good <;> simp [h]

/-! ## The completion of a write (R179) -/

/-- A byte read back from where it was written. -/
theorem Store.read_writeBytes {m : List Host.Cell} (a : Nat) (bs : List Byte) (h : Store.wf m = true) (z : Nat) :
    Store.read (Store.writeBytes m a bs) z
      = if a ≤ z ∧ z < a + bs.length then bs.getD (z - a) 0 else Store.read m z := by
  split
  · next hin =>
    induction bs generalizing m a with
    | nil => simp at hin; omega
    | cons b bs ih =>
      have hw := Store.write_wf a b h
      rw [List.length_cons] at hin
      by_cases hz : z = a
      · subst hz
        rw [Store.writeBytes, Store.read_writeBytes_outside (z + 1) bs hw z (by omega), Store.read_write_same z b h]
        simp
      · rw [Store.writeBytes, ih (a + 1) hw (by omega), show z - a = (z - (a + 1)) + 1 by omega, List.getD_cons_succ]
  · exact Store.read_writeBytes_outside a bs h z (by omega)

theorem elapse_ticket (n : Nat) (s : State) : (elapse n s).transmit.ticket = s.transmit.ticket := by
  unfold elapse
  split
  · rfl
  · dsimp only
    unfold Transmit.elapse
    split
    · split <;> rfl
    · rfl

theorem elapse_normalCount (n : Nat) (s : State) : (elapse n s).transmit.normalCount = s.transmit.normalCount := by
  obtain ⟨hnormal, -, hline, -⟩ := elapse_transmit n s
  unfold Transmit.normalCount
  rw [hnormal, hline]

theorem accepts_answer {s : State} (hs : s.transmit.silenced = false) (hroom : s.transmit.normalCount < normalBound)
    (p : List Byte) : s.accepts .answer p = true :=
  (accepts_iff s .answer p).2 ⟨hs, fun _ => rfl, hroom, fun hk => by cases hk⟩

/-- Settles O50: the request by its checks, and the completion by what the store then reads. -/
theorem writesAreCheckedAndStored : Obligations.WritesAreCheckedAndStored := by
  unfold Obligations.WritesAreCheckedAndStored
  refine fun s => ⟨fun args rest h => ⟨fun hmode => ?_, fun hmode => ?_⟩, fun w hreset hwrite hwf hs hroom => ?_⟩
  · refine request_refused h ?_
    have hunit : (s.withFrames rest).unit = s.unit := rfl
    rcases hmode with hm | hm | hm <;> simp [writeMode, hunit, hm]
  · have hs := asked_silenced h
    have hallowed : writeMode (s.withFrames rest) = true := by
      have hunit : (s.withFrames rest).unit = s.unit := rfl
      rcases hmode with hm | hm | hm | hm <;> simp [writeMode, hunit, hm]
    have hserved : exec .writeRecord s = .next (carryWriteRecord args (s.withFrames rest)) :=
      request_carried h hallowed
    refine ⟨?_, ?_⟩
    · rintro rfl
      rw [hserved, carryWriteRecord, refuse_withFrames rest _ _ hs]
      rfl
    · rintro b r rfl
      intro good
      have hfields := State.writableFields_iff (s.withFrames rest) b.toNat r
      refine ⟨fun hb => ?_, fun hb hbad => ?_, fun hb hgood => ?_⟩
      · rw [hserved, carryWriteRecord_number _ hb, refuse_withFrames rest _ _ hs]
        rfl
      · rw [hserved, carryWriteRecord_bad hb, refuse_withFrames rest _ _ hs]
        · rfl
        · rintro ⟨hlength, hsum, hwritable⟩
          obtain ⟨hprofile, hrecipe⟩ := hfields.1 hwritable
          exact hbad ⟨hlength, hsum, hprofile, hrecipe⟩
      · obtain ⟨hlength, hsum, hprofile, hrecipe⟩ := hgood
        rw [hserved, carryWriteRecord_good hb hlength hsum (hfields.2 ⟨hprofile, hrecipe⟩)]
        rfl
  · have harm : exec .storeWriteCompletion s = execStoreWriteCompletion s := rfl
    obtain ⟨hnormal, -, hline, hsilenced⟩ := elapse_transmit w.left s
    have haccepts : (writeStored w (elapse w.left s)).accepts .answer
        (answerPayload codeWriteRecord .ok [byte w.number]) = true := by
      refine accepts_answer (hsilenced.trans hs) ?_ _
      exact (elapse_normalCount w.left s).symm ▸ hroom
    have hexec : exec .storeWriteCompletion s = .next (enqueue .answer
        (answerPayload codeWriteRecord .ok [byte w.number]) (writeStored w (elapse w.left s))) := by
      rw [harm, execStoreWriteCompletion, unlessReset_out _ s hreset]
      simp only [hwrite, answer, haccepts, if_true]
    refine ⟨_, w.left, hexec, fun a => ?_, ?_⟩
    · show Store.read (Store.writeBytes (elapse w.left s).settings.store _ _) a = _
      rw [elapse_store, Store.read_writeBytes _ _ hwf]
    · rw [← hnormal, ← elapse_ticket w.left s, ← elapse_unit w.left s]
      rfl

/-! ## CLEAR-HEAD (R187) -/

theorem carryClearHead_args {args : List Byte} (s : State) (h : args.length ≠ 1) :
    carryClearHead args s = refuse codeClearHead .badArgs s := if_pos h

theorem carryClearHead_absent (s : State) {b : Byte} (h : s.headCount ≤ b.toNat) :
    carryClearHead [b] s = refuse codeClearHead .noSuch s := by
  simp [carryClearHead, State.headArg_none h]

theorem carryClearHead_head (s : State) {k : Fin 4} {b : Byte} (hk : s.hasHead k = true) (hb : b.toNat = k.val) :
    carryClearHead [b] s = answer codeClearHead .ok (clearedBytes (clearHead k s) k) (clearHead k s) := by
  simp [carryClearHead, State.headArg_some hk hb]

/-- Settles O51: the head found by its number, its engine and its channel changed, and the answer from them. -/
theorem clearHeadReturnsAHead : Obligations.ClearHeadReturnsAHead := by
  unfold Obligations.ClearHeadReturnsAHead
  intro s args rest h
  have hs := asked_silenced h
  refine ⟨fun hmode => request_refused h hmode, fun hmode => ?_⟩
  have hserved : exec .clearHead s = .next (carryClearHead args (s.withFrames rest)) := request_carried h hmode
  refine ⟨fun hne => ?_, ?_⟩
  · rw [hserved, carryClearHead_args _ hne, refuse_withFrames rest _ _ hs]
    rfl
  · rintro b rfl
    refine ⟨fun hb => ?_, fun k hk hb => ?_⟩
    · rw [hserved, carryClearHead_absent (s.withFrames rest) hb, refuse_withFrames rest _ _ hs]
      rfl
    · intro phase
      have hcleared : clearHead k (s.withFrames rest) = ({ s with
          engines := s.engines.modify k (fun x => { x with phase := phase, out := false })
          channels := s.channels.modify k (fun x => { x with count := 0 }) } : State).withFrames rest := by
        have hengines : s.engines.modify k Engine.cleared
            = s.engines.modify k (fun x => { x with phase := phase, out := false }) := Four.modify_congr _ _ rfl
        unfold clearHead
        rw [modChannel, modEngine, State.withFrames, hengines]
        rfl
      have hbytes : clearedBytes (clearHead k (s.withFrames rest)) k = [byte k.val, byte phase.code, 0] := by
        have hengine : (clearHead k (s.withFrames rest)).engines.get k = (s.engines.get k).cleared :=
          Four.get_modify_same _ _ _
        have hchannel : (clearHead k (s.withFrames rest)).channels.get k = { s.channels.get k with count := 0 } :=
          Four.get_modify_same _ _ _
        rw [clearedBytes, hengine, hchannel]
        rfl
      rw [hserved, carryClearHead_head (s.withFrames rest) hk hb, hbytes, hcleared]
      exact congrArg Host.Outcome.next (answer_withFrames rest _ _ _ hs)

/-! ## RESTART, unknown codes, and a request in progress (R181, R182, R190) -/

theorem decideAsk_busy {allowed : State → Bool} {carry : List Byte → State → State} {f : Frame} {s : State}
    (h : s.service.request ≠ .none) : decideAsk allowed carry f s = refuse f.code .busy s := if_pos h

/-- While a request is in progress an ask of a known code is BUSY. -/
theorem request_busy {s : State} {f : Frame} {rest : List Frame} {allowed : State → Bool}
    {carry : List Byte → State → State} (hf : s.delivers .ask f rest) (hs : s.transmit.silenced = false)
    (hbusy : s.service.request ≠ .none) :
    request f.code allowed carry s = .next (s.answered rest [byte f.code, 1]) := by
  have hbusy' : (s.withFrames rest).service.request ≠ .none := hbusy
  rw [request_delivered hf rfl hs, decideAsk_busy hbusy', refuse_withFrames rest _ _ hs]
  rfl

theorem exec_unknownRequest {s : State} {f : Frame} {rest : List Frame} (hf : s.delivers .ask f rest)
    (hs : s.transmit.silenced = false) (hcode : knownCode f.code = false) :
    exec .unknownRequest s = .next (refuseUnknown f (s.withFrames rest)) := by
  obtain ⟨hreset, hqueue, hkind⟩ := hf
  have harm : exec .unknownRequest s = execUnknownRequest s := rfl
  rw [harm, execUnknownRequest, unlessReset_out _ s hreset,
    deliverAsk_front _ _ s f rest hqueue hkind (by simp [hcode]) hs]
  rfl

/-- Settles O52: RESTART by its arguments and the room for its answer, and the refusals by the request in progress. -/
theorem restartUnknownAndBusy : Obligations.RestartUnknownAndBusy := by
  unfold Obligations.RestartUnknownAndBusy
  refine fun s => ⟨fun args rest h => ?_, fun f rest hf hs => ⟨fun hcode => ?_, fun hbusy p hp hcode => ?_⟩⟩
  · have hs := asked_silenced h
    have hserved : exec .restart s = .next (carryRestart args (s.withFrames rest)) := request_carried h rfl
    have haccepts : (s.withFrames rest).accepts .answer restartOk = true ↔ s.transmit.normalCount < normalBound :=
      ⟨fun ha => ((accepts_iff _ _ _).1 ha).2.2.1, fun hroom => accepts_answer hs hroom _⟩
    refine ⟨fun hne => ?_, ?_, ?_⟩
    · rw [hserved, carryRestart, if_pos (by simpa using hne), refuse_withFrames rest _ _ hs]
      rfl
    · rintro rfl hroom
      have hroom' : s.transmit.normalCount < normalBound := hroom
      rw [hserved, carryRestart, if_neg (by simp), if_pos (haccepts.2 hroom), State.answered, if_pos hroom']
      rfl
    · rintro rfl hfull
      rw [hserved, carryRestart, if_neg (by simp), if_neg]
      exact fun ha => absurd (haccepts.1 ha) (by unfold normalBound; omega)
  · have hunknown : knownCode f.code = false := by
      rw [← Bool.not_eq_true, knownCode, within_iff]
      omega
    rw [exec_unknownRequest hf hs hunknown]
    by_cases hnone : s.service.request = .none
    · have hnone' : (s.withFrames rest).service.request = .none := hnone
      rw [if_pos hnone, refuseUnknown, if_neg (not_not_intro hnone'), refuse_withFrames rest _ _ hs]
      rfl
    · have hbusy : (s.withFrames rest).service.request ≠ .none := hnone
      rw [if_neg hnone, refuseUnknown, if_pos hbusy, refuse_withFrames rest _ _ hs]
      rfl
  · simp only [List.mem_cons, List.not_mem_nil, or_false] at hp
    rcases hp with rfl | rfl | rfl | rfl | rfl | rfl | rfl | rfl
    all_goals
      rw [← request_busy hf hs hbusy, hcode]
      rfl

end Sys2Proof.Machine

/-! Forced runs: their begin by FORCE-OUTPUT, and what their end leaves (6.7, 10.6). -/

namespace Sys2Proof.Machine
open Sys2Proof

/-! ## The end of a forced run (R131, R189) -/

theorem Causes.isEmpty_iff (c : Causes) : c.isEmpty = true ↔ c = ⟨false, false, false⟩ := by
  obtain ⟨o, g, x⟩ := c
  revert o g x
  decide

theorem Channel.endForced_eq (x : Channel) : x.endForced
    = { x with state := if x.causes = ⟨false, false, false⟩ then .off else .tripped, duty := 0, bridge := .off } := by
  unfold Channel.endForced
  by_cases h : x.causes = ⟨false, false, false⟩
  · rw [if_pos ((Causes.isEmpty_iff _).2 h), if_pos h]
    rfl
  · rw [if_neg (fun he => h ((Causes.isEmpty_iff _).1 he)), if_neg h]
    rfl

/-- The end of a forced run clears it and switches its output off; without a run nothing changes. -/
theorem endForcedRun_eq (s : State) : endForcedRun s = { s with
    service := { s.service with forced := none }, engines := s.unforcedEngines, channels := s.unforcedChannels } := by
  unfold endForcedRun State.unforcedEngines State.unforcedChannels
  cases hforced : s.service.forced with
  | none =>
    have hservice : { s.service with forced := none } = s.service := by rw [← hforced]
    dsimp only
    rw [hservice]
  | some r =>
    have hengines (g : Engine → Engine) (hg : ∀ x, g x = x) : s.engines.modify r.head g = s.engines :=
      Four.modify_same _ _ (hg _)
    have hchannels (g : Channel → Channel) (hg : ∀ x, g x = x) : s.channels.modify r.head g = s.channels :=
      Four.modify_same _ _ (hg _)
    dsimp only
    cases hout : r.output with
    | steam => rw [hchannels _ fun _ => rfl]; rfl
    | press => rw [hchannels _ fun _ => rfl]; rfl
    | drive =>
      rw [hengines _ fun _ => rfl, modChannel]
      have hended : s.channels.modify r.head Channel.endForced = s.channels.modify r.head (fun x => { x with
          state := if x.causes = ⟨false, false, false⟩ then .off else .tripped, duty := 0, bridge := .off }) :=
        Four.modify_congr _ _ (Channel.endForced_eq _)
      dsimp only
      rw [hended]

theorem exec_forcedRunEnd {s : State} {r : ForcedRun} (hreset : s.inReset = none) (hr : s.service.forced = some r) :
    exec .forcedRunEnd s = .next (endForcedRun (elapse r.left s)) := by
  have harm : exec .forcedRunEnd s = execForcedRunEnd s := rfl
  rw [harm, execForcedRunEnd, unlessReset_out _ s hreset]
  simp only [hr]

/-! ## FORCE-OUTPUT (R188) -/

theorem Output.ofCode_cases {n : Nat} : (n = 0 ∧ Output.ofCode n = some .steam) ∨ (n = 1 ∧ Output.ofCode n = some .press)
    ∨ (n = 2 ∧ Output.ofCode n = some .drive) ∨ (2 < n ∧ Output.ofCode n = none) := by
  match n with
  | 0 => exact .inl ⟨rfl, rfl⟩
  | 1 => exact .inr (.inl ⟨rfl, rfl⟩)
  | 2 => exact .inr (.inr (.inl ⟨rfl, rfl⟩))
  | n + 3 => exact .inr (.inr (.inr ⟨by omega, rfl⟩))

section
variable {args : List Byte} {k : Fin 4}

theorem carryForceOutput_args (s : State) (h : args.length ≠ 5) :
    carryForceOutput args s = refuse codeForceOutput .badArgs s := if_pos h

theorem carryForceOutput_absent (s : State) (h5 : args.length = 5) (h : s.headCount ≤ u8 args 0) :
    carryForceOutput args s = refuse codeForceOutput .noSuch s := by
  simp [carryForceOutput, h5, State.headArg_none h]

theorem carryForceOutput_bad (s : State) (h5 : args.length = 5) (hk : s.hasHead k = true) (hn : u8 args 0 = k.val)
    (h : 2 < u8 args 1 ∨ u16 args 3 = 0 ∨ 2000 < u16 args 3) :
    carryForceOutput args s = refuse codeForceOutput .badArgs s := by
  unfold carryForceOutput
  rw [if_neg (not_not_intro h5), State.headArg_some hk hn]
  dsimp only
  split
  · rfl
  · next o ho =>
    have hlow : ¬ 2 < u8 args 1 := by
      rcases @Output.ofCode_cases (u8 args 1) with ⟨h, -⟩ | ⟨h, -⟩ | ⟨h, -⟩ | ⟨-, hnone⟩
      · omega
      · omega
      · omega
      · simp [hnone] at ho
    have hrange : ¬ within 1 longestRun (u16 args 3) = true := by
      rw [within_iff]
      unfold longestRun
      omega
    rw [if_neg hrange]

theorem carryForceOutput_head (s : State) {o : Output} (h5 : args.length = 5) (hk : s.hasHead k = true)
    (hn : u8 args 0 = k.val) (ho : Output.ofCode (u8 args 1) = some o) (h1 : 1 ≤ u16 args 3) (h2 : u16 args 3 ≤ 2000) :
    carryForceOutput args s = tryForced k o (u8 args 2) (u16 args 3) s := by
  have hrange : within 1 longestRun (u16 args 3) = true := (within_iff _ _ _).2 ⟨h1, h2⟩
  unfold carryForceOutput
  rw [if_neg (not_not_intro h5), State.headArg_some hk hn]
  simp only [ho, hrange, if_true]

theorem tryForced_busy (s : State) (o : Output) (duty ms : Nat)
    (h : s.service.forced.isSome = true ∨ (s.engines.get k).inClosure = true) :
    tryForced k o duty ms s = refuse codeForceOutput .busy s := by
  unfold tryForced
  by_cases hforced : s.service.forced.isSome = true
  · rw [if_pos hforced]
  · rw [if_neg hforced, if_pos (h.resolve_left hforced)]

variable (s : State) (hnone : s.service.forced = none) (hclosure : (s.engines.get k).inClosure = false)
include hnone hclosure

theorem tryForced_latched (duty ms : Nat) (h : (s.channels.get k).causes.overcurrent = true) :
    tryForced k .drive duty ms s = refuse codeForceOutput .refusedMode s := by
  unfold tryForced
  rw [if_neg (by simp [hnone]), if_neg (by simp [hclosure]), if_pos ⟨rfl, h⟩]

theorem tryForced_starts (o : Output) (duty ms : Nat)
    (h : o = .drive → (s.channels.get k).causes.overcurrent = false) :
    tryForced k o duty ms s = answer codeForceOutput .ok [] (startForced k o duty ms s) := by
  unfold tryForced
  rw [if_neg (by simp [hnone]), if_neg (by simp [hclosure]), if_neg]
  rintro ⟨ho, hc⟩
  simp [h ho] at hc

end

/-- A comparator already active trips the motor's channel at the start, and the run is over (R124, R131). -/
theorem startForced_comparator {s : State} {k : Fin 4} (duty ms : Nat) (hnone : s.service.forced = none)
    (hoc : (s.pins.heads.get k).oc = true) (hstep : (s.channels.get k).step = .none) :
    startForced k .drive duty ms s = { s with
      engines := if 2 ≤ (s.channels.get k).count
        then s.engines.modify k (fun x => { x with phase := if x.phase = Phase.idle then Phase.out else x.phase })
        else s.engines
      channels := s.channels.modify k (fun x => { x with
        state := .tripped, duty := 0, bridge := .off, causes := { x.causes with overcurrent := true }
        count := min 3 (x.count + 1) }) } := by
  have hservice : { s.service with forced := none } = s.service := by rw [← hnone]
  have hchannels : (s.channels.modify k (fun c => { c with state := .forward, duty := duty })).modify k Channel.overcurrent
      = s.channels.modify k (fun x => { x with
        state := .tripped, duty := 0, bridge := .off, causes := { x.causes with overcurrent := true }
        count := min 3 (x.count + 1) }) := by
    refine Four.ext_get _ _ fun j => ?_
    by_cases hj : j = k
    · subst hj
      simp [Channel.overcurrent, Channel.trip, Channel.stop, Causes.add, hstep]
    · simp only [Four.get_modify_other _ _ hj]
  have hengines : s.engines.modify k Engine.takenOut
      = s.engines.modify k (fun x => { x with phase := if x.phase = Phase.idle then Phase.out else x.phase }) := by
    refine Four.modify_congr _ _ ?_
    unfold Engine.takenOut
    split <;> rfl
  have hforced : State.forcedDrive (modChannel k (fun c => { c with state := .forward, duty := duty })
      { s with service := { s.service with forced := some ⟨k, .drive, duty, msSteps * ms⟩ } }) k = true := by
    simp [State.forcedDrive, modChannel]
  unfold startForced startOutput watchComparator tripOvercurrent
  simp only [modChannel_channels, modChannel_pins, Four.get_modify_same, hoc, if_true, Channel.drivesNow,
    Channel.phaseRuns, hstep, clearForcedDrive, hforced]
  simp only [modChannel, modEngine, hchannels, hservice, hengines]
  by_cases hcount : 2 ≤ (s.channels.get k).count
  · simp [hcount]
  · simp [hcount]

theorem startForced_drive {s : State} {k : Fin 4} (duty ms : Nat) (hoc : (s.pins.heads.get k).oc = false) :
    startForced k .drive duty ms s = { s with
      service := { s.service with forced := some ⟨k, .drive, duty, msSteps * ms⟩ }
      channels := s.channels.modify k (fun x => { x with state := .forward, duty := duty }) } := by
  unfold startForced startOutput watchComparator
  simp only [modChannel_pins, hoc, Bool.false_eq_true, if_false]
  rfl

/-- Settles O44: the request by its checks and the state of its head, and the end by time by its one equation. -/
theorem forcedRunsBeginAndEnd : Obligations.ForcedRunsBeginAndEnd := by
  unfold Obligations.ForcedRunsBeginAndEnd
  refine ⟨fun s args rest h => ?_, fun s r hreset hr => ?_⟩
  · have hs := asked_silenced h
    refine ⟨fun hmode => request_refused h ?_, fun hmode hguard => ?_⟩
    · have hforce : (s.withFrames rest).unit = s.unit ∧ (s.withFrames rest).pins = s.pins := ⟨rfl, rfl⟩
      rcases hmode with hm | hm <;> simp [forceMode, hforce, hm]
    have hallowed : forceMode (s.withFrames rest) = true := by
      have hforce : (s.withFrames rest).unit = s.unit ∧ (s.withFrames rest).pins = s.pins := ⟨rfl, rfl⟩
      simp [forceMode, hforce, hmode, hguard]
    have hserved : exec .forceOutput s = .next (carryForceOutput args (s.withFrames rest)) :=
      request_carried h hallowed
    refine ⟨?_, fun h5 hhead => ?_, fun k h5 hk hn hcode h1 h2 => ?_⟩
    · by_cases h5 : args.length = 5
      · rintro (hne | ⟨k, hk, hn, hbad⟩)
        · exact absurd h5 hne
        · rw [hserved, carryForceOutput_bad (s.withFrames rest) h5 hk hn hbad, refuse_withFrames rest _ _ hs]
          rfl
      · intro _
        rw [hserved, carryForceOutput_args _ h5, refuse_withFrames rest _ _ hs]
        rfl
    · rw [hserved, carryForceOutput_absent (s.withFrames rest) h5 hhead, refuse_withFrames rest _ _ hs]
      rfl
    intro run
    refine ⟨fun hbusy => ?_, fun hnone hclosure => ?_⟩
    · obtain ⟨o, ho⟩ : ∃ o, Output.ofCode (u8 args 1) = some o := by
        rcases @Output.ofCode_cases (u8 args 1) with ⟨-, h⟩ | ⟨-, h⟩ | ⟨-, h⟩ | ⟨h, -⟩
        · exact ⟨_, h⟩
        · exact ⟨_, h⟩
        · exact ⟨_, h⟩
        · omega
      rw [hserved, carryForceOutput_head (s.withFrames rest) h5 hk hn ho h1 h2, tryForced_busy (s.withFrames rest) _ _ _ hbusy,
        refuse_withFrames rest _ _ hs]
      rfl
    · have hcarry (o : Output) (ho : Output.ofCode (u8 args 1) = some o) :=
        hserved.trans (congrArg Host.Outcome.next (carryForceOutput_head (s.withFrames rest) h5 hk hn ho h1 h2))
      have hstarts (u : State) (o : Output) (ho : Output.ofCode (u8 args 1) = some o)
          (hlatch : o = .drive → (s.channels.get k).causes.overcurrent = false) (hu : u.transmit = s.transmit)
          (hstart : startForced k o (u8 args 2) (u16 args 3) (s.withFrames rest) = u.withFrames rest) :
          exec .forceOutput s = .next (u.answered rest [7, 0]) := by
        rw [hcarry o ho, tryForced_starts (s.withFrames rest) hnone hclosure o _ _ hlatch, hstart,
          answer_withFrames rest _ _ _ (by rw [hu]; exact hs)]
        rfl
      refine ⟨fun ho => ?_, fun ho => ?_, fun ho hoc => ?_, fun ho hoc hpin => ?_, fun ho hoc hpin hstep => ?_⟩
      · exact hstarts _ .steam (by rw [ho]; rfl) (by simp) rfl rfl
      · exact hstarts _ .press (by rw [ho]; rfl) (by simp) rfl rfl
      · rw [hcarry .drive (by rw [ho]; rfl), tryForced_latched (s.withFrames rest) hnone hclosure _ _ hoc, refuse_withFrames rest _ _ hs]
        rfl
      · exact hstarts _ .drive (by rw [ho]; rfl) (fun _ => hoc) rfl (startForced_drive _ _ hpin)
      · exact hstarts _ .drive (by rw [ho]; rfl) (fun _ => hoc) rfl (startForced_comparator _ _ hnone hpin hstep)
  · refine ⟨r.left, ?_⟩
    have hleft : (elapse r.left s).service.forced = some { r with left := r.left - r.left } := by
      simp [elapse, hreset, hr]
    rw [exec_forcedRunEnd hreset hr, endForcedRun_eq]
    simp only [State.unforcedEngines, State.unforcedChannels, hleft] <;> rfl

end Sys2Proof.Machine

/-! PROOFS. What time, doubt and an entry to FAULT leave of the station, and the receiver's statements: the bytes of a
frame, the receive errors and the check byte (Chapter 3). -/

namespace Sys2Proof.Machine
open Sys2Proof

/-! ## The ground -/

theorem elapse_ground (n : Nat) (s : State) : (elapse n s).ground = s.ground := by
  unfold elapse; split <;> rfl

/-- What the closures, the draws and the passing of time leave unchanged. -/
structure Steady (s t : State) : Prop where
  unit    : t.unit = s.unit
  view    : t.view = s.view
  ground  : t.ground = s.ground
  receive : t.receive = s.receive

theorem Steady.of_still {s t : State} (h : t.still = s.still) : Steady s t := by
  obtain ⟨-, hunit, hreceive, hview, -⟩ := State.still_fields h
  exact ⟨hunit, hview, State.ground_of_still h, hreceive⟩

theorem Steady.trans {s t u : State} (h : Steady s t) (h' : Steady t u) : Steady s u :=
  ⟨h'.unit.trans h.unit, h'.view.trans h.view, h'.ground.trans h.ground, h'.receive.trans h.receive⟩

theorem elapse_steady (n : Nat) (s : State) : Steady s (elapse n s) :=
  ⟨elapse_unit n s, elapse_view n s, elapse_ground n s, elapse_receive n s⟩

theorem Steady.and {s t : State} (h : Steady s t) :
    t.unit = s.unit ∧ t.view = s.view ∧ t.ground = s.ground ∧ t.receive = s.receive :=
  ⟨h.unit, h.view, h.ground, h.receive⟩

theorem Moves.steady {w : Bool} {s t : State} (h : Moves w s t) : Steady s t := .of_still h.still

theorem Acts.steady {k : Fin 4} {s t : State} (h : Acts k s t) : Steady s t := .of_still h.still

/-- The beginning of doubt changes the view's marks, and in the ground nothing. -/
theorem doubtBegins_ground (s : State) : (doubtBegins s).ground = s.ground := by
  obtain ⟨v, -, hmoves⟩ := moves_doubtBegins s
  exact hmoves.steady.ground

/-! ## Entries to FAULT (R34, R64) -/

/-- An entry to FAULT is no event for the tracker, the receive side, the settings and the pins. -/
theorem enterFault_fields (code : FaultCode) (s : State) : (enterFault code s).tracker = s.tracker
    ∧ (enterFault code s).receive = s.receive ∧ (enterFault code s).settings = s.settings
    ∧ (enterFault code s).pins = s.pins ∧ (enterFault code s).ground = s.ground := by
  by_cases hmode : s.unit.mode = .fault
  · rw [enterFault_in_fault code s hmode]
    exact ⟨rfl, rfl, rfl, rfl, rfl⟩
  · obtain ⟨held, t, n, heq, -⟩ := enterFault_eq code hmode
    have hstill := still_endForcedRun s
    obtain ⟨htracker, -, hreceive, -, hsettings, hpins, -⟩ := State.still_fields hstill
    have hground := State.ground_of_still hstill
    rw [heq]
    exact ⟨htracker, hreceive, hsettings, hpins, hground⟩

theorem enterFault_place (code : FaultCode) {s : State} (h : s.unit.mode ≠ .fault) :
    (enterFault code s).place = s.place := by
  obtain ⟨-, -, hg, hp0, hnode⟩ := enterFault_unit code s h
  simp only [State.place, hg, hp0, hnode]

theorem enterFault_normal (code : FaultCode) {s : State} (h : s.unit.mode ≠ .fault) :
    (enterFault code s).transmit.normal = [] := by
  obtain ⟨held, t, n, heq, hnormal, -⟩ := enterFault_eq code h
  rw [heq]
  exact hnormal

theorem offerFaultHalt_congr (code : FaultCode) {s t : State} (hnode : t.unit.node = s.unit.node)
    (htransmit : t.transmit = s.transmit) :
    (offerFaultHalt code t).transmit = (offerFaultHalt code s).transmit := by
  unfold offerFaultHalt offerHalt
  rw [hnode, htransmit]
  split
  · split
    · exact htransmit
    · simp only [putHalt, htransmit]
  · exact htransmit

/-- The slot at an entry to FAULT other than LINE holds what the offered HALT leaves. -/
theorem enterFault_slot {code : FaultCode} {s : State} (h : s.unit.mode ≠ .fault) (hcode : code ≠ .line) :
    (enterFault code s).transmit.slot = (offerFaultHalt code s).transmit.slot := by
  have hunit : (endForcedRun s).unit = s.unit := (State.still_fields (still_endForcedRun s)).2.1
  have hhalt := @offerFaultHalt_congr code s
    (consulted { endForcedRun s with
      unit := (endForcedRun s).unit.faulted code (heldOf (Config.heldInFault (endForcedRun s).free)) })
    (by rw [← hunit]; rfl) (endForcedRun_transmit s)
  rw [← hhalt]
  unfold enterFault
  rw [if_neg h]
  simp only [faultBlocks, faultLine, if_neg hcode]
  rfl

theorem enterFault_slot_kept {code : FaultCode} {s : State} (h : s.unit.mode ≠ .fault) (hcode : code ≠ .line)
    (hnode : 11 < s.unit.node) : (enterFault code s).transmit.slot = s.transmit.slot := by
  rw [enterFault_slot h hcode, offerFaultHalt, if_neg (by omega)]

theorem enterFault_slot_halt {code : FaultCode} {s : State} (h : s.unit.mode ≠ .fault) (hcode : code ≠ .line)
    (hnode : s.unit.node ≤ 11) (hsilenced : s.transmit.silenced = false) (hslot : s.transmit.slot = none) :
    (enterFault code s).transmit.slot = some ⟨s.unit.node, .halt, [1, byte code.code]⟩ := by
  rw [enterFault_slot h hcode, offerFaultHalt, if_pos ⟨hcode, hnode⟩, offerHalt, if_neg (by simp [hsilenced])]
  simp only [putHalt, hslot]
  rfl

/-! ## The byte on the line (R38, R53) -/

theorem huntByte_eq (b : Byte) (lead stop : Bool) (s : State) : huntByte b lead stop s = { s with
    receive := if lead = true ∧ stop = true
      then { s.receive with receiver := .length b, own := decide (s.transmit.onLine ≠ .none) } else s.receive } := by
  unfold huntByte
  by_cases h : lead = true ∧ stop = true
  · rw [if_pos (by simpa using h), if_pos h]
    rfl
  · rw [if_neg (by simpa using h), if_neg h]

theorem takeByte_in_payload {b l : Byte} {n : Nat} {got : List Byte} (lead stop : Bool) {s : State}
    (h : s.receive.receiver = .payload l n got) :
    takeByte b lead stop s = frameByte b lead stop (takePayload l n got b) (passByte s) := by
  simp only [takeByte, receiverTakes, passByte_receive, h]

theorem takeByte_in_check {b l : Byte} {got : List Byte} (lead stop : Bool) {s : State}
    (h : s.receive.receiver = .check l got) :
    takeByte b lead stop s = frameByte b lead stop (takeCheck l got b) (passByte s) := by
  simp only [takeByte, receiverTakes, passByte_receive, h]

theorem takeByte_in_frame {s : State} (h : s.receive.receiver ≠ .hunt) (b : Byte) :
    ∃ take, ∀ lead stop, takeByte b lead stop s = frameByte b lead stop take (passByte s) := by
  cases hreceiver : s.receive.receiver with
  | hunt => exact absurd hreceiver h
  | length l => exact ⟨_, fun lead stop => takeByte_in_length b l lead stop s hreceiver⟩
  | payload l n got => exact ⟨_, fun lead stop => takeByte_in_payload lead stop hreceiver⟩
  | check l got => exact ⟨_, fun lead stop => takeByte_in_check lead stop hreceiver⟩

/-- Settles O29, by the receiver's state. -/
theorem bytesBuildAFrame : Obligations.BytesBuildAFrame := by
  intro s b hreset
  refine ⟨fun hline => if_neg hline, fun hline => ?_, fun hhunt lead stop => ?_, fun l hl hb => ?_,
    fun l n got hp => ?_⟩
  · refine ⟨s.transmit.byteGone, s.transmit.byteSteps, if_pos hline, ?_, ?_⟩
    · unfold Transmit.byteGone
      cases s.transmit.byte <;> rfl
    · unfold Transmit.byteSteps ceilDiv byteTime
      omega
  · rw [exec_byteTaken b lead stop s hreset, takeByte_in_hunt b lead stop s hhunt, huntByte_eq]
    simp only [passByte_receive, passByte_onLine]
  · rw [exec_byteTaken b false true s hreset, takeByte_in_length b l false true s hl, frameByte_whole, takeLength,
      if_neg (by simpa [longestPayload] using hb), passByte_receive]
    have hzero : b = 0 ↔ b.toNat = 0 := by bv_omega
    simp only [afterLength, hzero]
  · rw [exec_byteTaken b false true s hreset, takeByte_in_payload false true hp, frameByte_whole, takePayload,
      passByte_receive]
    simp only [afterPayload, List.length_append, List.length_singleton]

/-! ## Receive errors (R55 to R58) -/

/-- A receive error counts, begins doubt where the view is kept, and changes nothing more that the statements name. -/
theorem receiveError_fields (k : ReceiveError) (s : State) :
    (receiveError k s).view = (if s.unit.mode.keepsView then { s.view with doubt := true, clean := 0 } else s.view)
    ∧ (receiveError k s).unit = s.unit ∧ (receiveError k s).tracker = s.tracker
    ∧ (receiveError k s).ground = s.ground := by
  obtain ⟨htracker, hunit, -⟩ :=
    doubtBegins_fields { s with receive := { s.receive with errors := s.receive.errors.count k } }
  exact ⟨doubtBegins_view _, hunit, htracker, doubtBegins_ground _⟩

theorem passByte_ground (s : State) : (passByte s).ground = s.ground := by
  unfold passByte
  split
  · exact elapse_ground _ s
  · rfl

/-- The receive error of a byte, as the statements give it: counted, and doubt where the view is kept. -/
theorem byteError_fields (k : ReceiveError) {s x : State} (hunit : x.unit = s.unit) (hview : x.view = s.view)
    (htracker : x.tracker = (passByte s).tracker) (hground : x.ground = s.ground) :
    (receiveError k x).view = (if s.unit.mode.keepsView then { s.view with doubt := true, clean := 0 } else s.view)
    ∧ (receiveError k x).unit = s.unit ∧ (receiveError k x).tracker = (passByte s).tracker
    ∧ (receiveError k x).ground = s.ground := by
  have h := receiveError_fields k x
  rw [hunit, hview, htracker, hground] at h
  exact h

theorem Receiver.inFrame_of_ne {x : Receiver} (h : x ≠ .hunt) : x.inFrame = true := by
  cases x with
  | hunt => exact absurd rfl h
  | length l => rfl
  | payload l n got => rfl
  | check l got => rfl

/-- A row that names what one byte brings about is that byte, where its condition holds. -/
theorem byteRow_next {c : State → Bool} {s : State} (hreset : s.inReset = none) (hc : c s = true) (b : Byte)
    (lead stop : Bool) :
    Host.Outcome.next (unlessReset (whenever c (takeByte b lead stop)) s)
      = (.next (takeByte b lead stop s) : Answer) := by
  rw [unlessReset_out _ s hreset, whenever_true _ _ s hc]

/-- Settles O30: each error's byte, and the count and the doubt that `receiveError` gives. -/
theorem receiveErrorsAreCounted : Obligations.ReceiveErrorsAreCounted := by
  intro s b lead hreset hframe errors same
  have hin : s.receive.receiver.inFrame = true := Receiver.inFrame_of_ne hframe
  obtain ⟨take, htake⟩ := takeByte_in_frame hframe b
  refine ⟨?_, ?_, fun l hl hb => ?_⟩
  · refine ⟨takeByte b lead false s, byteRow_next hreset hin b lead false, exec_byteTaken b lead false s hreset, ?_⟩
    rw [htake]
    exact ⟨by simp [frameByte, endFrame, Errors.count, countUp, errors], byteError_fields .framing (passByte_unit s)
      (passByte_view s) rfl (passByte_ground s)⟩
  · refine ⟨takeByte b true true s, byteRow_next hreset hin b true true, exec_byteTaken b true true s hreset, ?_⟩
    rw [htake]
    exact ⟨by simp [frameByte, beginFrame, Errors.count, countUp, errors], byteError_fields .truncated
      (passByte_unit s) (passByte_view s) rfl (passByte_ground s)⟩
  · have hlong : (s.receive.receiver.inLength && decide (longestPayload < b.toNat)) = true := by
      simp [hl, Receiver.inLength, longestPayload, hb]
    refine ⟨takeByte b false true s, byteRow_next hreset hlong b false true,
      exec_byteTaken b false true s hreset, takeByte_length_above_receive b l s hl hb, ?_⟩
    rw [takeByte_in_length b l false true s hl, frameByte_whole, takeLength_above l b _ hb]
    exact byteError_fields .length (passByte_unit s) (passByte_view s) rfl (passByte_ground s)

/-! ## The check byte (R43, R54, R59, R61) -/

theorem Kind.ofCode_other {n : Nat} (h : 9 ≤ n) : Kind.ofCode n = .other n := by
  obtain ⟨m, rfl⟩ := Nat.exists_eq_add_of_le' h
  rfl

theorem cases_below_nine {n : Nat} (h : n < 9) :
    n = 0 ∨ n = 1 ∨ n = 2 ∨ n = 3 ∨ n = 4 ∨ n = 5 ∨ n = 6 ∨ n = 7 ∨ n = 8 := by omega

/-- The table of R59, by the node and the kind of the lead byte. -/
theorem passesScreening_false_iff (s : State) {node n : Nat} (hnode : node ≤ 15) (got : List Byte) :
    s.passesScreening ⟨node, Kind.ofCode n, got⟩ = false
      ↔ node = 15 ∨ 9 ≤ n ∨ (n = 0 ∧ 12 ≤ node) ∨ (n = 1 ∧ node ≠ 13) ∨ n = 4 ∨ n = 8
        ∨ (n = 7 ∧ (node ≠ 12 ∨ got.length < 2 ∨ u8 got 0 ≠ s.unit.node ∨ s.transmit.silenced = true)) := by
  by_cases hn : 9 ≤ n
  · simp [State.passesScreening, Kind.ofCode_other hn, hn]
  · have h9 : n < 9 := by omega
    rcases cases_below_nine h9 with rfl | rfl | rfl | rfl | rfl | rfl | rfl | rfl | rfl
    all_goals simp [State.passesScreening, Kind.ofCode, ← Bool.not_eq_true, within_iff]
    all_goals grind

/-- What the slot holds after the comparison with a received frame (R43). -/
def meetSlot (slot : Option Frame) (n : Nat) (got : List Byte) : Option Frame :=
  match slot with
  | some q => if (n = 5 ∧ got.length = 2 ∧ (u8 got 0 = 1 ∨ u8 got 0 = 2)) ∧ q.severity ≤ u8 got 0 then none else some q
  | none => none

theorem Kind.ofCode_eq_halt {n : Nat} (h : n < 16) : Kind.ofCode n = .halt ↔ n = 5 := by
  by_cases hn : 9 ≤ n
  · rw [Kind.ofCode_other hn]
    simp only [reduceCtorEq, false_iff]
    omega
  · have h9 : n < 9 := by omega
    rcases cases_below_nine h9 with rfl | rfl | rfl | rfl | rfl | rfl | rfl | rfl | rfl <;> simp [Kind.ofCode]

theorem isGoodHalt_iff (node : Nat) {n : Nat} (h : n < 16) (got : List Byte) :
    (⟨node, Kind.ofCode n, got⟩ : Frame).isGoodHalt = true
      ↔ n = 5 ∧ got.length = 2 ∧ (u8 got 0 = 1 ∨ u8 got 0 = 2) := by
  simp only [Frame.isGoodHalt, Kind.ofCode_eq_halt h, Bool.and_eq_true, Bool.or_eq_true, decide_eq_true_eq, and_assoc]
  exact Iff.rfl

theorem State.with_slot {s : State} {x : Option Frame} (h : x = s.transmit.slot) :
    { s with transmit := { s.transmit with slot := x } } = s := by rw [h]

theorem meetHalt_eq (node : Nat) {n : Nat} (h : n < 16) (got : List Byte) (s : State) :
    meetHalt ⟨node, Kind.ofCode n, got⟩ s
      = { s with transmit := { s.transmit with slot := meetSlot s.transmit.slot n got } } := by
  unfold meetHalt meetSlot
  by_cases hmeets : n = 5 ∧ got.length = 2 ∧ (u8 got 0 = 1 ∨ u8 got 0 = 2)
  · rw [if_pos ((isGoodHalt_iff node h got).2 hmeets), compareHalt]
    cases s.transmit.slot with
    | none => rfl
    | some q => simp only [hmeets, true_and, Frame.severity]; rfl
  · rw [if_neg (mt (isGoodHalt_iff node h got).1 hmeets), State.with_slot]
    cases s.transmit.slot <;> simp only [hmeets, false_and, if_false]

/-- A good frame of another node by the screening and the room of the receive queue. -/
theorem takeFrame_eq (node : Nat) {n : Nat} (hn : n < 16) (got : List Byte) (s : State) :
    takeFrame ⟨node, Kind.ofCode n, got⟩ s
      = if s.passesScreening ⟨node, Kind.ofCode n, got⟩
        then queueFrame ⟨node, Kind.ofCode n, got⟩ { s with
          transmit := { s.transmit with slot := meetSlot s.transmit.slot n got } }
        else { s with transmit := { s.transmit with slot := meetSlot s.transmit.slot n got } } := by
  rw [takeFrame, meetHalt_eq node hn got s]
  rfl

theorem doubtBegins_slot (s : State) : (doubtBegins s).transmit.slot = s.transmit.slot := by
  obtain ⟨v, -, hmoves⟩ := moves_doubtBegins s
  exact congrArg Still.slot hmoves.still

theorem exec_frameComplete {s : State} {l : Byte} {got : List Byte} (hreset : s.inReset = none)
    (hcheck : s.receive.receiver = .check l got) (b : Byte) :
    exec (.frameComplete b) s = .next (takeCheck l got b (passByte s)) := by
  have hin : s.receive.receiver.inCheck = true := by rw [hcheck]; rfl
  have hrow : exec (.frameComplete b) s = .next (takeByte b false true s) :=
    byteRow_next hreset hin b false true
  rw [hrow, takeByte_in_check false true hcheck, frameByte_whole]

theorem takeCheck_foreign {s : State} {l b : Byte} {got : List Byte}
    (hgood : sumBytes ([l, byte got.length] ++ got ++ [b]) = 0) (hown : s.receive.own = false) :
    takeCheck l got b s = takeFrame (frameOf l got) (endFrame s) := by
  exact (if_pos hgood).trans (if_neg (by simp [hown]))

/-- Settles O32, by the sum, the frame's owner, the screening and the room of the queue. -/
theorem frameCompletes : Obligations.FrameCompletes := by
  intro s l b got hreset hcheck node kind drops good meets slot view
  have hnode : node ≤ 15 := by have := l.isLt; omega
  have hkind : kind < 16 := Nat.mod_lt _ (by omega)
  have hscreen : (passByte s).passesScreening ⟨node, Kind.ofCode kind, got⟩ = false ↔ drops := by
    have hsilenced : (passByte s).transmit.silenced = s.transmit.silenced := by
      rcases passByte_cases s with ⟨-, h⟩ | ⟨-, h⟩ <;> rw [h]
    have h := @passesScreening_false_iff (passByte s) node kind hnode got
    rw [passByte_unit, hsilenced] at h
    exact h
  have hslot : meetSlot (passByte s).transmit.slot kind got = slot := by rw [passByte_slot]; rfl
  have hforeign (hgood : good) (hown : s.receive.own = false) : exec (.frameComplete b) s
      = .next (takeFrame ⟨node, Kind.ofCode kind, got⟩ (endFrame (passByte s))) := by
    rw [exec_frameComplete hreset hcheck, takeCheck_foreign hgood (by rw [passByte_receive]; exact hown)]
    rfl
  refine ⟨fun hbad => ?_, fun hgood hown => ?_, fun hgood hown hdrops => ?_, fun hgood hown hpass hroom => ?_,
    fun hgood hown hpass hfull => ?_⟩
  · have herror : takeCheck l got b (passByte s) = receiveError .check (endFrame (passByte s)) := if_neg hbad
    obtain ⟨hview, hunit, -, hground⟩ :=
      @byteError_fields .check s (endFrame (passByte s)) (passByte_unit s) (passByte_view s) rfl (passByte_ground s)
    refine ⟨_, exec_frameComplete hreset hcheck b, ?_, ?_⟩
    · simp [herror, endFrame, Errors.count, countUp]
    · rw [herror]
      exact ⟨hview, hunit, hground⟩
  · have hdropped : takeCheck l got b (passByte s) = endFrame (passByte s) :=
      (if_pos hgood).trans (if_pos (by rw [passByte_receive]; exact hown))
    rw [exec_frameComplete hreset hcheck, hdropped, endFrame, passByte_receive]
  · have hfalse : (endFrame (passByte s)).passesScreening ⟨node, Kind.ofCode kind, got⟩ = false := hscreen.2 hdrops
    rw [hforeign hgood hown, takeFrame_eq node hkind, if_neg (by simp [hfalse])]
    simp only [endFrame, hslot, passByte_receive]
  all_goals have htrue : (endFrame (passByte s)).passesScreening ⟨node, Kind.ofCode kind, got⟩ = true :=
    Bool.of_not_eq_false (mt hscreen.1 hpass)
  · rw [hforeign hgood hown, takeFrame_eq node hkind, if_pos htrue, queueFrame,
      if_pos (by simpa [endFrame, receiveBound] using hroom)]
    simp only [endFrame, hslot, passByte_receive]
  · have hover : takeFrame ⟨node, Kind.ofCode kind, got⟩ (endFrame (passByte s))
        = receiveError .overrun { endFrame (passByte s) with
          transmit := { (passByte s).transmit with slot := slot } } := by
      rw [takeFrame_eq node hkind, if_pos htrue, queueFrame,
        if_neg (by simpa [endFrame, receiveBound] using hfull), ← hslot]
      rfl
    obtain ⟨hview, hunit, -, hground⟩ := @byteError_fields .overrun s
      { endFrame (passByte s) with transmit := { (passByte s).transmit with slot := slot } }
      (passByte_unit s) (passByte_view s) rfl (passByte_ground s)
    refine ⟨_, hforeign hgood hown, ?_⟩
    rw [hover]
    exact ⟨by simp [endFrame, Errors.count, countUp], doubtBegins_slot _, hview, hunit, hground⟩

end Sys2Proof.Machine

/-! PROOFS. The transmitter's statements: the start of a frame after its gap, the sent reports, collisions, and the
RESTART whose answer has been sent (Chapter 3, 2.9). -/

namespace Sys2Proof.Machine
open Sys2Proof

/-! ## The line as time passes (R38, R46) -/

theorem elapse_sends (n : Nat) {s : State} (hreset : s.inReset = none) (h : s.transmit.onLine ≠ .none) :
    (elapse n s).transmit = { s.transmit with bits := s.transmit.bits + 5 * n } := by
  simp [elapse, hreset, Transmit.elapse, h]

theorem elapse_waits (n : Nat) {s : State} (hreset : s.inReset = none) (h : s.transmit.onLine = .none)
    (hbyte : s.transmit.byte = none) :
    (elapse n s).transmit = { s.transmit with idle := s.transmit.idle + 5 * n } := by
  simp [elapse, hreset, Transmit.elapse, h, hbyte]

theorem elapse_free (n : Nat) (s : State) : (elapse n s).free = s.free := by
  unfold elapse; split <;> rfl

theorem elapse_service (n : Nat) (s : State) : (elapse n s).service.request = s.service.request := by
  unfold elapse; split <;> rfl

theorem elapse_announce (n : Nat) (s : State) : (elapse n s).announce = s.announce := by
  unfold elapse; split <;> rfl

theorem elapse_profileField {α : Nat} (s : State) (f : Profile → Nat) :
    (elapse α s).profileField f = s.profileField f := by
  obtain ⟨hgood, hprofile, -⟩ := elapse_profile α s
  simp only [State.profileField, hgood, hprofile]

theorem elapse_pocketCount (n : Nat) (s : State) : (elapse n s).pocketCount = s.pocketCount := elapse_profileField s _

/-! ## The start of a frame (R41, R46) -/

theorem Frame.gap_eq (f : Frame) : f.gap = if f.kind = .halt then 12 else 14 + 2 * f.source := by
  unfold Frame.gap
  split
  · next h => rw [if_pos h]
  · next h => rw [if_neg h]

/-- The least whole number of steps that brings a count to its goal. -/
theorem ceilDiv_steps (goal have_ : Nat) : goal ≤ have_ + 5 * ceilDiv (goal - have_) 5
    ∧ (ceilDiv (goal - have_) 5 = 0 ∨ have_ + 5 * (ceilDiv (goal - have_) 5 - 1) < goal) := by
  unfold ceilDiv
  omega

theorem exec_transmissionStart {s : State} (hreset : s.inReset = none) :
    exec .transmissionStart s = .next (whenever State.mayBegin beginFrameOut s) := by
  have harm : exec .transmissionStart s = execTransmissionStart s := rfl
  rw [harm, execTransmissionStart, unlessReset_out _ s hreset]

/-- A station that may begin sends its next frame once the gap of that frame has passed. -/
theorem beginFrameOut_eq {s : State} {f : Frame} (hreset : s.inReset = none) (hline : s.transmit.onLine = .none)
    (hbyte : s.transmit.byte = none) (hnext : s.transmit.next = some f) :
    beginFrameOut s = { elapse (ceilDiv (f.gap - s.transmit.idle) 5) s with
      transmit := { s.transmit with
        idle := s.transmit.idle + 5 * ceilDiv (f.gap - s.transmit.idle) 5 }.begin } := by
  have hwait : waitGap s = elapse (ceilDiv (f.gap - s.transmit.idle) 5) s := by
    simp [waitGap, hnext, elapseBits]
  rw [beginFrameOut, hwait, elapse_waits _ hreset hline hbyte]

/-- Settles O33: the gap of the next frame, and the conditions without which nothing begins. -/
theorem transmissionStartsAfterItsGap : Obligations.TransmissionStartsAfterItsGap := by
  intro s hreset sent
  have hsent {f : Frame} {slot : Option Frame} {on : OnLine} (hline : s.transmit.onLine = .none)
      (hbyte : s.transmit.byte = none) (hnext : s.transmit.next = some f)
      (hbegin : ∀ i, { s.transmit with idle := i }.begin
        = { s.transmit with idle := i, slot := slot, onLine := on, bits := 0 }) :
      sent f (beginFrameOut s) slot on := by
    obtain ⟨hreached, hleast⟩ := ceilDiv_steps f.gap s.transmit.idle
    refine ⟨ceilDiv (f.gap - s.transmit.idle) 5, ?_, ?_, ?_⟩
    · rw [← Frame.gap_eq]
      exact hreached
    · rw [← Frame.gap_eq]
      exact hleast
    · rw [beginFrameOut_eq hreset hline hbyte hnext, hbegin]
  refine ⟨fun hsilenced hline hbyte hqueue => ⟨fun f hslot => ?_, fun x rest hslot hnormal => ?_⟩, fun h => ?_⟩
  · have hnext : s.transmit.next = some f := by rw [Transmit.next, hslot]
    have hmay : s.mayBegin = true := by simp [State.mayBegin, hsilenced, hline, hbyte, hqueue, hnext]
    refine ⟨_, ?_, hsent hline hbyte hnext fun i => ?_⟩
    · rw [exec_transmissionStart hreset, whenever_true _ _ s hmay]
    · simp only [Transmit.begin, hslot]
  · have hnext : s.transmit.next = some x.frame := by rw [Transmit.next, hslot, hnormal]; rfl
    have hmay : s.mayBegin = true := by simp [State.mayBegin, hsilenced, hline, hbyte, hqueue, hnext]
    refine ⟨_, ?_, hsent hline hbyte hnext fun i => ?_⟩
    · rw [exec_transmissionStart hreset, whenever_true _ _ s hmay]
    · simp only [Transmit.begin, hslot]
  · have hmay : s.mayBegin = false := by
      rcases h with h | h | h | h | ⟨h, h'⟩
      · simp [State.mayBegin, h]
      · simp [State.mayBegin, h]
      · simp [State.mayBegin, h]
      · simp [State.mayBegin, h]
      · simp [State.mayBegin, Transmit.next, h, h']
    rw [exec_transmissionStart hreset, whenever_false _ _ s hmay]

/-! ## The sent reports (R45, R52) -/

/-- Moves without withdrawals only append to the normal part. -/
theorem Move.queue_grows {s t : State} (h : Move false s t) : s.transmit.normal <+: t.transmit.normal := by
  cases h with
  | consult | refuse | position | reannounce | queued | waiting | closed => exact List.prefix_refl _
  | offer | grant => exact List.prefix_append _ _
  | withdraw _ hw => exact absurd hw Bool.false_ne_true

theorem Moves.queue_grows {s t : State} (h : Moves false s t) : s.transmit.normal <+: t.transmit.normal := by
  induction h with
  | refl => exact List.prefix_refl _
  | tail _ hmove ih => exact ih.trans hmove.queue_grows

/-- A POSITION frame that does not wait is not offered by a queue removal. -/
theorem Moves.stage {w : Bool} {s t : State} (h : Moves w s t) {st : AnnounceStage} (hst : st ≠ .waiting)
    (hs : s.announce.stage = st) : t.announce.stage = st := by
  refine @Moves.preserve w (fun u => u.announce.stage = st) (fun x y hmove hx => ?_) s t h hs
  cases hmove with
  | position _ _ hwaits => exact absurd (hx.symm.trans hwaits) hst
  | consult | refuse | reannounce | offer | queued | waiting | closed | grant | withdraw => exact hx

/-- No queue removal begins the listening. -/
theorem Moves.listening {w : Bool} {s t : State} (h : Moves w s t) :
    t.announce.stage = .listening ↔ s.announce.stage = .listening := by
  refine @Moves.preserve w (fun u => u.announce.stage = .listening ↔ s.announce.stage = .listening)
    (fun x y hmove hx => ?_) s t h Iff.rfl
  cases hmove with
  | position _ hst hwaits =>
    have hnot : ¬s.announce.stage = .listening := fun hs => by
      have := hx.2 hs
      simp [hwaits] at this
    exact iff_of_false hst hnot
  | consult | refuse | reannounce | offer | queued | waiting | closed | grant | withdraw => exact hx

/-- A re-announcement that is not pending is not offered by a queue removal. -/
theorem Moves.reannounce {w : Bool} {s t : State} (h : Moves w s t) (hs : s.announce.rePending = false) :
    t.announce.rePending = false ∧ t.announce.reQueued = s.announce.reQueued := by
  refine @Moves.preserve w
    (fun u => u.announce.rePending = false ∧ u.announce.reQueued = s.announce.reQueued) (fun x y hmove hx => ?_) s t h
    ⟨hs, rfl⟩
  cases hmove with
  | reannounce _ _ hwaits => exact absurd (hx.1.symm.trans hwaits) Bool.false_ne_true
  | consult | refuse | position | offer | queued | waiting | closed | grant | withdraw => exact hx

theorem exec_transmissionComplete {s : State} (hreset : s.inReset = none) (hline : s.transmit.onLine ≠ .none) :
    ∃ n, exec .transmissionComplete s = .next (frameSent (elapse n s)) := by
  have harm : exec .transmissionComplete s = execTransmissionComplete s := rfl
  rw [harm, execTransmissionComplete, unlessReset_out _ s hreset, whenever_true _ _ s (by simpa using hline)]
  exact ⟨_, rfl⟩

/-- A normal frame reported sent: the report on the state without it, and the queue removal. -/
theorem exec_normalSent {s : State} {x : TxFrame} {rest : List TxFrame} (hreset : s.inReset = none)
    (hline : s.transmit.onLine = .normal) (hnormal : s.transmit.normal = x :: rest) (hkind : x.frame.kind ≠ .answer) :
    ∃ n, exec .transmissionComplete s = .next (queueRemoval (sentReport x (dropHead (offLine none (elapse n s)))))
      ∧ Steady s (dropHead (offLine none (elapse n s)))
      ∧ (dropHead (offLine none (elapse n s))).transmit.normal = rest := by
  obtain ⟨n, hexec⟩ := exec_transmissionComplete hreset (by rw [hline]; decide)
  have hrestarts : (elapse n s).restarts x.frame = false := by simp [State.restarts, hkind]
  have hsteady := elapse_steady n s
  refine ⟨n, ?_, ⟨hsteady.unit, hsteady.view, hsteady.ground, hsteady.receive⟩, ?_⟩
  · rw [hexec, frameSent, elapse_sends n hreset (by rw [hline]; decide), hline, hnormal]
    simp only [normalSent, hrestarts]
    rfl
  · simp [dropHead, offLine, elapse_normal, hnormal]

/-- Settles O34: the report of each kind, which the queue removal that follows leaves. -/
theorem sentFramesAreReported : Obligations.SentFramesAreReported := by
  intro s hreset
  refine ⟨fun f hline => ?_, fun x rest hline hnormal => ⟨fun hkind hmode => ?_, fun hkind hmode hqueued hpending => ?_,
    fun k hkind hdelivery hticket => ?_⟩⟩
  · obtain ⟨n, hexec⟩ := exec_transmissionComplete hreset (by rw [hline]; exact OnLine.noConfusion)
    refine ⟨n, ?_⟩
    rw [hexec, frameSent, elapse_sends n hreset (by rw [hline]; exact OnLine.noConfusion), hline]
    simp only [offLine, elapse_sends n hreset (by rw [hline]; exact OnLine.noConfusion)]
  · obtain ⟨n, hexec, hsteady, hrest⟩ := exec_normalSent hreset hline hnormal (by rw [hkind]; decide)
    have hreport : sentReport x (dropHead (offLine none (elapse n s)))
        = { dropHead (offLine none (elapse n s)) with
          announce := { (elapse n s).announce with stage := .listening }
          unit := { s.unit with listen := 0 } } := by
      rw [sentReport, hkind]
      exact (if_pos (hsteady.unit ▸ hmode)).trans (by rw [← hsteady.unit]; rfl)
    rw [hreport] at hexec
    have hmoves := @moves_queueRemoval false { dropHead (offLine none (elapse n s)) with
      announce := { (elapse n s).announce with stage := .listening }, unit := { s.unit with listen := 0 } }
    have hafter := hmoves.steady
    exact ⟨_, hexec, hmoves.stage (by decide) rfl, hafter.unit, hrest ▸ hmoves.queue_grows,
      congrArg Still.onLine hmoves.still, hafter.ground.trans hsteady.ground, hafter.receive.trans hsteady.receive,
      hafter.view.trans hsteady.view⟩
  · obtain ⟨n, hexec, hsteady, hrest⟩ := exec_normalSent hreset hline hnormal (by rw [hkind]; decide)
    have hannounce : s.unit.mode ≠ .announce := fun h => by simp [h, Mode.running] at hmode
    have hreport : sentReport x (dropHead (offLine none (elapse n s)))
        = { dropHead (offLine none (elapse n s)) with
          announce := { s.announce with reQueued := false }
          unit := { s.unit with holdOff := s.pocketCount } } := by
      have hP : (dropHead (offLine none (elapse n s))).pocketCount = s.pocketCount := elapse_pocketCount n s
      have hA : (dropHead (offLine none (elapse n s))).announce = s.announce := elapse_announce n s
      rw [sentReport, hkind]
      refine (if_neg (hsteady.unit ▸ hannounce)).trans ((if_pos (by rw [hA]; exact hqueued)).trans ?_)
      rw [hP, hA, hsteady.unit]
    rw [hreport] at hexec
    have hmoves := @moves_queueRemoval false { dropHead (offLine none (elapse n s)) with
      announce := { s.announce with reQueued := false }, unit := { s.unit with holdOff := s.pocketCount } }
    have hafter := hmoves.steady
    exact ⟨_, hexec, (hmoves.reannounce hpending).2, hafter.unit, hrest ▸ hmoves.queue_grows,
      congrArg Still.onLine hmoves.still, hafter.ground.trans hsteady.ground, hafter.receive.trans hsteady.receive,
      hafter.view.trans hsteady.view⟩
  · obtain ⟨n, hexec, hsteady, hrest⟩ := exec_normalSent hreset hline hnormal (by rw [hkind]; decide)
    have hreport : sentReport x (dropHead (offLine none (elapse n s)))
        = sentVerdict x.ticket (dropHead (offLine none (elapse n s))) := by rw [sentReport, hkind]
    rw [hreport] at hexec
    have hmoves := @moves_queueRemoval false (sentVerdict x.ticket (dropHead (offLine none (elapse n s))))
    have hafter := hmoves.steady
    have hslot : (sentVerdict x.ticket (dropHead (offLine none (elapse n s)))).slots.get k
        = { s.slots.get k with record := { (s.slots.get k).record with delivery := .sent, verdictPending := false } } := by
      simp [sentVerdict, elapse_slots, Slot.onRecord, Record.verdictSent, hdelivery, hticket]
    refine ⟨_, hexec, ?_, hrest ▸ hmoves.queue_grows, congrArg Still.onLine hmoves.still,
      hafter.unit.trans hsteady.unit, hafter.ground.trans hsteady.ground, hafter.receive.trans hsteady.receive,
      hafter.view.trans hsteady.view⟩
    rw [hmoves.backdrop.recorded k (by rw [hslot]; exact Delivery.noConfusion), hslot]

/-! ## The RESTART that has been answered (R190) -/

/-- Settles O5: the reset blocks, and GUARD open taken as an opening. -/
theorem sentRestartAnswerRestarts : Obligations.SentRestartAnswerRestarts := by
  intro s x rest hreset hline hnormal hkind hpayload hrequest
  obtain ⟨n, hexec⟩ := exec_transmissionComplete hreset (by rw [hline]; decide)
  have hrestarts : (elapse n s).restarts x.frame = true := by
    simp [State.restarts, hkind, hpayload, restartOk, elapse_service, hrequest]
  have hreset' : frameSent (elapse n s) = restartReset (elapse n s) := by
    rw [frameSent, elapse_sends n hreset (by rw [hline]; decide), hline, hnormal]
    exact if_pos hrestarts
  have hblocks : resetBlocks .restart (elapse n s).unit.fault (elapse n s) = resetBlocks .restart s.unit.fault s := by
    simp only [resetBlocks, elapse_unit, elapse_store, elapse_pins, elapse_pending, elapse_free]
  rw [hexec, hreset', restartReset, hblocks, guardAtStart]
  by_cases hguard : s.pins.guardOpen = true
  · rw [if_pos (by exact hguard)]
    simp only [resetBlocks, hguard, if_true]
    rfl
  · rw [if_neg (by exact hguard)]
    simp only [resetBlocks, hguard]
    rfl

end Sys2Proof.Machine

/-! PROOFS. Collisions, by what was being sent (R47 to R51), and the PWM period (R110). -/

namespace Sys2Proof.Machine
open Sys2Proof

/-! ## Collisions (R47) -/

theorem enterFault_line_silent {s : State} (h : s.unit.mode ≠ .fault) :
    (enterFault .line s).transmit.silent = true := by
  unfold enterFault
  rw [if_neg h]
  exact Transmit.silence_silent _

/-- The state once the bits up to the collision have gone out and nothing more is sent. -/
def State.cutOff (bit n : Nat) (s : State) : State := { elapse n s with
  receive := { s.receive with own := false }
  transmit := { s.transmit with
    onLine := .none, bits := 0, idle := 0, byte := some (s.transmit.bits + 5 * n - 11 * (bit / 11)) } }

theorem cutOff_steady (bit n : Nat) (s : State) : (s.cutOff bit n).unit = s.unit ∧ (s.cutOff bit n).view = s.view
    ∧ (s.cutOff bit n).ground = s.ground ∧ (s.cutOff bit n).place = s.place := by
  have hsteady := elapse_steady n s
  exact ⟨hsteady.unit, hsteady.view, hsteady.ground, congrArg (fun u : ModeUnit => (u.g, u.p0, u.node)) hsteady.unit⟩

/-- Nothing more is sent, and the line goes on with the prevailing byte. -/
theorem cutOff_eq (bit n : Nat) {s : State} (hreset : s.inReset = none) (hline : s.transmit.onLine ≠ .none) :
    offLine (some ((disown (elapse n s)).transmit.bits - byteTime * (bit / byteTime))) (disown (elapse n s))
      = s.cutOff bit n := by
  simp only [offLine, disown, State.cutOff, elapse_receive, elapse_sends _ hreset hline, byteTime]

theorem exec_collision {s : State} {f : Frame} {bit : Nat} (hreset : s.inReset = none)
    (hsending : s.transmit.sending = some f) (hbit : f.bits[bit]? = some true) :
    ∃ n, exec (.collision bit) s = .next (frameCollided bit (disown (elapse n s))) := by
  have hsends : s.sendsOne bit = true := by simp [State.sendsOne, hsending, hbit]
  have harm : exec (.collision bit) s = execCollision bit s := rfl
  rw [harm, execCollision, unlessReset_out _ s hreset, whenever_true _ _ s hsends]
  exact ⟨_, rfl⟩

theorem exec_haltCollision {s : State} {f : Frame} {bit : Nat} (hreset : s.inReset = none)
    (hline : s.transmit.onLine = .halt f) (hbit : f.bits[bit]? = some true) :
    ∃ n, exec (.collision bit) s = .next (returnHalt f (s.cutOff bit n)) := by
  have hsends : s.transmit.onLine ≠ .none := by rw [hline]; exact OnLine.noConfusion
  obtain ⟨n, hexec⟩ := exec_collision hreset (by simp [Transmit.sending, hline]) hbit
  have hline' : (disown (elapse n s)).transmit.onLine = .halt f := (elapse_transmit n s).2.2.1.trans hline
  refine ⟨n, hexec.trans (congrArg Host.Outcome.next ?_)⟩
  rw [← cutOff_eq bit n hreset hsends, frameCollided, hline']

theorem exec_normalCollision {s : State} {x : TxFrame} {rest : List TxFrame} {bit : Nat} (hreset : s.inReset = none)
    (hline : s.transmit.onLine = .normal) (hnormal : s.transmit.normal = x :: rest)
    (hbit : x.frame.bits[bit]? = some true) :
    ∃ n, exec (.collision bit) s = .next (normalCollision x (s.cutOff bit n)) := by
  have hsends : s.transmit.onLine ≠ .none := by rw [hline]; decide
  obtain ⟨n, hexec⟩ := exec_collision hreset (by simp [Transmit.sending, hline, hnormal]) hbit
  have hline' : (disown (elapse n s)).transmit.onLine = .normal := (elapse_transmit n s).2.2.1.trans hline
  have hnormal' : (disown (elapse n s)).transmit.normal = x :: rest := (elapse_normal n s).trans hnormal
  refine ⟨n, hexec.trans (congrArg Host.Outcome.next ?_)⟩
  rw [← cutOff_eq bit n hreset hsends, frameCollided, hline', hnormal']

theorem normalCollision_counted {x : TxFrame} {s : State} (h : x.frame.kind ≠ .position) :
    normalCollision x s = countedCollision x s := by
  unfold normalCollision
  split
  · next hk _ => exact absurd hk h
  · next hk _ => exact absurd hk h
  · next hk _ => exact absurd hk h
  · next hk _ => exact absurd hk h
  · rfl

/-- The fault LINE, entered or found in FAULT: silence, with place and ground kept. -/
theorem faultOfLine_fields (s : State) : (faultOfLine s).unit.mode = .fault ∧ (faultOfLine s).unit.fault = .line
    ∧ (faultOfLine s).transmit.silent = true ∧ (faultOfLine s).place = s.place
    ∧ (faultOfLine s).receive = s.receive ∧ (faultOfLine s).ground = s.ground := by
  unfold faultOfLine
  by_cases hmode : s.unit.mode = .fault
  · rw [if_pos hmode]
    exact ⟨hmode, rfl, Transmit.silence_silent _, rfl, rfl, rfl⟩
  · rw [if_neg hmode]
    obtain ⟨hm, hf, -⟩ := enterFault_unit .line s hmode
    obtain ⟨-, hreceive, -, -, hground⟩ := enterFault_fields .line s
    exact ⟨hm, hf, enterFault_line_silent hmode, enterFault_place .line hmode, hreceive, hground⟩

/-- Settles O36: the slot rule for a HALT, and the count of a normal frame. -/
theorem collisionsOfHaltsAndOtherFrames : Obligations.CollisionsOfHaltsAndOtherFrames := by
  refine ⟨fun s f bit hreset hline hbit => ?_, fun s x rest bit hreset hline hnormal hbit hkind => ?_⟩
  · exact exec_haltCollision hreset hline hbit
  · obtain ⟨n, hexec⟩ := exec_normalCollision hreset hline hnormal hbit
    rw [normalCollision_counted hkind] at hexec
    refine ⟨fun hfew => ⟨n, ?_⟩, fun hmany => ⟨_, hexec, ?_⟩⟩
    · have hcounted : countedCollision x (s.cutOff bit n) = putHead x.collided (s.cutOff bit n) :=
        if_neg (Nat.not_le.2 hfew)
      rw [hexec, hcounted, putHead]
      simp only [State.cutOff, hnormal, List.drop_succ_cons, List.drop_zero]
      rfl
    · have hcounted : countedCollision x (s.cutOff bit n) = faultOfLine (putHead x.collided (s.cutOff bit n)) :=
        if_pos hmany
      rw [hcounted]
      obtain ⟨hmode, hfault, hsilent, hplace, hreceive, hground⟩ := faultOfLine_fields (putHead x.collided (s.cutOff bit n))
      obtain ⟨-, -, hg, hp⟩ := cutOff_steady bit n s
      exact ⟨hmode, hfault, hsilent, hplace.trans hp, hreceive, hground.trans hg⟩

/-- Settles O37, by the mode and the announce stage. -/
theorem positionCollision : Obligations.PositionCollision := by
  intro s x rest bit g hreset hline hnormal hbit hkind hg
  obtain ⟨n, hexec⟩ := exec_normalCollision hreset hline hnormal hbit
  obtain ⟨hunit, hview, hground, hplace⟩ := cutOff_steady bit n s
  have hannounce : (s.cutOff bit n).announce = s.announce := elapse_announce n s
  refine ⟨fun hmode hstage => ⟨n, ?_⟩, fun hmode hstage => ⟨_, hexec, ?_⟩, fun hmode hpending => ⟨_, hexec, ?_⟩⟩
  · have hmarked : normalCollision x (s.cutOff bit n) = putHead (x.collided.marked g)
        { s.cutOff bit n with announce := { s.announce with stage := .retry } } := by
      simp only [normalCollision, hkind, hunit, hmode, announceCollision, hannounce, hstage, hg, Option.getD_some]
    rw [hexec, hmarked, putHead]
    simp only [State.cutOff, hnormal, List.drop_succ_cons, List.drop_zero]
    rfl
  · have hretry : normalCollision x (s.cutOff bit n) = enterFault .conflict (putHead x.collided (s.cutOff bit n)) := by
      simp only [normalCollision, hkind, hunit, hmode, announceCollision, hannounce, hstage]
    have hmode' : (putHead x.collided (s.cutOff bit n)).unit.mode ≠ .fault := by
      rw [putHead_unit, hunit, hmode]; decide
    obtain ⟨hm, hf, -⟩ := enterFault_unit .conflict _ hmode'
    rw [hretry]
    exact ⟨hm, hf, enterFault_normal _ hmode', (enterFault_place _ hmode').trans hplace,
      (enterFault_fields .conflict _).2.2.2.2.trans hground⟩
  · have hdropped : normalCollision x (s.cutOff bit n)
        = queueRemoval (dropHead { s.cutOff bit n with announce := { s.announce with reQueued := false } }) := by
      cases hm : s.unit.mode <;> simp [hm, Mode.running] at hmode <;>
        simp only [normalCollision, hkind, hunit, hm, reannounceCollision, hannounce]
    have hmoves := @moves_queueRemoval false
      (dropHead { s.cutOff bit n with announce := { s.announce with reQueued := false } })
    have hsteady := hmoves.steady
    have hrest : (dropHead { s.cutOff bit n with announce := { s.announce with reQueued := false } }).transmit.normal
        = rest := by simp [dropHead, State.cutOff, hnormal]
    rw [hdropped]
    exact ⟨(hmoves.reannounce hpending).2, hrest ▸ hmoves.queue_grows, hsteady.unit.trans hunit,
      congrArg Still.onLine hmoves.still, hsteady.view.trans hview, hsteady.ground.trans hground⟩

/-! ## The PWM period (R109, R110) -/

/-- The high interval of a leg ends the dead time before its low one begins. -/
theorem highOn_lowOn (duty dead t : Nat) (h : highOn duty dead t = true) : lowOn duty dead t = false := by
  simp only [highOn, lowOn, Bool.and_eq_true, Bool.and_eq_false_iff, decide_eq_true_eq, decide_eq_false_iff_not] at *
  omega

/-- Settles O45: the period's start for every channel, and the legs by the direction of the bridge. -/
theorem pwmPeriodTakesTheDutyAndShortsNoLeg : Obligations.PwmPeriodTakesTheDutyAndShortsNoLeg := by
  refine ⟨fun s hreset hpwm => ?_, fun x dead t => ⟨fun hah => ?_, fun hbh => ?_, fun hoff => ?_⟩⟩
  · have harm : exec .pwmPeriodStart s = execPwmPeriodStart s := rfl
    have hpwm5 : (elapse (5 - s.pwm) s).pwm % pwmSteps = 0 := by
      have hsum : s.pwm + (5 - s.pwm) = 5 := by omega
      simp [elapse, hreset, hsum, pwmSteps]
    rw [harm, execPwmPeriodStart, unlessReset_out _ s hreset, startPeriod, finishPeriod]
    change Host.Outcome.next { elapse (5 - s.pwm) s with
      pwm := (elapse (5 - s.pwm) s).pwm % pwmSteps
      channels := (elapse (5 - s.pwm) s).channels.map Channel.periodStart } = _
    have hstart : Channel.periodStart = fun x : Channel => { x with
        force := x.duty
        bridge := match x.state with | .forward => .forward | .reverse => .reverse | _ => .off } := by
      funext x
      unfold Channel.periodStart ChannelState.drives
      cases x.state <;> rfl
    rw [hpwm5]
    exact congrArg (fun start => (Host.Outcome.next { elapse (5 - s.pwm) s with
      pwm := 0, channels := (elapse (5 - s.pwm) s).channels.map start } : Answer)) hstart
  · unfold Channel.bridgeAt at hah ⊢
    cases hb : x.bridge with
    | off => rfl
    | forward => rw [hb] at hah; exact highOn_lowOn _ _ _ hah
    | reverse => rw [hb] at hah; exact absurd hah Bool.false_ne_true
  · unfold Channel.bridgeAt at hbh ⊢
    cases hb : x.bridge with
    | off => rfl
    | forward => rw [hb] at hbh; exact absurd hbh Bool.false_ne_true
    | reverse => rw [hb] at hbh; exact highOn_lowOn _ _ _ hbh
  · rw [Channel.bridgeAt, hoff]
    rfl

end Sys2Proof.Machine

/-! PROOFS. What a PITCH pulse leaves of the station before the mode unit counts it, and the pulse's own statement
(R3, R4, R9, R23, R25). -/

namespace Sys2Proof.Machine
open Sys2Proof

/-! ## Chains of acts on any heads -/

/-- A chain of acts, each on one head. -/
abbrev Works : State → State → Prop := Chain fun s t => ∃ k, Act k s t

theorem Works.refl {s : State} : Works s s := Chain.refl

theorem Acts.works {k : Fin 4} {s t : State} (h : Acts k s t) : Works s t :=
  Chain.mono (fun _ _ hact => ⟨k, hact⟩) h

theorem Moves.works {w : Bool} {s t : State} (h : Moves w s t) : Works s t := (@Moves.acts 0 w s t h).works

theorem Works.trans {s t u : State} (h : Works s t) (h' : Works t u) : Works s u := Chain.trans h h'

theorem Works.foldl {α : Type} {f : State → α → State} (hf : ∀ s a, Works s (f s a)) (l : List α) (s : State) :
    Works s (l.foldl f s) := by
  induction l generalizing s with
  | nil => exact .refl
  | cons a l ih => exact (hf s a).trans (ih _)

theorem consulted_works (s : State) : Works s (consulted s) := (@Move.consult true s).toMoves.works

theorem Works.preserve {p : State → Prop} (hp : ∀ k s t, Act k s t → p s → p t) {s t : State} (h : Works s t)
    (hs : p s) : p t := by
  induction h with
  | refl => exact hs
  | tail _ hact ih =>
    obtain ⟨k, hact⟩ := hact
    exact hp k _ _ hact ih

theorem Works.still {s t : State} (h : Works s t) : t.still = s.still :=
  @Works.preserve (fun u => u.still = s.still) (fun _ _ _ hact hu => hact.still.trans hu) s t h rfl

theorem Works.calm {s t : State} (h : Works s t) : Calm s t :=
  @Works.preserve (fun u => Calm s u) (fun _ _ _ hact hu => hu.trans hact.calm) s t h (.refl s)

theorem Works.steady {s t : State} (h : Works s t) : Steady s t := .of_still h.still

theorem Works.listening {s t : State} (h : Works s t) :
    t.announce.stage = .listening ↔ s.announce.stage = .listening := by
  refine @Works.preserve (fun u => u.announce.stage = .listening ↔ s.announce.stage = .listening)
    (fun k x y hact hx => ?_) s t h Iff.rfl
  cases hact with
  | background hmove => exact hmove.toMoves.listening.trans hx
  | own hown => rw [hown.announce, hx]
  | announce | cancel => exact hx

theorem takePins_works (p : Levels) (s : State) : Works (setLevels p s) (takePins p s) :=
  (consulted_works _).trans (.foldl (fun _ _ => Acts.refl.tripOvercurrent.works) _ _)

/-! ## The pulse before the mode unit's counts (R3) -/

/-- The heads at a pulse: the held-back conditions ended, the resumption, the reports of the travels. -/
def State.pulsed (s : State) : State :=
  headsAtPulse (countPitch s).endsHoldAtPulse
    (if s.tracker.motion = .stalled then resumeHeads (endHolds (countPitch s).endsHoldAtPulse (countPitch s))
      else endHolds (countPitch s).endsHoldAtPulse (countPitch s))

/-- The pulse up to the draw unit and the hold-off. -/
def State.paced (s : State) : State := holdOffPulse (drawPulse s.pulsed)

theorem takePitch_eq (s : State) : takePitch s = learnPulse (listenPulse s.paced) := rfl

theorem resumeHead_acts (s : State) (k : Fin 4) : Acts k s (resumeHead s k) := by
  unfold resumeHead
  split
  · exact Acts.refl.beginAsk
  · exact .refl

theorem headAtPulse_acts (ended : Fin 4 → Bool) (s : State) (k : Fin 4) : Acts k s (headAtPulse ended s k) := by
  unfold headAtPulse
  split
  · split
    · exact Acts.refl.newPass
    · split
      · exact .refl
      · exact Acts.refl.reportRise
  · exact .refl

theorem pulsed_works (s : State) : Works (endHolds (countPitch s).endsHoldAtPulse (countPitch s)) s.pulsed := by
  have hheads (x : State) : Works x (headsAtPulse (countPitch s).endsHoldAtPulse x) :=
    (consulted_works x).trans (.foldl (fun _ _ => (headAtPulse_acts _ _ _).works) _ _)
  have hresume (x : State) : Works x (resumeHeads x) :=
    (consulted_works x).trans (.foldl (fun _ _ => (resumeHead_acts _ _).works) _ _)
  unfold State.pulsed
  split
  · exact (hresume _).trans (hheads _)
  · exact hheads _

theorem drawPulse_moves {s : State} (h : s.unit.mode.keepsView = true) :
    Moves true { s with view := s.view.pulse s.pocketCount, draws := s.draws.map OwnDraw.countDown } (drawPulse s) := by
  unfold drawPulse
  rw [if_pos h]
  dsimp only
  split
  · exact (moves_bothChecks _).trans (@moves_bothArbiters true _)
  · exact @moves_bothArbiters true _

theorem drawPulse_off {s : State} (h : s.unit.mode.keepsView = false) : drawPulse s = s := by
  rw [drawPulse, if_neg (by simp [h])]

theorem State.profileField_congr {s t : State} (h : t.settings = s.settings) (f : Profile → Nat) :
    t.profileField f = s.profileField f := by simp only [State.profileField, h]

/-- The tracker after a pulse (R3, R4). -/
theorem countPitch_tracker {s : State} (hreset : s.inReset = none) : (countPitch s).tracker = { s.tracker with
    c := if s.tracker.valid then (s.tracker.c + 1) % s.pocketCount else s.tracker.c
    l := if s.tracker.stage = 0 then s.tracker.l else min 65535 (max 1 s.tracker.e)
    measured := s.tracker.measured || decide (s.tracker.stage ≠ 0)
    stage := if s.tracker.stage = 0 then 1 else 2
    e := 0
    motion := .turning } := by
  unfold countPitch
  by_cases he : s.tracker.e = 0
  · have h1 : (s.tracker.elapse 1).e = max 1 s.tracker.e := by simp [Tracker.elapse, he, eSaturated]
    simp only [if_pos he, elapse_pocketCount, elapse_tracker 1 s hreset, Tracker.pitch, h1]
    rfl
  · have h1 : max 1 s.tracker.e = s.tracker.e := by omega
    simp only [if_neg he, Tracker.pitch, h1]

theorem countPitch_steady (s : State) : Steady s (countPitch s) := by
  unfold countPitch
  by_cases he : s.tracker.e = 0
  · have h := elapse_steady 1 s
    rw [if_pos he]
    exact ⟨h.unit, h.view, h.ground, h.receive⟩
  · rw [if_neg he]
    exact ⟨rfl, rfl, rfl, rfl⟩

theorem countPitch_blocks (s : State) : (countPitch s).pins = s.pins ∧ (countPitch s).announce = s.announce
    ∧ (countPitch s).transmit.slot = s.transmit.slot ∧ (∀ f, (countPitch s).profileField f = s.profileField f)
    ∧ (countPitch s).slots = s.slots ∧ (countPitch s).draws = s.draws ∧ (countPitch s).tracks = s.tracks := by
  unfold countPitch
  by_cases he : s.tracker.e = 0
  · rw [if_pos he]
    have htracks : (elapse 1 s).tracks = s.tracks := by unfold elapse; split <;> rfl
    exact ⟨elapse_pins 1 s, elapse_announce 1 s, (elapse_transmit 1 s).2.1, elapse_profileField s, elapse_slots 1 s,
      elapse_draws 1 s, htracks⟩
  · rw [if_neg he]
    exact ⟨rfl, rfl, rfl, fun _ => rfl, rfl, rfl, rfl⟩

/-- What the pulse has changed of the still part when the mode unit counts it: the tracker, the hold-off and the view. -/
structure Paced (s t : State) : Prop where
  tracker : t.tracker = (countPitch s).tracker
  unit    : t.unit = { s.unit with holdOff := s.unit.holdOff - 1 }
  view    : t.view = if s.unit.mode.keepsView then s.view.pulse s.pocketCount else s.view
  ground  : t.ground = s.ground
  receive : t.receive = s.receive
  pins    : t.pins = s.pins
  slot    : t.transmit.slot = s.transmit.slot
  profile : ∀ f, t.profileField f = s.profileField f
  listens : t.announce.stage = .listening ↔ s.announce.stage = .listening

theorem paced_of (s : State) : Paced s s.paced := by
  have hcount := countPitch_steady s
  obtain ⟨hpins, hannounce, hslot, hprofile, -⟩ := countPitch_blocks s
  have hworks := pulsed_works s
  have hpulsed := hworks.still
  obtain ⟨htracker, hunit, hreceive, hview, hsettings, hpins', -⟩ := State.still_fields hpulsed
  have hground := State.ground_of_still hpulsed
  have hfield (f) : s.pulsed.profileField f = s.profileField f :=
    (State.profileField_congr hsettings f).trans (hprofile f)
  have hstage : s.pulsed.announce.stage = .listening ↔ s.announce.stage = .listening := by
    rw [hworks.listening, endHolds_announce, hannounce]
  have hslot' : s.pulsed.transmit.slot = s.transmit.slot := (congrArg Still.slot hpulsed).trans hslot
  have hmode : s.pulsed.unit = s.unit := hunit.trans hcount.unit
  unfold State.paced
  cases hkeeps : s.unit.mode.keepsView with
  | false =>
    rw [drawPulse_off (by rw [hmode]; exact hkeeps)]
    refine ⟨htracker, ?_, ?_, hground.trans hcount.ground, hreceive.trans hcount.receive, hpins'.trans hpins, hslot',
      hfield, hstage⟩
    · rw [holdOffPulse, hmode]
    · rw [hkeeps]
      exact hview.trans hcount.view
  | true =>
    have hmoves := drawPulse_moves (by rw [hmode]; exact hkeeps)
    obtain ⟨htracker2, hunit2, hreceive2, hview2, hsettings2, hpins2, -⟩ := State.still_fields hmoves.still
    have hground2 := State.ground_of_still hmoves.still
    refine ⟨htracker2.trans htracker, ?_, ?_, hground2.trans (hground.trans hcount.ground),
      hreceive2.trans (hreceive.trans hcount.receive), hpins2.trans (hpins'.trans hpins),
      (congrArg Still.slot hmoves.still).trans hslot', fun f => (State.profileField_congr hsettings2 f).trans (hfield f),
      hmoves.listening.trans hstage⟩
    · have hunit3 : (drawPulse s.pulsed).unit = s.unit := hunit2.trans hmode
      rw [holdOffPulse, hunit3]
    · have hview3 : (drawPulse s.pulsed).view = s.pulsed.view.pulse s.pulsed.pocketCount := hview2
      have hpocket : s.pulsed.pocketCount = s.pocketCount := hfield _
      rw [hkeeps]
      change (drawPulse s.pulsed).view = _
      rw [hview3, hpocket, hview]
      exact congrArg _ hcount.view

end Sys2Proof.Machine

/-! PROOFS. The PITCH pulse for the tracker, the mode unit and the view (R3, R23, R25, R28, R139). -/

namespace Sys2Proof.Machine
open Sys2Proof

/-! ## The mode unit's counts (R23, R25, R28) -/

theorem learnPulse_off {s : State} (h : s.countsLearning = false) : learnPulse s = s := by
  rw [learnPulse, if_neg (by simp [h])]

theorem learnPulse_counts {s : State} (h : s.countsLearning = true) (hshort : s.unit.learn + 1 < 2 * s.pocketCount) :
    learnPulse s = { s with unit := { s.unit with learn := s.unit.learn + 1 } } := by
  rw [learnPulse, if_pos h]
  exact if_neg (Nat.not_le.2 hshort)

theorem learnPulse_last {s : State} (h : s.countsLearning = true) (hlast : 2 * s.pocketCount ≤ s.unit.learn + 1) :
    learnPulse s = enterFault .noMark { s with unit := { s.unit with learn := s.unit.learn + 1 } } := by
  rw [learnPulse, if_pos h]
  exact if_pos hlast

theorem State.listens_iff (s : State) :
    s.listens = true ↔ s.unit.mode = .announce ∧ s.announce.stage = .listening := by simp [State.listens]

theorem State.countsLearning_iff (s : State) : s.countsLearning = true
    ↔ s.unit.mode = .learn ∧ s.tracker.valid = true ∧ s.profileField Profile.fixedGroup = 255 := by
  simp only [State.countsLearning, Bool.and_eq_true, decide_eq_true_eq, and_assoc]
  exact Iff.rfl

theorem listenPulse_off {s : State} (h : s.listens = false) : listenPulse s = s := by
  rw [listenPulse, if_neg (by simp [h])]

theorem listenPulse_counts {s : State} (h : s.listens = true) (hshort : s.unit.listen + 1 < s.pocketCount) :
    listenPulse s = { s with unit := { s.unit with listen := s.unit.listen + 1 } } := by
  rw [listenPulse, if_pos h]
  exact if_neg (Nat.not_le.2 hshort)

theorem listenPulse_last {s : State} (h : s.listens = true) (hlast : s.pocketCount ≤ s.unit.listen + 1) :
    listenPulse s = completeListening { s with unit := { s.unit with listen := s.unit.listen + 1 } } := by
  rw [listenPulse, if_pos h]
  exact if_pos hlast

/-- The mode that the held mark decides (R28). -/
def HeldMark.mode : HeldMark → Mode
  | .clear => .run
  | .stop => .stand
  | .trip => .safe

theorem completeListening_still (s : State) : (completeListening s).still
    = ({ s with unit := { s.unit with mode := s.unit.held.mode, held := .clear, listen := 0 } } : State).still := by
  unfold completeListening
  dsimp only
  cases s.unit.held with
  | clear => exact still_enterRun _
  | stop => exact still_enterStand _
  | trip => exact still_enterSafe _

/-- What the mode unit's counts leave of the pulse. -/
structure Counted (s t : State) : Prop where
  tracker : t.tracker = s.tracker
  holdOff : t.unit.holdOff = s.unit.holdOff
  place   : t.place = s.place
  ground  : t.ground = s.ground
  receive : t.receive = s.receive
  pins    : t.pins = s.pins

theorem Counted.refl (s : State) : Counted s s := ⟨rfl, rfl, rfl, rfl, rfl, rfl⟩

theorem Counted.of_still {s t : State} (u : ModeUnit) (h : t.still = ({ s with unit := u } : State).still)
    (hholdOff : u.holdOff = s.unit.holdOff) (hplace : (u.g, u.p0, u.node) = s.place) : Counted s t := by
  obtain ⟨htracker, hunit, hreceive, -, -, hpins, -⟩ := State.still_fields h
  have hground := State.ground_of_still h
  exact ⟨htracker, hunit ▸ hholdOff, by rw [State.place, hunit]; exact hplace, hground, hreceive, hpins⟩

theorem listenPulse_counted (s : State) : Counted s (listenPulse s) ∧ (listenPulse s).view = s.view := by
  unfold listenPulse
  split
  · dsimp only
    split
    · have hstill := completeListening_still { s with unit := { s.unit with listen := s.unit.listen + 1 } }
      exact ⟨@Counted.of_still s _ _ hstill rfl rfl, (State.still_fields hstill).2.2.2.1⟩
    · exact ⟨⟨rfl, rfl, rfl, rfl, rfl, rfl⟩, rfl⟩
  · exact ⟨.refl s, rfl⟩

theorem enterFault_holdOff (code : FaultCode) (s : State) : (enterFault code s).unit.holdOff = s.unit.holdOff := by
  by_cases hmode : s.unit.mode = .fault
  · rw [enterFault_in_fault code s hmode]
  · obtain ⟨held, t, n, heq, -⟩ := enterFault_eq code hmode
    rw [heq]
    rfl

theorem enterFault_counted (code : FaultCode) {s : State} (h : s.unit.mode ≠ .fault) :
    Counted s (enterFault code s) := by
  obtain ⟨htracker, hreceive, -, hpins, hground⟩ := enterFault_fields code s
  exact ⟨htracker, enterFault_holdOff code s, enterFault_place code h, hground, hreceive, hpins⟩

theorem learnPulse_counted (s : State) : Counted s (learnPulse s) := by
  cases hcounts : s.countsLearning with
  | false =>
    rw [learnPulse_off hcounts]
    exact .refl s
  | true =>
    by_cases hlast : 2 * s.pocketCount ≤ s.unit.learn + 1
    · have hmode : s.unit.mode = .learn := ((State.countsLearning_iff s).1 hcounts).1
      have h := @enterFault_counted .noMark { s with unit := { s.unit with learn := s.unit.learn + 1 } }
        (by rw [hmode]; decide)
      rw [learnPulse_last hcounts hlast]
      exact ⟨h.tracker, h.holdOff, h.place, h.ground, h.receive, h.pins⟩
    · rw [learnPulse_counts hcounts (Nat.not_le.1 hlast)]
      exact ⟨rfl, rfl, rfl, rfl, rfl, rfl⟩

theorem Counted.trans {s t u : State} (h : Counted s t) (h' : Counted t u) : Counted s u :=
  ⟨h'.tracker.trans h.tracker, h'.holdOff.trans h.holdOff, h'.place.trans h.place, h'.ground.trans h.ground,
    h'.receive.trans h.receive, h'.pins.trans h.pins⟩

/-! ## The edge -/

/-- The station as the edge finds it: the time passed, the levels taken. -/
def State.atEdge (dt : Nat) (pins : Levels) (s : State) : State := takePins pins (elapse dt s)

/-- Time and levels change the tracker's e, the pins and what the levels trip. -/
structure AtEdge (dt : Nat) (pins : Levels) (s t : State) : Prop where
  tracker : t.tracker = s.tracker.elapse dt
  unit    : t.unit = s.unit
  view    : t.view = s.view
  ground  : t.ground = s.ground
  receive : t.receive = s.receive
  pins    : t.pins = (setLevels pins s).pins
  slot    : t.transmit.slot = s.transmit.slot
  profile : ∀ f, t.profileField f = s.profileField f
  listens : t.announce.stage = .listening ↔ s.announce.stage = .listening
  reset   : t.inReset = none

theorem atEdge_of (dt : Nat) (pins : Levels) {s : State} (hreset : s.inReset = none) :
    AtEdge dt pins s (s.atEdge dt pins) := by
  have hworks := takePins_works pins (elapse dt s)
  obtain ⟨htracker, hunit, hreceive, hview, hsettings, hpins, -, -, hreset', -⟩ := State.still_fields hworks.still
  refine ⟨htracker.trans (elapse_tracker dt s hreset), hunit.trans (elapse_unit dt s), hview.trans (elapse_view dt s),
    (State.ground_of_still hworks.still).trans (elapse_ground dt s), hreceive.trans (elapse_receive dt s), ?_,
    (congrArg Still.slot hworks.still).trans (elapse_transmit dt s).2.1,
    fun f => (State.profileField_congr hsettings f).trans (elapse_profileField s f),
    hworks.listening.trans (by rw [← elapse_announce dt s]; rfl), hreset'.trans ((elapse_inReset dt s).trans hreset)⟩
  rw [State.atEdge, hpins]
  simp only [setLevels, elapse_pins]

theorem pitchEdge_eq (dt : Nat) (pins : Levels) {s : State} (hreset : s.inReset = none)
    (hbegun : s.tracker.begun = true) : pitchEdge dt pins s = takePitch (s.atEdge dt pins) := by
  have hedge := atEdge_of dt pins hreset
  have hb : (s.atEdge dt pins).tracker.begun = true := by rw [hedge.tracker]; exact hbegun
  exact whenever_true (fun x => x.tracker.begun) takePitch (s.atEdge dt pins) hb

theorem exec_pitchPulse (dt : Nat) (pins : Levels) {s : State} (hreset : s.inReset = none)
    (hbegun : s.tracker.begun = true) :
    exec (.pitchPulse dt pins) s = .next (takePitch (s.atEdge dt pins)) := by
  have harm : exec (.pitchPulse dt pins) s = execPitchPulse dt pins s := rfl
  rw [harm, execPitchPulse, unlessReset_out _ s hreset, pitchEdge_eq dt pins hreset hbegun]

/-- A row that names what one pulse brings about is that pulse, where its condition holds. -/
theorem pulseRow_next {c : State → Bool} (dt : Nat) (pins : Levels) {s : State} (hreset : s.inReset = none)
    (hbegun : s.tracker.begun = true) (hc : c s = true) :
    Host.Outcome.next (unlessReset (whenever c (pitchEdge dt pins)) s)
      = (.next (takePitch (s.atEdge dt pins)) : Answer) := by
  rw [unlessReset_out _ s hreset, whenever_true _ _ s hc, pitchEdge_eq dt pins hreset hbegun]

/-- The pulse up to the mode unit's counts, seen from before the edge. -/
structure PulseBefore (dt : Nat) (pins : Levels) (s t : State) : Prop where
  unit    : t.unit = { s.unit with holdOff := s.unit.holdOff - 1 }
  valid   : t.tracker.valid = s.tracker.valid
  view    : t.view = if s.unit.mode.keepsView then s.view.pulse s.pocketCount else s.view
  ground  : t.ground = s.ground
  receive : t.receive = s.receive
  slot    : t.transmit.slot = s.transmit.slot
  profile : ∀ f, t.profileField f = s.profileField f
  listens : t.announce.stage = .listening ↔ s.announce.stage = .listening

theorem pulseBefore_of (dt : Nat) (pins : Levels) {s : State} (hreset : s.inReset = none) :
    PulseBefore dt pins s (s.atEdge dt pins).paced := by
  have hedge := atEdge_of dt pins hreset
  have hpaced := paced_of (s.atEdge dt pins)
  have hP : (s.atEdge dt pins).pocketCount = s.pocketCount := hedge.profile _
  refine ⟨?_, ?_, ?_, hpaced.ground.trans hedge.ground, hpaced.receive.trans hedge.receive,
    hpaced.slot.trans hedge.slot, fun f => (hpaced.profile f).trans (hedge.profile f),
    hpaced.listens.trans hedge.listens⟩
  · rw [hpaced.unit, hedge.unit]
  · rw [hpaced.tracker, countPitch_tracker hedge.reset, hedge.tracker]
    rfl
  · rw [hpaced.view, hedge.unit, hedge.view, hP]

theorem PulseBefore.pocketCount {dt : Nat} {pins : Levels} {s t : State} (h : PulseBefore dt pins s t) :
    t.pocketCount = s.pocketCount := h.profile _

theorem PulseBefore.counts {dt : Nat} {pins : Levels} {s t : State} (h : PulseBefore dt pins s t) :
    t.countsLearning = s.countsLearning := by
  have hmode : t.unit.mode = s.unit.mode := by rw [h.unit]
  simp only [State.countsLearning, hmode, h.valid, h.profile]

theorem PulseBefore.listening {dt : Nat} {pins : Levels} {s t : State} (h : PulseBefore dt pins s t) :
    t.listens = s.listens := by
  have hmode : t.unit.mode = s.unit.mode := by rw [h.unit]
  simp only [State.listens, hmode, h.listens]

/-- A station counts in LEARN or in ANNOUNCE, not in both. -/
theorem State.listens_of_counts {s : State} (h : s.countsLearning = true) : s.listens = false := by
  obtain ⟨hmode, -⟩ := (State.countsLearning_iff s).1 h
  simp [State.listens, hmode]

/-- Settles O6: the tracker's equation, the frame of the pulse, and the two counts by what the station counts. -/
theorem pitchPulseCountsTheTurret : Obligations.PitchPulseCountsTheTurret := by
  intro dt pins s hreset hbegun
  have hedge := atEdge_of dt pins hreset
  have hpaced := paced_of (s.atEdge dt pins)
  have hbefore := pulseBefore_of dt pins hreset
  have hcounted := (listenPulse_counted (s.atEdge dt pins).paced).1.trans (learnPulse_counted _)
  rw [← takePitch_eq] at hcounted
  have hP : (s.atEdge dt pins).pocketCount = s.pocketCount := hedge.profile _
  refine ⟨_, exec_pitchPulse dt pins hreset hbegun, ?_, ?_, ?_, hcounted.ground.trans hbefore.ground,
    hcounted.receive.trans hbefore.receive, ?_, ?_, ?_⟩
  · rw [hcounted.tracker, hpaced.tracker, countPitch_tracker hedge.reset, hedge.tracker, hP]
    rfl
  · rw [hcounted.holdOff, hbefore.unit]
  · rw [hcounted.place, State.place, hbefore.unit]
    rfl
  · rw [hcounted.pins, hpaced.pins, hedge.pins]
  · rw [takePitch_eq]
    refine ⟨fun hlearns hshort => ?_, fun hlistens hshort => ?_, fun hlearns hlistens => ?_⟩
    · have hcounts := hbefore.counts.trans ((State.countsLearning_iff s).2 hlearns)
      rw [listenPulse_off (State.listens_of_counts hcounts),
        learnPulse_counts hcounts (by rw [hbefore.unit, hbefore.pocketCount]; exact hshort), hbefore.unit]
    · have hlistening := hbefore.listening.trans ((State.listens_iff s).2 hlistens)
      have hmode : (s.atEdge dt pins).paced.unit.mode ≠ .learn := by
        rw [((State.listens_iff _).1 hlistening).1]; decide
      rw [learnPulse_idle hmode, listenPulse_counts hlistening (by rw [hbefore.unit, hbefore.pocketCount]; exact hshort)]
      exact ⟨hbefore.listens.2 hlistens.2, by rw [hbefore.unit]⟩
    · have hcounts := hbefore.counts.trans (Bool.eq_false_iff.2 (mt (State.countsLearning_iff s).1 hlearns))
      have hlistening := hbefore.listening.trans (Bool.eq_false_iff.2 (mt (State.listens_iff s).1 hlistens))
      rw [listenPulse_off hlistening, learnPulse_off hcounts, hbefore.unit]
  · have harm : exec (.reAnnounceHoldOffEnd dt pins) s
        = .next (unlessReset (whenever State.holdOffEnds (pitchEdge dt pins)) s) := rfl
    rw [harm]
    by_cases hend : s.unit.holdOff = 1
    · rw [pulseRow_next dt pins hreset hbegun (by simp [State.holdOffEnds, hbegun, hend]), if_pos hend]
    · rw [unlessReset_out _ s hreset, whenever_false _ _ s (by simp [State.holdOffEnds, hend]), if_neg hend]

/-! ## The view at a pulse (R139) -/

theorem aged_eq (l : List ViewEntry) : aged l
    = (l.filter (fun e => decide (1 < e.life))).map (fun e => { e with life := e.life - 1 }) := by
  rw [aged, List.filter_map]
  refine congrArg _ (List.filter_congr fun e _ => ?_)
  simp only [Function.comp_apply, Nat.sub_pos_iff_lt]

theorem aged_of_none_expires {l : List ViewEntry} (h : ∀ e ∈ l, 1 < e.life) :
    aged l = l.map (fun e => { e with life := e.life - 1 }) ∧ expires l = false := by
  refine ⟨?_, ?_⟩
  · rw [aged_eq, List.filter_eq_self.2 fun e he => by simpa using h e he]
  · simpa [expires] using h

/-- In a mode that keeps the view the pulse ends in the view's own step. -/
theorem takePitch_view (dt : Nat) (pins : Levels) {s : State} (hreset : s.inReset = none)
    (hkeeps : s.unit.mode.keepsView = true) :
    (takePitch (s.atEdge dt pins)).view = s.view.pulse s.pocketCount
    ∧ (takePitch (s.atEdge dt pins)).ground = s.ground ∧ (takePitch (s.atEdge dt pins)).receive = s.receive
    ∧ (takePitch (s.atEdge dt pins)).place = s.place := by
  have hbefore := pulseBefore_of dt pins hreset
  have hmode : (s.atEdge dt pins).paced.unit.mode ≠ .learn := by
    rw [hbefore.unit]
    intro h
    change s.unit.mode = .learn at h
    rw [h] at hkeeps
    exact Bool.false_ne_true hkeeps
  obtain ⟨hcounted, hview⟩ := listenPulse_counted (s.atEdge dt pins).paced
  rw [takePitch_eq, learnPulse_idle hmode]
  refine ⟨by rw [hview, hbefore.view, if_pos hkeeps], hcounted.ground.trans hbefore.ground,
    hcounted.receive.trans hbefore.receive, ?_⟩
  rw [hcounted.place, State.place, hbefore.unit]
  rfl

/-- Settles O7: the view's step, with no entry expiring, at the end of doubt, and with an expiry. -/
theorem viewAgesAtAPulse : Obligations.ViewAgesAtAPulse := by
  intro dt pins s hreset hbegun hkeeps
  obtain ⟨hview, hground, hreceive, hplace⟩ := takePitch_view dt pins hreset hkeeps
  have hexec := exec_pitchPulse dt pins hreset hbegun
  refine ⟨fun hlives hclean => ?_, fun hdoubt hfull hlives => ?_, fun hexpiry => ?_⟩
  · obtain ⟨haged, hexpires⟩ := aged_of_none_expires hlives
    refine ⟨_, hexec, ?_, hground, hreceive, hplace⟩
    cases hdoubt : s.view.doubt with
    | false => simp only [hview, View.pulse, hexpires, haged, hdoubt, Bool.false_eq_true, if_false]
    | true =>
      have hbelow := hclean hdoubt
      have hmin : min s.pocketCount (s.view.clean + 1) = s.view.clean + 1 := by omega
      simp only [hview, View.pulse, hexpires, haged, hdoubt, Bool.false_eq_true, if_false, if_true, hbelow,
        decide_true, hmin]
  · obtain ⟨haged, hexpires⟩ := aged_of_none_expires hlives
    have hends : s.doubtEnds = true := by simp [State.doubtEnds, hbegun, hkeeps, hdoubt, hfull]
    have hpulse : s.view.pulse s.pocketCount
        = ⟨s.view.entries.map (fun e => { e with life := e.life - 1 }), false, s.pocketCount⟩ := by
      have hmin : min s.pocketCount (s.view.clean + 1) = s.pocketCount := by omega
      have hover : ¬s.view.clean + 1 < s.pocketCount := by omega
      simp only [View.pulse, hexpires, haged, hdoubt, Bool.false_eq_true, if_false, if_true, hover, decide_false, hmin]
    refine ⟨_, pulseRow_next dt pins hreset hbegun hends, hexec, ?_⟩
    rw [hview, hpulse]
    exact ⟨rfl, rfl, rfl, rfl, hground, hreceive, hplace⟩
  · have hexpires : expires s.view.entries = true := by simpa [expires] using hexpiry
    have hpulse : s.view.pulse s.pocketCount = ⟨(s.view.entries.filter (fun e => decide (1 < e.life))).map
        (fun e => { e with life := e.life - 1 }), true, 0⟩ := by
      rw [View.pulse, if_pos hexpires, aged_eq]
    refine ⟨_, pulseRow_next dt pins hreset hbegun (by simp [State.viewExpires, hbegun, hkeeps, hexpires]), hexec, ?_⟩
    rw [hview, hpulse]
    exact ⟨rfl, rfl, rfl, rfl, hground, hreceive, hplace⟩

end Sys2Proof.Machine

/-! PROOFS. The ZERO pulse, and learning: the group fixed by the profile or by MARK, MISALIGNED and NO_MARK (R6, R21 to
R24). -/

namespace Sys2Proof.Machine
open Sys2Proof

/-! ## Folds over heads -/

/-- What every step but head `k`'s own leaves, a fold without `k` leaves. -/
theorem foldl_others {α β : Type} {f : State → α → State} {p : State → β} {k : α}
    (h : ∀ s j, j ≠ k → p (f s j) = p s) {l : List α} (hk : k ∉ l) (s : State) : p (l.foldl f s) = p s := by
  induction l generalizing s with
  | nil => rfl
  | cons j l ih =>
    rw [List.mem_cons, not_or] at hk
    exact (ih hk.2 (f s j)).trans (h s j fun e => hk.1 e.symm)

/-- A fold over distinct elements comes to `k` once. -/
theorem foldl_split {α : Type} (f : State → α → State) {l : List α} {k : α} (hk : k ∈ l) (hl : l.Nodup) (s : State) :
    ∃ l₁ l₂ : List α, k ∉ l₁ ∧ k ∉ l₂ ∧ l.foldl f s = l₂.foldl f (f (l₁.foldl f s) k) := by
  obtain ⟨l₁, l₂, rfl⟩ := List.append_of_mem hk
  rw [List.nodup_append, List.nodup_cons] at hl
  obtain ⟨-, ⟨hk₂, -⟩, hdisjoint⟩ := hl
  exact ⟨l₁, l₂, fun hk₁ => hdisjoint k hk₁ k List.mem_cons_self rfl, hk₂, by rw [List.foldl_append]; rfl⟩

theorem State.nodup_heads (s : State) : s.heads.Nodup := List.Pairwise.filter _ (by decide)

/-! ## Learning completes (R24) -/

theorem givePocket_slot_other {j k : Fin 4} (p0 : Nat) (s : State) (h : j ≠ k) :
    (givePocket p0 s j).slots.get k = s.slots.get k := Four.get_modify_other _ _ h.symm

theorem givePockets_pocket (p0 : Nat) {l : List (Fin 4)} {k : Fin 4} (hk : k ∈ l) (hl : l.Nodup) (s : State) :
    ((l.foldl (givePocket p0) s).slots.get k).pocket = some (p0 + k.val) := by
  obtain ⟨l₁, l₂, -, hk₂, hsplit⟩ := foldl_split (givePocket p0) hk hl s
  rw [hsplit, @foldl_others _ _ _ (fun u => u.slots.get k) k (fun u j hj => givePocket_slot_other p0 u hj) _ hk₂]
  simp [givePocket]

theorem markPassed_works (s : State) (k : Fin 4) : Works s (markPassed s k) := by
  have hmark (c : Prop) [Decidable c] (x : Threshold) (u : State) :
      Works u (if c then markReached k x u else u) := by
    split
    · exact (Acts.refl.mark x).works
    · exact .refl
  exact (hmark _ .intakeClose s).trans (hmark _ .discharge _)

/-- The offer of the POSITION frame leaves everything but the queue and the announce stage. -/
theorem offerPosition_slots (s : State) : (offerPosition s).slots = s.slots := by
  unfold offerPosition; split <;> rfl

/-- Learning completion gives the place and the pockets, enters ANNOUNCE and begins doubt. -/
theorem completeLearning_fields (g p0 : Nat) (s : State) :
    (completeLearning g p0 s).unit = { s.unit with mode := .announce, g := some g, p0 := some p0, node := g }
    ∧ (completeLearning g p0 s).view = { s.view with doubt := true, clean := 0 }
    ∧ (completeLearning g p0 s).tracker = s.tracker ∧ (completeLearning g p0 s).ground = s.ground
    ∧ (completeLearning g p0 s).receive = s.receive ∧ (completeLearning g p0 s).pins = s.pins
    ∧ ∀ k, s.hasHead k = true → ((completeLearning g p0 s).slots.get k).pocket = some (p0 + k.val) := by
  let placed : State := { s with unit := { s.unit with g := some g, p0 := some p0, node := g } }
  let given : State := placed.heads.foldl (givePocket p0) placed
  let marked : State := given.heads.foldl markPassed given
  have hgiven : given.still = placed.still := foldl_keeps State.still (givePocket p0) (fun _ _ => rfl) _ _
  have hworks : Works given marked := .foldl markPassed_works _ _
  have hmarked : marked.still = placed.still := hworks.still.trans hgiven
  obtain ⟨htracker, hunit, hreceive, hview, -, hpins, -⟩ := State.still_fields hmarked
  have hground := State.ground_of_still hmarked
  obtain ⟨v, -, hmoves⟩ := moves_doubtBegins (setMode .announce marked)
  have hdoubt := doubtBegins_view (setMode .announce marked)
  obtain ⟨htracker', hunit', hreceive', -, hpins', -⟩ := State.still_fields hmoves.still
  rw [if_pos (by rfl)] at hdoubt
  have hoffer (x : State) : (offerPosition x).still = x.still := still_offerPosition x
  obtain ⟨htracker'', hunit'', hreceive'', hview'', -, hpins'', -⟩ :=
    State.still_fields (hoffer (doubtBegins (setMode .announce marked)))
  have hmarkedView : (setMode .announce marked).view = s.view := hview
  have heq : completeLearning g p0 s = offerPosition (doubtBegins (setMode .announce marked)) := rfl
  rw [heq]
  refine ⟨?_, ?_, htracker''.trans (doubtBegins_fields _).1 |>.trans htracker, ?_, ?_, ?_, fun k hk => ?_⟩
  · rw [hunit'', (doubtBegins_fields _).2.1, setMode_unit, hunit]
  · rw [hview'', hdoubt, hmarkedView]
  · exact (State.ground_of_still (hoffer _)).trans ((doubtBegins_ground _).trans hground)
  · exact hreceive''.trans ((doubtBegins_fields _).2.2.1.trans hreceive)
  · exact hpins''.trans ((doubtBegins_fields _).2.2.2.2.1.trans hpins)
  · rw [offerPosition_slots, hmoves.calm.pocket k]
    have hpocket : (given.slots.get k).pocket = some (p0 + k.val) :=
      givePockets_pocket p0 (State.mem_heads.2 hk) placed.nodup_heads placed
    exact (hworks.calm.pocket k).trans hpocket

theorem State.hasHead_congr {s t : State} (h : t.headCount = s.headCount) (k : Fin 4) : t.hasHead k = s.hasHead k := by
  rw [State.hasHead, State.hasHead, h]

/-! ## The ZERO pulse (R6, R7) -/

theorem exec_zeroPulse (dt : Nat) (pins : Levels) {s : State} (hreset : s.inReset = none)
    (hbegun : s.tracker.begun = true) :
    exec (.zeroPulse dt pins) s = .next (takeZero (s.atEdge dt pins)) := by
  have hedge := atEdge_of dt pins hreset
  have hb : (s.atEdge dt pins).tracker.begun = true := by rw [hedge.tracker]; exact hbegun
  have harm : exec (.zeroPulse dt pins) s = execZeroPulse dt pins s := rfl
  have htake : whenever (fun x => x.tracker.begun) takeZero (s.atEdge dt pins) = takeZero (s.atEdge dt pins) :=
    whenever_true (fun x => x.tracker.begun) takeZero (s.atEdge dt pins) hb
  rw [harm, execZeroPulse, unlessReset_out _ s hreset]
  exact congrArg Host.Outcome.next htake

theorem slipForward_acts (d : Nat) (old : Four Nat) (ended : Fin 4 → Bool) (s : State) (k : Fin 4) :
    Acts k s (slipForward d old ended s k) := by
  unfold slipForward
  split
  · split
    · exact Acts.refl.newPass
    · split
      · exact .refl
      · exact Acts.refl.reportRise
  · exact .refl

theorem still_slipBackward (b : Nat) (old : Four Nat) (s : State) (k : Fin 4) :
    (slipBackward b old s k).still = s.still := by
  unfold slipBackward; split <;> rfl

/-- A slip moves the count, and nothing else of the still part. -/
theorem still_slip (s : State) :
    (slip s).still = ({ s with tracker := { s.tracker with c := s.expectedCount } } : State).still := by
  unfold slip
  dsimp only
  split
  · exact (Works.still (.foldl (fun _ _ => (slipForward_acts _ _ _ _ _).works) _ _)).trans rfl
  · exact (foldl_keeps State.still _ (still_slipBackward _ _) _ _).trans rfl

/-- The count valid found in LEARN completes learning or starts the learn count; the tracker is not concerned. -/
theorem countValid_fields (s : State) : (countValid s).tracker = s.tracker ∧ (countValid s).ground = s.ground
    ∧ (countValid s).receive = s.receive ∧ (countValid s).pins = s.pins := by
  unfold countValid
  split
  · split
    · exact ⟨rfl, rfl, rfl, rfl⟩
    · obtain ⟨-, -, htracker, hground, hreceive, hpins, -⟩ := completeLearning_fields
        (s.profileField Profile.fixedGroup) (s.profileField Profile.fixedGroup * s.headCount) s
      exact ⟨htracker, hground, hreceive, hpins⟩
  · exact ⟨rfl, rfl, rfl, rfl⟩

theorem takeZero_fields (s : State) :
    (takeZero s).tracker = { s.tracker with c := s.expectedCount, valid := true } ∧ (takeZero s).ground = s.ground
    ∧ (takeZero s).receive = s.receive ∧ (takeZero s).pins = s.pins := by
  unfold takeZero
  cases hvalid : s.tracker.valid with
  | false =>
    exact countValid_fields { s with tracker := { s.tracker with c := s.expectedCount, valid := true } }
  | true =>
    simp only [if_true]
    split
    · next hsame =>
      refine ⟨?_, rfl, rfl, rfl⟩
      rw [hsame, ← hvalid]
    · obtain ⟨htracker, -, hreceive, -, -, hpins, -⟩ := State.still_fields (still_slip s)
      have hground := State.ground_of_still (still_slip s)
      refine ⟨?_, hground, hreceive, hpins⟩
      rw [htracker, ← hvalid]

/-- Settles O10: alignment, confirmation and slip leave the same tracker. -/
theorem zeroPulseSetsTheExpectedCount : Obligations.ZeroPulseSetsTheExpectedCount := by
  intro dt pins s hreset hbegun
  have hedge := atEdge_of dt pins hreset
  obtain ⟨htracker, hground, hreceive, hpins⟩ := takeZero_fields (s.atEdge dt pins)
  have hP : (s.atEdge dt pins).pocketCount = s.pocketCount := hedge.profile _
  refine ⟨_, exec_zeroPulse dt pins hreset hbegun, ?_, hground.trans hedge.ground, hreceive.trans hedge.receive,
    hpins.trans hedge.pins⟩
  rw [htracker, State.expectedCount, hP, hedge.tracker]
  rfl

/-! ## Learning (R21 to R23) -/

/-- A learned station as the statement describes it. -/
theorem completeLearning_learned (g p0 : Nat) {s x : State} (hground : x.ground = s.ground)
    (hreceive : x.receive = s.receive) (hheads : ∀ k, x.hasHead k = s.hasHead k) :
    (completeLearning g p0 x).unit.mode = .announce ∧ (completeLearning g p0 x).place = (some g, some p0, g)
    ∧ (∀ k, s.hasHead k = true → ((completeLearning g p0 x).slots.get k).pocket = some (p0 + k.val))
    ∧ (completeLearning g p0 x).view.doubt = true ∧ (completeLearning g p0 x).view.clean = 0
    ∧ (completeLearning g p0 x).ground = s.ground ∧ (completeLearning g p0 x).receive = s.receive := by
  obtain ⟨hunit, hview, -, hg, hr, -, hpockets⟩ := completeLearning_fields g p0 x
  rw [State.place, hunit, hview]
  exact ⟨rfl, rfl, fun k hk => hpockets k ((hheads k).trans hk), rfl, rfl, hg.trans hground, hr.trans hreceive⟩

/-- The search that ends without a MARK: the fault, entered after the last learn count (R23). -/
theorem enterFault_noMark {s x : State} {hold : Nat} (n : Nat) (hunit : x.unit = { s.unit with holdOff := hold }) (hground : x.ground = s.ground)
    (hreceive : x.receive = s.receive) (hslot : x.transmit.slot = s.transmit.slot) (hmode : s.unit.mode ≠ .fault) :
    (enterFault .noMark { x with unit := { x.unit with learn := n } }).unit.mode = .fault
    ∧ (enterFault .noMark { x with unit := { x.unit with learn := n } }).unit.fault = .noMark
    ∧ (enterFault .noMark { x with unit := { x.unit with learn := n } }).place = s.place
    ∧ (enterFault .noMark { x with unit := { x.unit with learn := n } }).transmit.normal = []
    ∧ (s.unit.node = 15 →
      (enterFault .noMark { x with unit := { x.unit with learn := n } }).transmit.slot = s.transmit.slot)
    ∧ (enterFault .noMark { x with unit := { x.unit with learn := n } }).ground = s.ground
    ∧ (enterFault .noMark { x with unit := { x.unit with learn := n } }).receive = s.receive := by
  have hnot : ({ x with unit := { x.unit with learn := n } } : State).unit.mode ≠ .fault := by
    rw [hunit]
    exact hmode
  obtain ⟨hm, hf, -⟩ := enterFault_unit .noMark _ hnot
  obtain ⟨-, hr, -, -, hg⟩ := enterFault_fields .noMark { x with unit := { x.unit with learn := n } }
  refine ⟨hm, hf, (enterFault_place _ hnot).trans ?_, enterFault_normal _ hnot, fun hnode => ?_,
    hg.trans hground, hr.trans hreceive⟩
  · simp only [State.place, hunit]
  · exact (enterFault_slot_kept hnot (by decide) (by simp [hunit, hnode])).trans hslot

/-- Settles O18: the first ZERO, the first MARK and the pulse that ends the search. -/
theorem learningFixesTheGroup : Obligations.LearningFixesTheGroup := by
  intro dt s hreset hmode learned
  refine ⟨fun f hbegun hvalid hfixed hf => ?_, fun p hvalid hfixed hp => ?_, fun pins hbegun hvalid hfixed hlast => ?_⟩
  · have hedge := atEdge_of dt .quiet hreset
    have hheads : (s.atEdge dt .quiet).headCount = s.headCount := hedge.profile _
    have hzero : takeZero (s.atEdge dt .quiet) = completeLearning f (f * s.headCount)
        { s.atEdge dt .quiet with tracker := { (s.atEdge dt .quiet).tracker with
          c := (s.atEdge dt .quiet).expectedCount, valid := true } } := by
      have hnot : (s.atEdge dt .quiet).tracker.valid = false := by rw [hedge.tracker]; exact hvalid
      have hfixed' : (s.atEdge dt .quiet).profileField Profile.fixedGroup = f := (hedge.profile _).trans hfixed
      rw [takeZero, if_neg (by simp [hnot]), alignCount, countValid, if_pos (by rw [hedge.unit]; exact hmode)]
      change (if (s.atEdge dt .quiet).profileField Profile.fixedGroup = learnFromMark then _
        else completeLearning ((s.atEdge dt .quiet).profileField Profile.fixedGroup)
          ((s.atEdge dt .quiet).profileField Profile.fixedGroup * (s.atEdge dt .quiet).headCount) _) = _
      rw [hfixed', hheads, if_neg (by exact hf)]
    refine ⟨_, exec_zeroPulse dt .quiet hreset hbegun, ?_⟩
    rw [hzero]
    exact completeLearning_learned _ _ hedge.ground hedge.receive fun k => State.hasHead_congr hheads k
  · have hsteady := elapse_steady dt s
    have htracker := elapse_tracker dt s hreset
    have hheads : (elapse dt s).headCount = s.headCount := elapse_profileField s _
    have hcounts : (elapse dt s).countsLearning = true := by
      rw [State.countsLearning_iff, hsteady.unit, htracker, elapse_profileField]
      exact ⟨hmode, hvalid, hfixed⟩
    have hexec : exec (.markEdge dt) s = .next (takeMark (elapse dt s)) := by
      have harm : exec (.markEdge dt) s = execMarkEdge dt s := rfl
      have htake := whenever_true State.countsLearning takeMark (elapse dt s) hcounts
      rw [harm, execMarkEdge, unlessReset_out _ s hreset]
      exact congrArg Host.Outcome.next htake
    have hmarked : (elapse dt s).markedPocket = p := by
      rw [hp, State.markedPocket, htracker, elapse_pocketCount]
      rfl
    refine ⟨_, hexec, ?_⟩
    by_cases hmult : p % s.headCount = 0
    · have htake : takeMark (elapse dt s) = completeLearning (p / s.headCount) p (elapse dt s) := by
        rw [takeMark, hmarked, hheads, if_pos hmult]
      rw [htake]
      exact ⟨(completeLearning_fields _ _ _).2.2.1.trans htracker, fun _ => completeLearning_learned _ _ hsteady.ground
        hsteady.receive fun k => State.hasHead_congr hheads k, fun h => absurd hmult h⟩
    · have htake : takeMark (elapse dt s)
          = enterFault .misaligned { elapse dt s with unit := { (elapse dt s).unit with p0 := some p } } := by
        rw [takeMark, hmarked, hheads, if_neg hmult]
      have hnot : ({ elapse dt s with unit := { (elapse dt s).unit with p0 := some p } } : State).unit.mode ≠ .fault := by
        rw [hsteady.unit, hmode]; decide
      obtain ⟨hm, hf, hg, hp0, hnode⟩ := enterFault_unit .misaligned _ hnot
      obtain ⟨ht, hr, -, -, hground⟩ :=
        enterFault_fields .misaligned { elapse dt s with unit := { (elapse dt s).unit with p0 := some p } }
      have hg' : (elapse dt s).unit.g = s.unit.g := congrArg ModeUnit.g hsteady.unit
      have hnode' : (elapse dt s).unit.node = s.unit.node := congrArg ModeUnit.node hsteady.unit
      rw [htake]
      exact ⟨ht.trans htracker, fun h => absurd h hmult, fun _ => ⟨hm, hf, hp0, hg.trans hg', hnode.trans hnode',
        hground.trans hsteady.ground, hr.trans hsteady.receive⟩⟩
  · have hbefore := pulseBefore_of dt pins hreset
    have hcounts : s.countsLearning = true := (State.countsLearning_iff s).2 ⟨hmode, hvalid, hfixed⟩
    have hpcounts := hbefore.counts.trans hcounts
    have hpulse : takePitch (s.atEdge dt pins) = enterFault .noMark { (s.atEdge dt pins).paced with
        unit := { (s.atEdge dt pins).paced.unit with learn := (s.atEdge dt pins).paced.unit.learn + 1 } } := by
      rw [takePitch_eq, listenPulse_off (State.listens_of_counts hpcounts),
        learnPulse_last hpcounts (by rw [hbefore.unit, hbefore.pocketCount]; exact hlast)]
    refine ⟨_, pulseRow_next dt pins hreset hbegun (by simp [State.learnEnds, hbegun, hcounts, hlast]), ?_⟩
    rw [hpulse]
    exact enterFault_noMark _ hbefore.unit hbefore.ground hbefore.receive hbefore.slot (by rw [hmode]; decide)

end Sys2Proof.Machine

/-! PROOFS. The delivered frames POSITION, JAR-IN and DRAW-OPEN (R27, R29, R69 to R71, R134 to R136). -/

namespace Sys2Proof.Machine
open Sys2Proof

/-! ## Delivery (R62) -/

theorem deliver_next {kind : Kind} {take : Frame → State → State} {s : State} {f : Frame} {rest : List Frame}
    (h : s.delivers kind f rest) : Host.Outcome.next (unlessReset (deliver kind take) s)
      = (.next (take f (s.withFrames rest)) : Answer) := by
  obtain ⟨hreset, hqueue, hkind⟩ := h
  rw [unlessReset_out _ s hreset, deliver_front _ _ s f rest hqueue hkind]
  rfl

/-- A delivered frame of the length its kind requires reaches its owner. -/
theorem needing_next {kind : Kind} {n : Nat} {take : Frame → State → State} {s : State} {f : Frame} {rest : List Frame}
    (h : s.delivers kind f rest) (hlen : f.payload.length = n) :
    Host.Outcome.next (unlessReset (deliver kind (needing n take)) s)
      = (.next (take f (s.withFrames rest)) : Answer) := by
  rw [deliver_next h, needing_length n take f _ hlen]

/-! ## POSITION (R27, R29) -/

/-- The frame names the own group, in its source or its conflict mark. -/
theorem claimsGroup_iff {s : State} {g : Nat} (hg : s.unit.g = some g) (f : Frame) :
    s.claimsGroup f = true ↔ f.source = g ∨ u8 f.payload 4 = g := by
  simp only [State.claimsGroup, hg, Option.some.injEq, Bool.or_eq_true, decide_eq_true_eq]
  exact or_congr eq_comm eq_comm

theorem differs_iff (s : State) (f : Frame) : s.differs f = true
    ↔ ¬(u8 f.payload 0 = s.headCount ∧ u8 f.payload 1 = s.pocketCount ∧ u8 f.payload 2 = s.capacity .steam
      ∧ u8 f.payload 3 = s.capacity .drive) := by
  simp only [State.differs, Bool.not_eq_true', ← Bool.not_eq_true, Bool.and_eq_true, decide_eq_true_eq, and_assoc]

theorem mayReannounce_iff (s : State) : s.mayReannounce = true
    ↔ s.unit.holdOff = 0 ∧ s.announce.rePending = false ∧ s.announce.reQueued = false := by
  simp [State.mayReannounce, and_assoc]

theorem takePosition_running {f : Frame} {s : State} (h : s.unit.mode.running = true) :
    takePosition f s = answerPosition f s := by
  unfold takePosition
  cases hm : s.unit.mode <;> simp [hm, Mode.running] at h <;> rfl

/-- A fault of a POSITION frame, entered with the frame out of the queue. -/
theorem positionFault {s : State} {code : FaultCode} (rest : List Frame) (hmode : s.unit.mode = .announce)
    (hcode : code ≠ .line) :
    (enterFault code (s.withFrames rest)).unit.mode = .fault
    ∧ (enterFault code (s.withFrames rest)).unit.fault = code
    ∧ (enterFault code (s.withFrames rest)).place = s.place
    ∧ (enterFault code (s.withFrames rest)).transmit.normal = []
    ∧ (enterFault code (s.withFrames rest)).receive = (s.withFrames rest).receive
    ∧ (enterFault code (s.withFrames rest)).ground = s.ground
    ∧ (s.unit.node ≤ 11 → s.transmit.silenced = false → s.transmit.slot = none →
      (enterFault code (s.withFrames rest)).transmit.slot = some ⟨s.unit.node, .halt, [1, byte code.code]⟩) := by
  have hnot : (s.withFrames rest).unit.mode ≠ .fault := by
    change s.unit.mode ≠ .fault
    rw [hmode]
    decide
  obtain ⟨hm, hf, -⟩ := enterFault_unit code _ hnot
  obtain ⟨-, hreceive, -, -, hground⟩ := enterFault_fields code (s.withFrames rest)
  exact ⟨hm, hf, enterFault_place code hnot, enterFault_normal code hnot, hreceive, hground,
    fun hnode hsilenced hslot => enterFault_slot_halt hnot hcode hnode hsilenced hslot⟩

/-- Settles O19: the frame's claims in ANNOUNCE, and its answer in the running modes. -/
theorem positionFramesAreChecked : Obligations.PositionFramesAreChecked := by
  refine ⟨fun s f rest g hdel hlen hmode hg => ?_, fun s f rest g hdel hlen hmode hg => ?_⟩
  · intro claims differs
    have hexec : exec .position s = .next (checkPosition f (s.withFrames rest)) := by
      have htake : takePosition f (s.withFrames rest) = checkPosition f (s.withFrames rest) := by
        have hm : (s.withFrames rest).unit.mode = .announce := hmode
        simp only [takePosition, hm]
      rw [← htake]
      exact needing_next hdel hlen
    have hclaims : (s.withFrames rest).claimsGroup f = true ↔ claims := @claimsGroup_iff (s.withFrames rest) g hg f
    have hdiffers : (s.withFrames rest).differs f = true ↔ differs := differs_iff (s.withFrames rest) f
    refine ⟨fun code hcode => ?_, fun hclear hsame => ?_⟩
    · obtain ⟨hclaim, rfl⟩ | ⟨hclear, hdiffer, rfl⟩ := hcode
      · have hcheck : checkPosition f (s.withFrames rest) = enterFault .conflict (s.withFrames rest) :=
          if_pos (hclaims.2 hclaim)
        exact ⟨_, hexec, hcheck ▸ positionFault rest hmode (by decide)⟩
      · have hcheck : checkPosition f (s.withFrames rest) = enterFault .mismatch (s.withFrames rest) :=
          (if_neg (mt hclaims.1 hclear)).trans (if_pos (hdiffers.2 hdiffer))
        exact ⟨_, hexec, hcheck ▸ positionFault rest hmode (by decide)⟩
    · rw [hexec, checkPosition, if_neg (mt hclaims.1 hclear), if_neg (mt hdiffers.1 hsame)]
  · intro calls own free
    have hexec : exec .position s = .next (answerPosition f (s.withFrames rest)) := by
      rw [← takePosition_running (show (s.withFrames rest).unit.mode.running = true from hmode)]
      exact needing_next hdel hlen
    have hcalls : ((s.withFrames rest).claimsGroup f || (s.withFrames rest).differs f) = true ↔ calls := by
      rw [Bool.or_eq_true, claimsGroup_iff (show (s.withFrames rest).unit.g = some g from hg), differs_iff]
      change (_ ∨ _) ∨ ¬(u8 f.payload 0 = s.headCount ∧ u8 f.payload 1 = s.pocketCount
        ∧ u8 f.payload 2 = s.capacity .steam ∧ u8 f.payload 3 = s.capacity .drive) ↔ _
      simp only [Classical.not_and_iff_not_or_not, or_assoc, calls, ne_eq]
    have hfree : (s.withFrames rest).mayReannounce = true ↔ free := mayReannounce_iff (s.withFrames rest)
    have hanswers (hc : calls) (hf : free) :
        answerPosition f (s.withFrames rest) = offerReannouncement (s.withFrames rest) :=
      if_pos (Bool.and_eq_true_iff.2 ⟨hcalls.2 hc, hfree.2 hf⟩)
    refine ⟨fun hc hf haccepts => ?_, fun hc hf hrefuses => ?_, fun hnone => ?_⟩
    · have hoffer : offerReannouncement (s.withFrames rest) = { s.withFrames rest with
          announce := { s.announce with rePending := false, reQueued := true }
          transmit := { s.transmit with
            normal := s.transmit.normal ++ [⟨⟨s.unit.node, .position, own⟩, 0, s.transmit.ticket⟩]
            ticket := s.transmit.ticket + 1 } } := if_pos haccepts
      rw [hexec, hanswers hc hf, hoffer, ← hf.2.1]
    · have hoffer : offerReannouncement (s.withFrames rest) = { s.withFrames rest with
          announce := { s.announce with rePending := true } } := if_neg (by rw [Bool.not_eq_true]; exact hrefuses)
      rw [hexec, hanswers hc hf, hoffer]
    · have hignored : answerPosition f (s.withFrames rest) = s.withFrames rest :=
        if_neg fun h => hnone ⟨hcalls.1 (Bool.and_eq_true_iff.1 h).1, hfree.1 (Bool.and_eq_true_iff.1 h).2⟩
      rw [hexec, hignored]

/-! ## JAR-IN (R69 to R71) -/

theorem ownedHead_some {s : State} {p0 pocket : Nat} {k : Fin 4} (hp0 : s.unit.p0 = some p0) (hk : s.hasHead k = true)
    (hpocket : pocket = p0 + k.val) : s.ownedHead pocket = some k := by
  rw [State.ownedHead, hp0]
  refine State.find_head hk (by simp [hpocket]) fun j hj => ?_
  have := of_decide_eq_true hj
  omega

theorem ownedHead_none {s : State} {pocket : Nat}
    (h : ∀ (k : Fin 4) (p0 : Nat), s.unit.p0 = some p0 → s.hasHead k = true → pocket ≠ p0 + k.val) :
    s.ownedHead pocket = none := by
  unfold State.ownedHead
  cases hp0 : s.unit.p0 with
  | none => rfl
  | some p0 =>
    refine List.find?_eq_none.2 fun k hk => ?_
    have := h k p0 hp0 (State.mem_heads.1 hk)
    simpa using fun e => this e.symm

theorem conditionOf_eq (n : Nat) : conditionOf n
    = if n = 0 then .ok else if n = 1 then .noJar else if n = 3 then .lowFill else .damaged := by
  unfold conditionOf
  split
  · rfl
  · rfl
  · rfl
  · rfl
  · next h0 h1 _ h3 => rw [if_neg h0, if_neg h1, if_neg h3]

/-- Settles O20: the slot of the pocket by its state, and the frames that no slot takes. -/
theorem jarInReachesItsSlot : Obligations.JarInReachesItsSlot := by
  intro s f rest hdel
  refine ⟨fun k p0 hlen hmode hp0 hk hpocket => ?_, fun h => ?_⟩
  · have hexec : exec .jarIn s = .next (takeJarIn f (s.withFrames rest)) := needing_next hdel hlen
    have howned : (s.withFrames rest).ownedHead (u8 f.payload 0) = some k := ownedHead_some hp0 hk hpocket
    have htake : takeJarIn f (s.withFrames rest)
        = modSlot k (Slot.takeJar (s.recipeRef (u8 f.payload 1)) f.payload) (s.withFrames rest) := by
      rw [takeJarIn, if_pos (show (s.withFrames rest).unit.mode.running = true from hmode), howned]
      rfl
    rw [hexec, htake]
    refine congrArg (fun slots => Host.Outcome.next { s.withFrames rest with slots := slots }) ?_
    refine congrArg (s.slots.modify k) (funext fun x => ?_)
    unfold Slot.takeJar
    cases x.state with
    | opened =>
      simp only [Record.gauge, conditionOf_eq, fillOf, headspaceOf, State.recipeRef, clamp, Bool.and_eq_true,
        decide_eq_true_eq]
    | bound => rfl
    | idle => rfl
    | settled => rfl
  · by_cases hlen : f.payload.length = 7
    · have hexec : exec .jarIn s = .next (takeJarIn f (s.withFrames rest)) := needing_next hdel hlen
      have hignored : takeJarIn f (s.withFrames rest) = s.withFrames rest := by
        rcases h with hother | hmode | hnone
        · exact absurd hlen hother
        · exact if_neg (by rw [Bool.not_eq_true]; exact hmode)
        · have howned : (s.withFrames rest).ownedHead (u8 f.payload 0) = none := ownedHead_none hnone
          rw [takeJarIn, howned]
          split <;> rfl
      rw [hexec, hignored]
    · have hexec : exec .jarIn s = .next (needing 7 takeJarIn f (s.withFrames rest)) := deliver_next hdel
      rw [hexec, needing_other_length 7 _ f _ hlen]

end Sys2Proof.Machine

/-! PROOFS. The tests and the record of a DRAW-OPEN (R134 to R136). -/

namespace Sys2Proof.Machine
open Sys2Proof

/-! ## The tests (R135) -/

theorem DrawClass.ofCode_none {n : Nat} (h : 1 < n) : DrawClass.ofCode n = none := by
  cases hc : DrawClass.ofCode n with
  | none => rfl
  | some c =>
    have hcode := DrawClass.ofCode_eq_some hc
    have hle := c.code_le_one
    omega

theorem testOpen_foreign {s : State} {f : Frame} (h : 12 ≤ f.source ∧ f.source ≤ 14) : testOpen f s = s :=
  if_pos ((within_iff 12 14 f.source).2 h)

theorem testOpen_station {s : State} {f : Frame} (h : ¬(12 ≤ f.source ∧ f.source ≤ 14)) : testOpen f s
    = if s.unit.g = some f.source then enterFault .duplicate s
      else if s.headCount ≤ u8 f.payload 0 then s
      else match DrawClass.ofCode (u8 f.payload 1) with
        | none => s
        | some c => if u8 f.payload 2 = 0 then s else recordDraw (entryOf f c) s :=
  if_neg fun hwithin => h ((within_iff 12 14 f.source).1 hwithin)

/-- A head, a class or units out of range leave nothing to record. -/
theorem testOpen_out_of_range {s : State} {f : Frame} (hgroup : s.unit.g ≠ some f.source)
    (h : s.headCount ≤ u8 f.payload 0 ∨ 1 < u8 f.payload 1 ∨ u8 f.payload 2 = 0) : testOpen f s = s := by
  by_cases hnode : 12 ≤ f.source ∧ f.source ≤ 14
  · exact testOpen_foreign hnode
  · rw [testOpen_station hnode, if_neg hgroup]
    rcases h with hhead | hclass | hunits
    · rw [if_pos hhead]
    · rw [DrawClass.ofCode_none hclass, ite_self]
    · rw [hunits]
      simp only [if_true]
      cases DrawClass.ofCode (u8 f.payload 1) <;> simp only [ite_self]

theorem testOpen_recorded {s : State} {f : Frame} {c : DrawClass} (hnode : ¬(12 ≤ f.source ∧ f.source ≤ 14))
    (hgroup : s.unit.g ≠ some f.source) (hhead : u8 f.payload 0 < s.headCount) (hclass : u8 f.payload 1 = c.code)
    (hunits : u8 f.payload 2 ≠ 0) : testOpen f s = recordDraw (entryOf f c) s := by
  rw [testOpen_station hnode, if_neg hgroup, if_neg (Nat.not_le.2 hhead), hclass, DrawClass.ofCode_code]
  exact if_neg hunits

/-! ## The record (R136) -/

/-- The entry of the key stands in the table. -/
def ViewEntry.knownIn (e : ViewEntry) (l : List ViewEntry) : Prop :=
  ∃ x ∈ l, x.group = e.group ∧ x.head = e.head ∧ x.cls = e.cls

theorem ViewEntry.knownIn_iff (e : ViewEntry) (l : List ViewEntry) :
    l.any (ViewEntry.hasKey e.group e.head e.cls) = true ↔ e.knownIn l := by
  simp only [List.any_eq_true, ViewEntry.hasKey_iff, ViewEntry.knownIn]

theorem recordDraw_known {e : ViewEntry} {s : State} (h : e.knownIn s.view.entries) :
    recordDraw e s = checkAndRun e.cls (modEntries (replaceEntry e) s) :=
  if_pos ((e.knownIn_iff _).2 h)

theorem recordDraw_new {e : ViewEntry} {s : State} (h : ¬e.knownIn s.view.entries) (hroom : s.view.entries.length < 32) :
    recordDraw e s = checkAndRun e.cls (modEntries (· ++ [e]) s) :=
  (if_neg fun hany => h ((e.knownIn_iff _).1 hany)).trans (if_pos hroom)

theorem recordDraw_full {e : ViewEntry} {s : State} (h : ¬e.knownIn s.view.entries) (hfull : 32 ≤ s.view.entries.length) :
    recordDraw e s = doubtBegins s :=
  (if_neg fun hany => h ((e.knownIn_iff _).1 hany)).trans (if_neg (Nat.not_lt.2 hfull))

theorem replaceEntry_eq (e : ViewEntry) (l : List ViewEntry) : replaceEntry e l
    = l.map (fun x => if x.group = e.group ∧ x.head = e.head ∧ x.cls = e.cls then e else x) :=
  List.map_congr_left fun x _ => ite_congr (propext (ViewEntry.hasKey_iff e.group e.head e.cls x)) (fun _ => rfl) fun _ => rfl

/-- The units and the life of an entry come into their ranges (R135). -/
theorem entryOf_eq (f : Frame) (c : DrawClass) : entryOf f c
    = ⟨f.source, u8 f.payload 0, c, min 3 (u8 f.payload 2), min 48 (max 1 (u8 f.payload 3))⟩ := rfl

/-- What a recorded draw leaves of the still part but for the view. -/
theorem recordDraw_still (e : ViewEntry) (s : State) : (recordDraw e s).unit = s.unit
    ∧ (recordDraw e s).tracker = s.tracker ∧ (recordDraw e s).receive = s.receive ∧ (recordDraw e s).ground = s.ground := by
  have viaCheck (g : List ViewEntry → List ViewEntry) : (checkAndRun e.cls (modEntries g s)).unit = s.unit
      ∧ (checkAndRun e.cls (modEntries g s)).tracker = s.tracker ∧ (checkAndRun e.cls (modEntries g s)).receive = s.receive
      ∧ (checkAndRun e.cls (modEntries g s)).ground = s.ground := by
    have hstill := still_checkAndRun e.cls (modEntries g s)
    obtain ⟨htracker, hunit, hreceive, -⟩ := State.still_fields hstill
    have hground := State.ground_of_still hstill
    exact ⟨hunit, htracker, hreceive, hground⟩
  unfold recordDraw
  split
  · exact viaCheck _
  · split
    · exact viaCheck _
    · obtain ⟨htracker, hunit, hreceive, -⟩ := doubtBegins_fields s
      exact ⟨hunit, htracker, hreceive, doubtBegins_ground s⟩

theorem checkAndRun_view (c : DrawClass) (s : State) : (checkAndRun c s).view = s.view :=
  (State.still_fields (still_checkAndRun c s)).2.2.2.1

/-! ## DRAW-OPEN -/

theorem enterFault_view (code : FaultCode) {s : State} (h : s.unit.mode ≠ .fault) :
    (enterFault code s).view = ⟨[], true, 0⟩ := by
  obtain ⟨held, t, n, heq, -⟩ := enterFault_eq code h
  rw [heq]
  rfl

theorem keepsView_not_fault {m : Mode} (h : m.keepsView = true) : m ≠ .fault := by
  rintro rfl
  exact Bool.false_ne_true h

/-- Settles O21: the tests in their order, then the record by the key and the room of the table. -/
theorem drawOpenIsTestedAndRecorded : Obligations.DrawOpenIsTestedAndRecorded := by
  refine ⟨fun s f rest g hdel hg hg11 => ⟨fun hdiscard => ?_, fun hkeeps hlen hown => ?_⟩,
    fun s f rest c hdel hlen hkeeps hnode hgroup hhead hclass hunits => ?_⟩
  · have harm : exec .drawOpen s = execDrawOpen s := rfl
    rw [harm, execDrawOpen]
    by_cases hlen : f.payload.length = 4
    · rw [needing_next hdel hlen]
      refine congrArg Host.Outcome.next ?_
      by_cases hkeeps : s.unit.mode.keepsView = true
      · have htake : takeDrawOpen f (s.withFrames rest) = testOpen f (s.withFrames rest) := if_pos hkeeps
        rw [htake]
        rcases hdiscard with hmode | hother | hnode | ⟨hown, hrange⟩
        · exact absurd (hmode.symm.trans hkeeps) Bool.false_ne_true
        · exact absurd hlen hother
        · exact testOpen_foreign hnode
        · refine testOpen_out_of_range (fun h => hown ?_) hrange
          exact (Option.some.inj (hg.symm.trans h)).symm
      · exact if_neg hkeeps
    · rw [deliver_next hdel, needing_other_length 4 _ f _ hlen]
  · have harm : exec .drawOpen s = execDrawOpen s := rfl
    have hnot : (s.withFrames rest).unit.mode ≠ .fault := keepsView_not_fault hkeeps
    obtain ⟨hmode, hfault, -⟩ := enterFault_unit .duplicate _ hnot
    obtain ⟨-, hreceive, -, -, hground⟩ := enterFault_fields .duplicate (s.withFrames rest)
    have htake : takeDrawOpen f (s.withFrames rest) = enterFault .duplicate (s.withFrames rest) := by
      have htest : takeDrawOpen f (s.withFrames rest) = testOpen f (s.withFrames rest) := if_pos hkeeps
      rw [htest, testOpen_station (by omega)]
      exact if_pos (hg.trans (congrArg some hown.symm))
    rw [harm, execDrawOpen, needing_next hdel hlen, htake]
    exact ⟨_, rfl, hmode, hfault, enterFault_place _ hnot, enterFault_view _ hnot, hreceive, hground⟩
  · have harm : exec .drawOpen s = execDrawOpen s := rfl
    have htake : takeDrawOpen f (s.withFrames rest) = recordDraw (entryOf f c) (s.withFrames rest) := by
      have htest : takeDrawOpen f (s.withFrames rest) = testOpen f (s.withFrames rest) := if_pos hkeeps
      rw [htest]
      exact testOpen_recorded hnode hgroup hhead hclass hunits
    rw [harm, execDrawOpen, needing_next hdel hlen, htake]
    refine ⟨_, rfl, fun hknown => ?_, fun hnew hroom => ?_, fun hnew hfull => ?_, recordDraw_still _ _⟩
    · have hknown : (entryOf f c).knownIn (s.withFrames rest).view.entries := hknown
      rw [recordDraw_known hknown, checkAndRun_view, modEntries, replaceEntry_eq, entryOf_eq]
      rfl
    · have hnew : ¬(entryOf f c).knownIn (s.withFrames rest).view.entries := hnew
      rw [recordDraw_new hnew hroom, checkAndRun_view, modEntries, entryOf_eq]
      rfl
    · have hnew : ¬(entryOf f c).knownIn (s.withFrames rest).view.entries := hnew
      rw [recordDraw_full hnew hfull, doubtBegins_view]
      exact if_pos hkeeps

end Sys2Proof.Machine

/-! PROOFS. The POWER and PIN resets, their end and the settings load (R19, R36, R37, R176, R180). -/

namespace Sys2Proof.Machine
open Sys2Proof

/-! ## The write cut short (R180) -/

theorem sumBytes_append_one (bs : List Byte) (b : Byte) : sumBytes (bs ++ [b]) = sumBytes bs + b := by
  simp [sumBytes]

theorem recordBytes_pos (number : Nat) : 0 < recordBytes number := by
  unfold recordBytes profileLength recipeLength
  split <;> decide

theorem cutRecord_length (n : Nat) {len : Nat} (h : 0 < len) : (cutRecord n len).length = len := by
  unfold cutRecord
  dsimp only
  split <;> simp only [List.length_append, List.length_map, List.length_range, List.length_singleton] <;> omega

/-- The last byte of a record cut short is moved off the sum of 0. -/
theorem cutRecord_bad (n len : Nat) : goodSum (cutRecord n len) = false := by
  unfold cutRecord goodSum
  dsimp only
  split
  · next hzero =>
    rw [sumBytes_append_one] at hzero
    rw [sumBytes_append_one, ← BitVec.add_assoc, hzero]
    decide
  · next hother => exact beq_false_of_ne hother

theorem cutWrite_idle {s : State} (h : s.service.write = none) : cutWrite s = s := by
  rw [cutWrite, h]

theorem cutWrite_writing {s : State} {w : StoreWrite} (h : s.service.write = some w) :
    cutWrite s = consulted { s with settings := { s.settings with
      store := Store.writeBytes s.settings.store (recordAddress w.number) (cutRecord s.free (recordBytes w.number)) } } := by
  rw [cutWrite, h]

/-- What a reset leaves of the store, and of the rest. -/
theorem cutWrite_leaves {s : State} (hwf : Store.wf s.settings.store = true) :
    s.cutLeaves (cutWrite s).settings.store ∧ (cutWrite s).pins = s.pins ∧ (cutWrite s).pending = s.pending := by
  cases hwrite : s.service.write with
  | none =>
    rw [cutWrite_idle hwrite]
    exact ⟨⟨fun _ => rfl, fun w hw => nomatch hwrite.symm.trans hw⟩, rfl, rfl⟩
  | some w =>
    rw [cutWrite_writing hwrite]
    refine ⟨⟨fun hnone => (nomatch hwrite.symm.trans hnone), fun w' hw' => ?_⟩, rfl, rfl⟩
    obtain rfl : w = w' := Option.some.inj (hwrite.symm.trans hw')
    have hlen := cutRecord_length s.free (recordBytes_pos w.number)
    have hspan := Store.span_writeBytes (recordAddress w.number) (cutRecord s.free (recordBytes w.number)) hwf
    rw [hlen] at hspan
    refine ⟨(congrArg goodSum hspan).trans (cutRecord_bad _ _), fun a ha => ?_⟩
    exact Store.read_writeBytes_outside _ _ hwf a (by rwa [hlen])

theorem beginReset_eq (kind : ResetKind) (code : FaultCode) {s : State} (hwf : Store.wf s.settings.store = true) :
    ∃ m n, s.cutLeaves m ∧ beginReset kind code s = { State.reset with
      unit := { causeKind := kind, causeFault := code }, settings := { store := m, load := none }
      pins := s.pins, inReset := some kind, free := n, pending := s.pending } := by
  obtain ⟨hstore, hpins, hpending⟩ := cutWrite_leaves hwf
  refine ⟨(cutWrite s).settings.store, (cutWrite s).free, hstore, ?_⟩
  rw [← hpins, ← hpending]
  rfl

/-- Settles O3: a reset that begins, a PIN held, and the end with GUARD closed or open. -/
theorem resetsReturnEveryBlockAndEndInTheLoad : Obligations.ResetsReturnEveryBlockAndEndInTheLoad := by
  refine ⟨fun s hwf => ⟨?_, fun hout => ?_, fun hin => ?_⟩, fun s hin => ⟨?_, ?_⟩⟩
  · obtain ⟨m, n, hleaves, hreset⟩ := beginReset_eq .power .none hwf
    exact ⟨m, n, hleaves, congrArg Host.Outcome.next hreset⟩
  · obtain ⟨m, n, hleaves, hreset⟩ := beginReset_eq .pin s.unit.fault hwf
    exact ⟨m, n, hleaves, congrArg Host.Outcome.next ((unlessReset_out _ s hout).trans hreset)⟩
  · exact congrArg Host.Outcome.next (unlessReset_in _ s hin)
  · exact congrArg Host.Outcome.next (if_pos hin)
  · exact congrArg Host.Outcome.next (if_pos hin)

/-! ## The load (R19, R176) -/

theorem Settings.loaded_recipe (t : Settings) (r : Fin 8) : t.loaded.recipes.getD r.val [] = storedRecord t.store (r.val + 1) := by
  simp [Settings.loaded, storedRecipes]

theorem Settings.loaded_usable (t : Settings) (r : Fin 8) : t.loaded.usable.getD r.val false
    = (goodProfile (storedRecord t.store 0)
      && usableRecipe (storedRecord t.store 0) (storedRecord t.store (r.val + 1))) := by
  simp [Settings.loaded, storedRecipes]

theorem exec_loadComplete {s : State} {left : Nat} (hreset : s.inReset = none) (hload : s.settings.load = some left) :
    exec .loadComplete s = .next (leaveStart (takeSettings (elapse left s))) := by
  have harm : exec .loadComplete s = execLoadComplete s := rfl
  rw [harm, execLoadComplete, unlessReset_out _ s hreset, hload]

theorem leaveStart_good {s : State} (hmode : s.unit.mode = .start) (h : s.settings.good = true) :
    leaveStart s = setMode .learn { s with tracker := { s.tracker with begun := true } } := by
  rw [leaveStart, if_pos hmode, if_pos h]

theorem leaveStart_bad {s : State} (hmode : s.unit.mode = .start) (h : s.settings.good = false) :
    leaveStart s = enterFault .settings s := by
  rw [leaveStart, if_pos hmode, if_neg (by rw [h]; exact Bool.false_ne_true)]

/-- Leaving START keeps the settings, the pins, the receive side and the commands that wait. -/
theorem leaveStart_keeps (s : State) : (leaveStart s).settings = s.settings ∧ (leaveStart s).pins = s.pins
    ∧ (leaveStart s).receive = s.receive ∧ (leaveStart s).pending = s.pending := by
  unfold leaveStart
  split
  · split
    · exact ⟨rfl, rfl, rfl, rfl⟩
    · obtain ⟨-, hreceive, hsettings, hpins, hground⟩ := enterFault_fields .settings s
      exact ⟨hsettings, hpins, hreceive, congrArg (fun g => g.2.2.2.2.2.2.2) hground⟩
  · exact ⟨rfl, rfl, rfl, rfl⟩

/-- Settles O4: the active copies are read from the store, and their mark decides the mode. -/
theorem loadCompleteLeavesStart : Obligations.LoadCompleteLeavesStart := by
  intro s left hreset hload hmode
  refine ⟨_, exec_loadComplete hreset hload, ?_⟩
  have hstore := elapse_store left s
  have hunit := elapse_unit left s
  have hdead : (elapse left s).dead = s.dead := congrArg (fun g => g.2.2.2.2.2.1) (elapse_ground left s)
  have hbegun : (elapse left s).tracker.begun = s.tracker.begun := by rw [elapse_tracker left s hreset]; rfl
  obtain ⟨hsettings, hpins, hreceive, hpending⟩ := leaveStart_keeps (takeSettings (elapse left s))
  have hloaded : (leaveStart (takeSettings (elapse left s))).settings = (elapse left s).settings.loaded := hsettings
  have hgood : (elapse left s).settings.loaded.good = goodProfile (storedRecord s.settings.store 0) := by
    rw [← hstore]; rfl
  have hprofile : (elapse left s).settings.loaded.profile = storedRecord s.settings.store 0 := by
    rw [← hstore]; rfl
  have hmode' : (takeSettings (elapse left s)).unit.mode = .start := (congrArg ModeUnit.mode hunit).trans hmode
  refine ⟨by rw [hloaded, ← hstore]; rfl, by rw [hloaded]; rfl, by rw [hloaded, hprofile], by rw [hloaded, hgood],
    fun r => ⟨?_, ?_⟩, fun h => ?_, fun h => ?_, hpins.trans (elapse_pins left s), hreceive.trans (elapse_receive left s),
    hpending.trans (elapse_pending left s)⟩
  · rw [State.recipe, hloaded, Settings.loaded_recipe, hstore]
  · rw [State.usable, hloaded, Settings.loaded_usable, hstore, hgood, Bool.and_eq_true]
  · rw [hloaded] at h
    have hdead' : (takeSettings (elapse left s)).dead = 100 * Profile.deadTime (elapse left s).settings.loaded.profile :=
      if_pos h
    rw [leaveStart_good hmode' h]
    refine ⟨congrArg (fun u => { u with mode := Mode.learn }) hunit, rfl, hdead'.trans ?_⟩
    rw [hprofile]
    rfl
  · rw [hloaded] at h
    have hdead' : (takeSettings (elapse left s)).dead = (elapse left s).dead := if_neg (by rw [h]; exact Bool.false_ne_true)
    have hnot : (takeSettings (elapse left s)).unit.mode ≠ .fault := by rw [hmode']; decide
    obtain ⟨hfault, hcode, -⟩ := enterFault_unit .settings _ hnot
    obtain ⟨htracker, -, -, -, hground⟩ := enterFault_fields .settings (takeSettings (elapse left s))
    have hplace : (takeSettings (elapse left s)).place = s.place := by
      rw [State.place, State.place, ← hunit]
      rfl
    rw [leaveStart_bad hmode' h]
    exact ⟨hfault, hcode, (congrArg (fun g => g.2.2.2.2.2.1) hground).trans (hdead'.trans hdead),
      (congrArg Tracker.begun htracker).trans hbegun, (enterFault_place _ hnot).trans hplace⟩

end Sys2Proof.Machine

/-! PROOFS. The end of a closure: the draw closed, DWELL and the release of the jar (R77, R94, R100, R101, R121, R122);
flush ticks and seat samples (R92, R95, R96). -/

namespace Sys2Proof.Machine
open Sys2Proof

/-! ## What passes with the time -/

theorem elapse_tracks (n : Nat) (s : State) : (elapse n s).tracks = s.tracks := by
  unfold elapse; split <;> rfl

theorem elapse_shareOf (n : Nat) (s : State) (c : DrawClass) : (elapse n s).shareOf c = s.shareOf c := by
  simp only [State.shareOf, elapse_view, elapse_draws]

theorem elapse_capacity (n : Nat) (s : State) (c : DrawClass) : (elapse n s).capacity c = s.capacity c := by
  cases c <;> exact elapse_profileField s _

theorem State.recipe_congr {s t : State} (h : t.ground = s.ground) (n : Nat) : t.recipe n = s.recipe n := by
  have hrecipes : t.settings.recipes = s.settings.recipes := congrArg (fun g => g.2.2.2.1) h
  rw [State.recipe, State.recipe, hrecipes]

theorem State.boundRecipe_congr {s t : State} {k : Fin 4} (h : t.ground = s.ground)
    (hengine : (t.engines.get k).recipe = (s.engines.get k).recipe) : t.boundRecipe k = s.boundRecipe k := by
  rw [State.boundRecipe, State.boundRecipe, hengine, State.recipe_congr h]

theorem elapse_boundRecipe (n : Nat) (s : State) (k : Fin 4) : (elapse n s).boundRecipe k = s.boundRecipe k := by
  obtain ⟨m, hm⟩ := elapse_engine n s k
  exact State.boundRecipe_congr (elapse_ground n s) (by rw [hm])

/-! ## The draw closed (R152) -/

/-- Whatever draw it closes, a head keeps its engine, and its jar but for the delivery of a verdict. -/
theorem closeDraw_keeps (k : Fin 4) (s : State) :
    Backdrop s (closeDraw k s) ∧ (closeDraw k s).engines.get k = s.engines.get k := by
  cases hterms : (s.draws.get k).terms with
  | none =>
    rw [closeDraw_no_terms hterms]
    exact ⟨.of_slots rfl rfl rfl rfl rfl, rfl⟩
  | some a =>
    cases hopen : (s.draws.get k).isOpen with
    | false =>
      rw [closeDraw_idle hopen]
      exact ⟨.of_slots rfl rfl rfl rfl rfl, rfl⟩
    | true => exact ⟨(closeDraw_closes hopen hterms).toBackdrop, (closeDraw_closes hopen hterms).engine⟩

theorem Slot.sameJar.record {x y : Slot} (h : x.sameJar y) :
    ∃ d v n, y.record = { x.record with delivery := d, verdictPending := v, ticket := n } := by
  obtain ⟨d, v, n, heq⟩ := h
  exact ⟨d, v, n, congrArg Slot.record heq⟩

/-! ## The release (R77, R101) -/

/-- The jar of a release before its discharge: judged and SETTLED. -/
theorem release_jar {k : Fin 4} {s : State} (hbound : (s.slots.get k).state = .bound)
    (hpassed : (s.slots.get k).record.passed = false) :
    ({ s.slots.get k with state := .settled, record := judged (s.boundRecipe k) (s.slots.get k).record } : Slot).sameJar
      ((release k s).slots.get k) := by
  have hrecipe : (modEngine k (fun x => { x with press := false }) s).boundRecipe k = s.boundRecipe k :=
    State.boundRecipe_congr rfl (by simp)
  have hslots : (release k s).slots = (offerVerdict k (modSlot k (Slot.judge (s.boundRecipe k))
      (modEngine k (fun x => { x with press := false }) s))).slots := by
    have hpart : releaseSlot k (modEngine k (fun x => { x with press := false }) s)
        = offerVerdict k (modSlot k (Slot.judge ((modEngine k (fun x => { x with press := false }) s).boundRecipe k))
          (modEngine k (fun x => { x with press := false }) s)) :=
      if_neg (by simp [hpassed])
    rw [release]
    change (releaseSlot k (modEngine k (fun x => { x with press := false }) s)).slots = _
    rw [hpart, hrecipe]
  rw [hslots]
  have hjudged : (modSlot k (Slot.judge (s.boundRecipe k)) (modEngine k (fun x => { x with press := false }) s)).slots.get k
      = { s.slots.get k with state := .settled, record := judged (s.boundRecipe k) (s.slots.get k).record } := by
    simp [Slot.judge, Slot.write, hbound]
  rw [← hjudged]
  exact offerVerdict_slot k _

/-- The checks of a release add their own reasons and take none back (R163, R164). -/
theorem checkedReasons_eq (rc : Recipe) (r : Record) : ∃ v l h, checkedReasons rc r
    = { r.reasons with vacuumLow := v, torqueLow := l, torqueHigh := h } := by
  have hadd (x : Reasons) (b : Bool) : (∃ v, x.addIf b .vacuumLow = { x with vacuumLow := v })
      ∧ (∃ v, x.addIf b .torqueLow = { x with torqueLow := v }) ∧ ∃ v, x.addIf b .torqueHigh = { x with torqueHigh := v } := by
    cases b <;> exact ⟨⟨_, rfl⟩, ⟨_, rfl⟩, ⟨_, rfl⟩⟩
  obtain ⟨⟨v, hv⟩, -, -⟩ := hadd r.reasons (decide (vacuumEstimate rc r < rc.vMin))
  rw [checkedReasons, hv]
  obtain ⟨-, ⟨l, hl⟩, -⟩ := hadd { r.reasons with vacuumLow := v } (decide (r.tauFinal < rc.tauMin))
  rw [hl]
  obtain ⟨-, -, ⟨h, hh⟩⟩ := hadd { r.reasons with vacuumLow := v, torqueLow := l } (decide (rc.tauMax < r.tauPeak))
  exact ⟨v, l, h, hh⟩

theorem verdictOf_reject {x : Reasons} (h : x ≠ {}) : verdictOf x = .reject := if_neg h

/-- The engine of a head that comes to DWELL with A_rel reached: the press off, no recipe, IDLE or OUT. -/
theorem toDwell_engine_released {k : Fin 4} {s : State} (h : s.reached k .rel = true) : (toDwell k s).engines.get k
    = { s.engines.get k with press := false, recipe := none, out := false
                             phase := if (s.engines.get k).out then .out else .idle } := by
  rw [toDwell_releases h, release_engine]
  simp

/-- The jar of a head that comes to DWELL with A_rel reached before its discharge: judged and SETTLED. -/
theorem toDwell_jar_released {k : Fin 4} {s : State} (h : s.reached k .rel = true)
    (hbound : (s.slots.get k).state = .bound) (hpassed : (s.slots.get k).record.passed = false) :
    ({ s.slots.get k with state := .settled, record := judged (s.boundRecipe k) (s.slots.get k).record } : Slot).sameJar
      ((toDwell k s).slots.get k) := by
  rw [toDwell_releases h]
  have hrecipe : (modEngine k (fun x => { x with phase := .dwell }) s).boundRecipe k = s.boundRecipe k :=
    State.boundRecipe_congr rfl (by simp)
  rw [← hrecipe]
  exact @release_jar k (modEngine k (fun x => { x with phase := .dwell }) s) hbound hpassed

theorem toDwell_engine_waits {k : Fin 4} {s : State} (h : s.reached k .rel = false) :
    (toDwell k s).engines.get k = { s.engines.get k with phase := .dwell } := by
  rw [toDwell_waits h]
  simp

theorem toDwell_slots_waits {k : Fin 4} {s : State} (h : s.reached k .rel = false) : (toDwell k s).slots = s.slots := by
  rw [toDwell_waits h]
  rfl

/-! ## Flush ticks (R92) -/

theorem writeRecord_bound {k : Fin 4} {s : State} (f : Record → Record) (h : (s.slots.get k).state = .bound) :
    (writeRecord k f s).slots.get k = { s.slots.get k with record := f (s.slots.get k).record } := by
  simp [Slot.write_bound f _ h]

/-- The state of a head's next tick: what is left of its millisecond has passed. -/
theorem nextTick_eq (k : Fin 4) (s : State) : ∃ n m, nextTick k s = { elapse n s with
    engines := (elapse n s).engines.modify k (fun x => { x with ms := m }) } := by
  refine ⟨msSteps - (s.engines.get k).ms, ((elapse (msSteps - (s.engines.get k).ms) s).engines.get k).ms - msSteps, ?_⟩
  have hengines : (elapse (msSteps - (s.engines.get k).ms) s).engines.modify k (fun x => { x with ms := x.ms - msSteps })
      = (elapse (msSteps - (s.engines.get k).ms) s).engines.modify k (fun x => { x with
        ms := ((elapse (msSteps - (s.engines.get k).ms) s).engines.get k).ms - msSteps }) := Four.modify_congr _ _ rfl
  rw [nextTick, modEngine, hengines]

theorem nextTick_steady (k : Fin 4) (s : State) : Steady s (nextTick k s) :=
  (elapse_steady _ s).trans (.of_still rfl)

theorem nextTick_shareOf (k : Fin 4) (s : State) (c : DrawClass) : (nextTick k s).shareOf c = s.shareOf c :=
  elapse_shareOf _ s c

theorem nextTick_capacity (k : Fin 4) (s : State) (c : DrawClass) : (nextTick k s).capacity c = s.capacity c :=
  (show (nextTick k s).capacity c = (elapse (msSteps - (s.engines.get k).ms) s).capacity c by cases c <;> rfl).trans
    (elapse_capacity _ s c)

theorem nextTick_slots (k : Fin 4) (s : State) : (nextTick k s).slots = s.slots := elapse_slots _ s

theorem nextTick_draws (k : Fin 4) (s : State) : (nextTick k s).draws = s.draws := elapse_draws _ s

theorem nextTick_steamGain (k : Fin 4) (s : State) : (nextTick k s).steamGain = s.steamGain := by
  simp only [State.steamGain, nextTick_shareOf, nextTick_capacity]

theorem nextTick_overSubscribed (k : Fin 4) (s : State) : (nextTick k s).overSubscribed = s.overSubscribed := by
  simp only [State.overSubscribed, nextTick_shareOf, nextTick_capacity]

/-- The state of a flush tick with its gain taken. -/
theorem flushed_slots {k : Fin 4} {s : State} (h : (s.slots.get k).state = .bound) :
    (writeRecord k (Record.flushed (nextTick k s).steamGain (nextTick k s).overSubscribed) (nextTick k s)).slots
      = s.slots.modify k (fun x => { x with record := Record.flushed s.steamGain s.overSubscribed x.record }) := by
  rw [nextTick_steamGain, nextTick_overSubscribed]
  change (nextTick k s).slots.modify k _ = _
  rw [nextTick_slots]
  exact Four.modify_congr _ _ (Slot.write_bound _ _ h)

theorem exec_flushTick {k : Fin 4} {s : State} (hreset : s.inReset = none) (hphase : (s.engines.get k).phase = .flush) :
    exec (.flushTick k) s = .next (takeFlushTick k (nextTick k s)) := by
  have harm : exec (.flushTick k) s = execFlushTick k s := rfl
  rw [harm, execFlushTick, unlessReset_out _ s hreset, whenever_true _ _ _ (by simp [State.inPhase, hphase])]

/-- The end of a flush: the record's end kind, SEAT with the press on, and the open draw closed (R94). -/
theorem endFlush_ends {k : Fin 4} {s : State} {a : Ask} (kind : FlushEnd) (hbound : (s.slots.get k).state = .bound)
    (hopen : (s.draws.get k).isOpen = true) (hterms : (s.draws.get k).terms = some a) :
    (endFlush k kind s).engines.get k
      = { s.engines.get k with steam := false, phase := .seat, press := true, samples := 0, ms := 0 }
    ∧ ({ s.slots.get k with record := { (s.slots.get k).record with flushEnd := kind } } : Slot).sameJar
      ((endFlush k kind s).slots.get k)
    ∧ ((endFlush k kind s).draws.get k).status = .none ∧ ((endFlush k kind s).draws.get k).ask = none
    ∧ ((endFlush k kind s).draws.get k).openFrame = .none := by
  have hcloses := @closeDraw_closes k (writeRecord k (fun r => { r with flushEnd := kind })
    (modEngine k (fun x => { x with steam := false }) s)) a hopen hterms
  have hjar := hcloses.jars k
  have hwritten := @writeRecord_bound k (modEngine k (fun x => { x with steam := false }) s)
    (fun r => { r with flushEnd := kind }) hbound
  rw [hwritten] at hjar
  refine ⟨?_, hjar, hcloses.status, hcloses.ask, hcloses.openFrame⟩
  simp only [endFlush, modEngine_engines, Four.get_modify_same, hcloses.engine, writeRecord_engines]

/-- Settles O38: a tick short of the requirement adds its gain; one that reaches it ends the flush. -/
theorem flushTicksAddUntilComplete : Obligations.FlushTicksAddUntilComplete := by
  constructor
  · intro k s hreset hphase hbound u w hshort
    have hslots := flushed_slots hbound
    have hgoes : takeFlushTick k (nextTick k s)
        = writeRecord k (Record.flushed (nextTick k s).steamGain (nextTick k s).overSubscribed) (nextTick k s) := by
      refine if_neg ?_
      rw [State.flushComplete, hslots, Four.get_modify_same, decide_eq_true_eq]
      exact Nat.not_le.2 hshort
    obtain ⟨n, m, htick⟩ := nextTick_eq k s
    refine ⟨n, m, ?_⟩
    rw [exec_flushTick hreset hphase, hgoes]
    refine congrArg Host.Outcome.next ?_
    calc writeRecord k (Record.flushed (nextTick k s).steamGain (nextTick k s).overSubscribed) (nextTick k s)
        = { nextTick k s with slots := s.slots.modify k (fun x =>
            { x with record := Record.flushed s.steamGain s.overSubscribed x.record }) } :=
          congrArg (fun x => { nextTick k s with slots := x }) hslots
      _ = _ := by rw [htick]; rfl
  · intro k s a hreset hphase hbound hopen hterms u w hreached
    have hslots := flushed_slots hbound
    have hends : takeFlushTick k (nextTick k s) = endFlush k .complete
        (writeRecord k (Record.flushed (nextTick k s).steamGain (nextTick k s).overSubscribed) (nextTick k s)) := by
      refine if_pos ?_
      rw [State.flushComplete, hslots, Four.get_modify_same, decide_eq_true_eq]
      exact hreached
    have hslot : (writeRecord k (Record.flushed (nextTick k s).steamGain (nextTick k s).overSubscribed)
        (nextTick k s)).slots.get k
        = { s.slots.get k with record := Record.flushed s.steamGain s.overSubscribed (s.slots.get k).record } := by
      rw [hslots, Four.get_modify_same]
    have hsteady : Steady s (endFlush k .complete (writeRecord k
        (Record.flushed (nextTick k s).steamGain (nextTick k s).overSubscribed) (nextTick k s))) :=
      (nextTick_steady k s).trans (Acts.endFlush .complete (Acts.refl.record _)).steady
    obtain ⟨hengine, hjar, hstatus, hask, hframe⟩ := @endFlush_ends k
      (writeRecord k (Record.flushed (nextTick k s).steamGain (nextTick k s).overSubscribed) (nextTick k s)) a .complete
      (by rw [hslot]; exact hbound) (by rw [writeRecord_draws, nextTick_draws]; exact hopen)
      (by rw [writeRecord_draws, nextTick_draws]; exact hterms)
    rw [hslot] at hjar
    have hstate := hjar.state
    obtain ⟨_, _, _, hrecord⟩ := hjar.record
    rw [exec_flushTick hreset hphase, hends]
    exact ⟨_, rfl, by rw [hengine], by rw [hengine], by rw [hengine], by rw [hengine], by rw [hrecord]; rfl,
      by rw [hrecord], hstate.trans hbound, hstatus, hask, hframe, hsteady.and⟩

/-! ## Seat samples (R95, R96) -/

/-- The state in which a seat sample is taken: the level of SEATk, what is left of the millisecond, and the count. -/
def State.sampled (k : Fin 4) (seated : Bool) (s : State) : State :=
  modEngine k (fun x => { x with samples := x.samples + 1 }) (nextTick k (setSeat k seated s))

structure Sampled (k : Fin 4) (seated : Bool) (s t : State) : Prop where
  unit    : t.unit = s.unit
  view    : t.view = s.view
  ground  : t.ground = s.ground
  receive : t.receive = s.receive
  seat    : (t.pins.heads.get k).seat = seated
  comparator : (t.pins.heads.get k).oc = (s.pins.heads.get k).oc
  slots   : t.slots = s.slots
  draws   : t.draws = s.draws
  tracks  : t.tracks = s.tracks
  engine  : ∃ m, t.engines.get k = { s.engines.get k with ms := m, samples := (s.engines.get k).samples + 1 }
  channel : ∃ m, t.channels.get k = { s.channels.get k with ms := m }

theorem sampled_of (k : Fin 4) (seated : Bool) (s : State) : Sampled k seated s (State.sampled k seated s) := by
  have hsteady := nextTick_steady k (setSeat k seated s)
  have hpins : (State.sampled k seated s).pins = (setSeat k seated s).pins := elapse_pins _ _
  obtain ⟨m, hm⟩ := nextTick_engine k (setSeat k seated s)
  refine ⟨hsteady.unit, hsteady.view, hsteady.ground, hsteady.receive, ?_, ?_, elapse_slots _ _, elapse_draws _ _,
    elapse_tracks _ _, ⟨m, ?_⟩, elapse_channel _ _ k⟩
  · rw [hpins]
    simp [setSeat]
  · rw [hpins]
    simp [setSeat]
  · simp only [State.sampled, modEngine_engines, Four.get_modify_same, hm]
    rfl

theorem Sampled.steady {k : Fin 4} {seated : Bool} {s t : State} (h : Sampled k seated s t) : Steady s t :=
  ⟨h.unit, h.view, h.ground, h.receive⟩

theorem Sampled.reached {k : Fin 4} {seated : Bool} {s t : State} (h : Sampled k seated s t) (x : Threshold) :
    t.reached k x = s.reached k x := by
  rw [State.reached, h.tracks, State.reached]

theorem Sampled.boundRecipe {k : Fin 4} {seated : Bool} {s t : State} (h : Sampled k seated s t) :
    t.boundRecipe k = s.boundRecipe k := by
  obtain ⟨m, hm⟩ := h.engine
  exact State.boundRecipe_congr h.ground (by rw [hm])

theorem Sampled.windowOver_iff {k : Fin 4} {seated : Bool} {s t : State} (h : Sampled k seated s t) :
    t.windowOver k = true ↔ (s.boundRecipe k).seatWindow ≤ (s.engines.get k).samples + 1 := by
  obtain ⟨m, hm⟩ := h.engine
  rw [State.windowOver, decide_eq_true_eq, h.boundRecipe, hm]

theorem exec_seatSample {k : Fin 4} {s : State} (seated : Bool) (hreset : s.inReset = none)
    (hphase : (s.engines.get k).phase = .seat) : exec (.seatSample k seated) s = .next (seatSample k seated s) := by
  have harm : exec (.seatSample k seated) s = execSeatSample k seated s := rfl
  rw [harm, execSeatSample, unlessReset_out _ s hreset, whenever_true _ _ _ (by simp [State.inPhase, hphase])]

theorem exec_seatWindowEnd {k : Fin 4} {s : State} (hreset : s.inReset = none) (hphase : (s.engines.get k).phase = .seat)
    (hlast : (s.boundRecipe k).seatWindow ≤ (s.engines.get k).samples + 1) :
    exec (.seatWindowEnd k) s = .next (seatSample k false s) := by
  have harm : exec (.seatWindowEnd k) s = execSeatWindowEnd k s := rfl
  rw [harm, execSeatWindowEnd, unlessReset_out _ s hreset,
    whenever_true _ _ _ (by simp [State.lastSample, State.inPhase, hphase, hlast])]

theorem seatSample_seated (k : Fin 4) (s : State) : seatSample k true s = seatFound k (State.sampled k true s) :=
  if_pos (sampled_of k true s).seat

theorem seatSample_missed (k : Fin 4) (s : State) : seatSample k false s
    = if (State.sampled k false s).windowOver k then seatMissed k (State.sampled k false s)
      else State.sampled k false s := by
  have hseat := (sampled_of k false s).seat
  exact if_neg fun h => Bool.false_ne_true (hseat.symm.trans h)

theorem Four.modify_modify {α : Type} (f : Four α) (k : Fin 4) (g h : α → α) :
    (f.modify k g).modify k h = f.modify k (fun x => h (g x)) := by
  refine Four.ext_get _ _ fun j => ?_
  by_cases hj : j = k
  · rw [hj, Four.get_modify_same, Four.get_modify_same, Four.get_modify_same]
  · simp only [Four.get_modify_other _ _ hj]

/-- A sample that reads not seated with the window open: the count, the level and the time alone (R95). -/
theorem sampled_eq (k : Fin 4) (seated : Bool) (s : State) : ∃ n m, State.sampled k seated s = { elapse n s with
    pins := { s.pins with heads := s.pins.heads.modify k (fun x => { x with seat := seated }) }
    engines := (elapse n s).engines.modify k (fun x => { x with ms := m, samples := x.samples + 1 }) } := by
  obtain ⟨n, m, htick⟩ := nextTick_eq k (setSeat k seated s)
  refine ⟨n, m, ?_⟩
  have hset : elapse n (setSeat k seated s) = setSeat k seated (elapse n s) := by
    unfold elapse setSeat
    dsimp only
    split <;> rfl
  have hpins : (elapse n s).pins = s.pins := elapse_pins n s
  have htwice : ((elapse n s).engines.modify k (fun x => { x with ms := m })).modify k
      (fun x => { x with samples := x.samples + 1 })
      = (elapse n s).engines.modify k (fun x => { x with ms := m, samples := x.samples + 1 }) := Four.modify_modify _ _ _ _
  rw [State.sampled, htick, hset, ← htwice, ← hpins]
  rfl

/-- The record of a window that has run out (R96). -/
def State.missed (k : Fin 4) (s : State) : State :=
  addReason k .seat (writeRecord k (fun r => { r with seat := .notSeated }) s)

theorem Slot.write_write (f g : Record → Record) {x : Slot} (h : x.state = .bound) :
    Slot.write g (Slot.write f x) = { x with record := g (f x.record) } := by
  rw [Slot.write_bound f x h]
  exact Slot.write_bound g { x with record := f x.record } h

theorem missed_slots {k : Fin 4} {seated : Bool} {s t : State} (h : Sampled k seated s t)
    (hbound : (s.slots.get k).state = .bound) : (State.missed k t).slots = s.slots.modify k (fun x =>
      { x with record := { x.record with seat := .notSeated, reasons := x.record.reasons.add .seat } }) := by
  have hslots : (State.missed k t).slots = (t.slots.modify k (Slot.write fun r => { r with seat := .notSeated })).modify k
      (Slot.write fun r => { r with reasons := r.reasons.add .seat }) := rfl
  rw [hslots, h.slots, Four.modify_modify]
  exact Four.modify_congr _ _ (Slot.write_write _ _ hbound)

/-- Settles O39: the sample is counted, or ends the window with the reason SEAT, in DWELL or with the release. -/
theorem seatWindowRunsOut : Obligations.SeatWindowRunsOut := by
  intro k s hreset hphase hbound
  have hsampled := sampled_of k false s
  have hmissed := seatSample_missed k s
  refine ⟨fun hshort => ?_, fun hlast => ?_⟩
  · rw [if_neg fun hover => Nat.not_le.2 hshort (hsampled.windowOver_iff.1 hover)] at hmissed
    obtain ⟨n, m, heq⟩ := sampled_eq k false s
    exact ⟨n, m, by rw [exec_seatSample false hreset hphase, hmissed, heq]⟩
  · rw [if_pos (hsampled.windowOver_iff.2 hlast)] at hmissed
    obtain ⟨m, hengine⟩ := hsampled.engine
    have hpress : ((State.sampled k false s).engines.get k).press = (s.engines.get k).press := by rw [hengine]
    have hout : ((State.sampled k false s).engines.get k).out = (s.engines.get k).out := by rw [hengine]
    have hslots := missed_slots hsampled hbound
    have hslot : (State.missed k (State.sampled k false s)).slots.get k = { s.slots.get k with record :=
        { (s.slots.get k).record with seat := .notSeated, reasons := (s.slots.get k).record.reasons.add .seat } } := by
      rw [hslots, Four.get_modify_same]
    have hdwell : seatSample k false s = toDwell k (State.missed k (State.sampled k false s)) := hmissed
    have hsteady : Steady s (toDwell k (State.missed k (State.sampled k false s))) :=
      hsampled.steady.trans (((Acts.refl.record _).reason _).toDwell).steady
    refine ⟨_, exec_seatSample false hreset hphase, exec_seatWindowEnd hreset hphase hlast, ?_⟩
    rw [hdwell]
    refine ⟨fun hrel => ?_, fun hrel => ?_, hsteady.and⟩
    · have hwaits : (State.missed k (State.sampled k false s)).reached k .rel = false := (hsampled.reached .rel).trans hrel
      have hhead := toDwell_engine_waits hwaits
      exact ⟨by rw [hhead], by rw [hhead]; exact hpress,
        (toDwell_slots_waits hwaits).trans hslots⟩
    · have hreleases : (State.missed k (State.sampled k false s)).reached k .rel = true := (hsampled.reached .rel).trans hrel
      have hhead := toDwell_engine_released hreleases
      refine ⟨by rw [hhead], by rw [hhead], by rw [hhead, ← hout]; rfl, fun hpassed => ?_⟩
      have hjar := toDwell_jar_released hreleases (by rw [hslot]; exact hbound) (by rw [hslot]; exact hpassed)
      rw [hslot] at hjar
      have hstate := hjar.state
      obtain ⟨_, _, _, hrecord⟩ := hjar.record
      obtain ⟨v, l, h, hreasons⟩ := checkedReasons_eq ((State.missed k (State.sampled k false s)).boundRecipe k)
        { (s.slots.get k).record with seat := .notSeated, reasons := (s.slots.get k).record.reasons.add .seat }
      have hreject := @verdictOf_reject (checkedReasons ((State.missed k (State.sampled k false s)).boundRecipe k)
        { (s.slots.get k).record with seat := .notSeated, reasons := (s.slots.get k).record.reasons.add .seat })
        (fun h => Bool.false_ne_true (congrArg Reasons.seat (h.symm.trans hreasons)))
      refine ⟨hstate, ?_, ?_⟩
      · rw [hrecord]
        exact congrArg some hreject
      · rw [hrecord]
        exact congrArg Reasons.seat hreasons

end Sys2Proof.Machine

/-! PROOFS. The torque phase: its steps, its ends and the overcurrent trip (R113 to R124, R127, R130). -/

namespace Sys2Proof.Machine
open Sys2Proof

/-! ## The end of a torque phase (R100, R121, R122) -/

theorem torqueEnded_torque {k : Fin 4} {s : State} (out : Bool) (h : (s.engines.get k).phase = .torque) :
    torqueEnded k out s = toDwell k (modEngine k (fun x => { x with out := x.out || out }) (closeDraw k s)) :=
  if_pos h

theorem torqueEnded_other {k : Fin 4} {s : State} (out : Bool) (h : (s.engines.get k).phase ≠ .torque) :
    torqueEnded k out s = s :=
  if_neg h

theorem torqueEnded_keeps (k : Fin 4) (out : Bool) (s : State) :
    (torqueEnded k out s).channels = s.channels ∧ (torqueEnded k out s).service = s.service := by
  by_cases h : (s.engines.get k).phase = .torque
  · obtain ⟨hback, -⟩ := closeDraw_keeps k s
    rw [torqueEnded_torque out h, toDwell_channels, toDwell_service]
    exact ⟨hback.channels, hback.service⟩
  · rw [torqueEnded_other out h]
    exact ⟨rfl, rfl⟩

theorem endPhase_channel (k : Fin 4) (kind : TorqueEnd) (out : Bool) (f : Channel → Channel) (s : State) :
    (endPhase k kind out f s).channels = s.channels.modify k f ∧ (endPhase k kind out f s).service = s.service :=
  torqueEnded_keeps k out _

/-- A jar with the figures of its torque phase (R121). -/
def Slot.torqued (kind : TorqueEnd) (ch : Channel) (x : Slot) : Slot :=
  { x with record := Record.torqueDone kind (ch.tauFinal kind) (ch.peak.getD 0) x.record }

/-- The state in which the head in TORQUE comes to DWELL. -/
structure PhaseEnded (k : Fin 4) (kind : TorqueEnd) (out : Bool) (s u : State) : Prop where
  engine : u.engines.get k = { s.engines.get k with out := (s.engines.get k).out || out }
  tracks : u.tracks = s.tracks
  jar    : (s.slots.get k).state = .bound →
      (Slot.torqued kind (s.channels.get k) (s.slots.get k)).sameJar (u.slots.get k)
  draw   : ∀ a, (s.draws.get k).isOpen = true → (s.draws.get k).terms = some a →
      (u.draws.get k).status = .none ∧ (u.draws.get k).ask = none

theorem endPhase_ends {k : Fin 4} {s : State} (kind : TorqueEnd) (out : Bool) (f : Channel → Channel)
    (h : (s.engines.get k).phase = .torque) :
    ∃ u, endPhase k kind out f s = toDwell k u ∧ PhaseEnded k kind out s u := by
  let written := modChannel k f
    (writeRecord k (Record.torqueDone kind ((s.channels.get k).tauFinal kind) ((s.channels.get k).peak.getD 0)) s)
  obtain ⟨hback, hengine⟩ := closeDraw_keeps k written
  refine ⟨modEngine k (fun x => { x with out := x.out || out }) (closeDraw k written), torqueEnded_torque out h,
    ?_, hback.tracks, fun hbound => ?_, fun a hopen hterms => ?_⟩
  · rw [modEngine_engines, Four.get_modify_same, hengine]
    rfl
  · have hwritten := writeRecord_bound (Record.torqueDone kind ((s.channels.get k).tauFinal kind)
      ((s.channels.get k).peak.getD 0)) hbound
    have hjar := hback.jars k
    rw [Slot.torqued, ← hwritten]
    exact hjar
  · have hcloses := @closeDraw_closes k written a hopen hterms
    exact ⟨hcloses.status, hcloses.ask⟩

theorem PhaseEnded.reached {k : Fin 4} {kind : TorqueEnd} {out : Bool} {s u : State} (h : PhaseEnded k kind out s u)
    (x : Threshold) : u.reached k x = s.reached k x := by
  rw [State.reached, h.tracks, State.reached]

/-- The end of a phase before A_rel: the head waits in DWELL, its jar bound with the figures of the phase. -/
theorem endPhase_dwells {k : Fin 4} {s : State} (kind : TorqueEnd) (out : Bool) (f : Channel → Channel)
    (hphase : (s.engines.get k).phase = .torque) (hrel : s.reached k .rel = false)
    (hbound : (s.slots.get k).state = .bound) :
    (endPhase k kind out f s).engines.get k
      = { s.engines.get k with phase := .dwell, out := (s.engines.get k).out || out }
    ∧ (Slot.torqued kind (s.channels.get k) (s.slots.get k)).sameJar ((endPhase k kind out f s).slots.get k) := by
  obtain ⟨u, hend, hu⟩ := endPhase_ends kind out f hphase
  have hwaits := (hu.reached .rel).trans hrel
  rw [hend, toDwell_engine_waits hwaits, toDwell_slots_waits hwaits, hu.engine]
  exact ⟨rfl, hu.jar hbound⟩

/-! ## The step of the channel (R114 to R119) -/

/-- The torque of a reading of head `k`'s converter (R113). -/
def State.tauOf (s : State) (k : Fin 4) (counts : BitVec 12) : Nat :=
  torqueOf (s.profileField (fun p => p.torqueZero k.val)) (s.profileField (fun p => p.torqueGain k.val)) counts.toNat

/-- The duty ceiling of head `k`'s step (R119). -/
def State.ceilingOf (s : State) (k : Fin 4) : Nat := s.dutyCeiling (s.boundRecipe k).maxDuty

/-- The state after the channel's part of a step. -/
def State.stepped (k : Fin 4) (counts : BitVec 12) (s : State) : State := stepChannel k (nextStep k (setTorque k counts s))

structure Stepped (k : Fin 4) (counts : BitVec 12) (s t : State) : Prop extends Steady s t where
  comparator : (t.pins.heads.get k).oc = (s.pins.heads.get k).oc
  slots   : t.slots = s.slots
  draws   : t.draws = s.draws
  tracks  : t.tracks = s.tracks
  engine  : ∃ m, t.engines.get k = { s.engines.get k with ms := m }
  channel : ∃ m, t.channels.get k = { s.channels.get k with steps := (s.channels.get k).steps + 1, ms := m }.act
      (s.boundRecipe k) (s.ceilingOf k) (s.tauOf k counts)

theorem elapse_dutyCeiling (n : Nat) (s : State) (d : Nat) : (elapse n s).dutyCeiling d = s.dutyCeiling d := by
  simp only [State.dutyCeiling, elapse_shareOf, elapse_capacity]

theorem stepped_of (k : Fin 4) (counts : BitVec 12) (s : State) : Stepped k counts s (State.stepped k counts s) := by
  have hset : Steady s (setTorque k counts s) := ⟨rfl, rfl, rfl, rfl⟩
  have hsteady : Steady s (nextStep k (setTorque k counts s)) := hset.trans (elapse_steady _ (setTorque k counts s))
  have hpins : (nextStep k (setTorque k counts s)).pins = (setTorque k counts s).pins := elapse_pins _ _
  have hfield (f : Profile → Nat) : (nextStep k (setTorque k counts s)).profileField f = s.profileField f :=
    elapse_profileField (setTorque k counts s) f
  have hrecipe : (nextStep k (setTorque k counts s)).boundRecipe k = s.boundRecipe k :=
    elapse_boundRecipe _ (setTorque k counts s) k
  have hceiling (d : Nat) : (nextStep k (setTorque k counts s)).dutyCeiling d = s.dutyCeiling d :=
    elapse_dutyCeiling _ (setTorque k counts s) d
  have htau : (nextStep k (setTorque k counts s)).torqueSample k = s.tauOf k counts := by
    rw [State.torqueSample, hfield, hfield, hpins]
    simp [setTorque, State.tauOf]
  obtain ⟨m, hm⟩ := elapse_channel (msSteps - ((setTorque k counts s).channels.get k).ms) (setTorque k counts s) k
  have hchannel : (nextStep k (setTorque k counts s)).channels.get k = { s.channels.get k with ms := m } := hm
  refine ⟨hsteady.trans (.of_still rfl), ?_, elapse_slots _ _, elapse_draws _ _, elapse_tracks _ _, elapse_engine _ _ k,
    ⟨m - msSteps, ?_⟩⟩
  · change ((nextStep k (setTorque k counts s)).pins.heads.get k).oc = _
    rw [hpins]
    simp [setTorque]
  · rw [State.stepped, stepChannel, modChannel_channels, Four.get_modify_same, hrecipe, hceiling, htau, hchannel]
    rfl

theorem Stepped.reached {k : Fin 4} {counts : BitVec 12} {s t : State} (h : Stepped k counts s t) (x : Threshold) :
    t.reached k x = s.reached k x := by
  rw [State.reached, h.tracks, State.reached]

theorem Stepped.boundRecipe {k : Fin 4} {counts : BitVec 12} {s t : State} (h : Stepped k counts s t) :
    t.boundRecipe k = s.boundRecipe k := by
  obtain ⟨m, hm⟩ := h.engine
  exact State.boundRecipe_congr h.ground (by rw [hm])

/-! ## What the step ends with (R117, R118, R120, R124) -/

theorem exec_torqueStep {k : Fin 4} {s : State} (counts : BitVec 12) (hreset : s.inReset = none)
    (hruns : (s.channels.get k).step ≠ .none) : exec (.torqueStep k counts) s
      = .next (afterStep k (decide ((s.channels.get k).step = .gap)) (State.stepped k counts s)) := by
  have harm : exec (.torqueStep k counts) s = execTorqueStep k counts s := rfl
  have hcond : s.phaseRuns k = true := by simp [State.phaseRuns, Channel.phaseRuns, hruns]
  obtain ⟨m, hm⟩ := elapse_channel (msSteps - ((setTorque k counts s).channels.get k).ms) (setTorque k counts s) k
  have hstep : ((nextStep k (setTorque k counts s)).channels.get k).step = (s.channels.get k).step := by
    rw [nextStep, hm]
    rfl
  rw [harm, execTorqueStep, unlessReset_out _ s hreset, whenever_true _ _ _ hcond, torqueStep, takeTorqueStep, hstep]
  rfl

/-- The comparator is watched after a step of GAP alone; inactive, it changes nothing. -/
theorem watchComparator_inactive {k : Fin 4} {s : State} (h : (s.pins.heads.get k).oc = false) : watchComparator k s = s :=
  if_neg (by rw [h]; exact Bool.false_ne_true)

theorem afterStep_watched {k : Fin 4} {wasGap : Bool} {s : State}
    (h : wasGap = true → (s.pins.heads.get k).oc = false) : afterStep k wasGap s
      = if (s.channels.get k).settled (s.boundRecipe k) then endPhase k .done false Channel.finish s
        else if (s.channels.get k).phaseRuns && decide ((s.boundRecipe k).timeLimit ≤ (s.channels.get k).steps) then
          endPhase k .time false Channel.finish s
        else s := by
  unfold afterStep
  cases wasGap with
  | false => rfl
  | true => rw [if_pos rfl, watchComparator_inactive (h rfl)]

/-- A step settles the phase only in RAMP and SETTLE, at the threshold, with the last of the settle samples (R117). -/
theorem act_settled (r : Recipe) (ceiling tau n m : Nat) (x : Channel) :
    (({ x with steps := n, ms := m } : Channel).act r ceiling tau).settled r = true
      ↔ (x.step = .ramp ∨ x.step = .settle) ∧ r.target - r.band ≤ tau
        ∧ r.settleSamples ≤ if x.step = .settle then x.settle + 1 else 1 := by
  have hthreshold : r.settleThreshold = r.target - r.band := rfl
  cases hstep : x.step with
  | none => simp [Channel.act, Channel.settled]
  | threadFind =>
    simp only [Channel.act, Channel.settled, Channel.threadFindStep]
    split <;> simp [Channel.stop]
  | gap => simp [Channel.act, Channel.settled, Channel.gapStep]
  | ramp =>
    simp only [Channel.act, Channel.settled, Channel.driveStep, hthreshold]
    split <;> simp [Channel.sampled, Channel.settleOne, Channel.rampUp, *]
  | settle =>
    simp only [Channel.act, Channel.settled, Channel.driveStep, hthreshold]
    split <;> simp [Channel.sampled, Channel.settleOne, Channel.rampUp, *]

/-- What every step of a running phase does: the count of the step, a phase that runs on, and the last τ, which is the
sample of a step in RAMP or SETTLE, and the one before it elsewhere (R114, R115, R117). -/
theorem act_fields (r : Recipe) (ceiling tau n m : Nat) {x : Channel} (h : x.step ≠ .none) :
    (({ x with steps := n, ms := m } : Channel).act r ceiling tau).steps = n
    ∧ (({ x with steps := n, ms := m } : Channel).act r ceiling tau).phaseRuns = true
    ∧ (({ x with steps := n, ms := m } : Channel).act r ceiling tau).last
      = if x.step = .ramp ∨ x.step = .settle then some tau else x.last := by
  have drives (y : Channel) : (y.driveStep r ceiling tau).steps = y.steps
      ∧ (y.driveStep r ceiling tau).phaseRuns = true ∧ (y.driveStep r ceiling tau).last = some tau := by
    unfold Channel.driveStep
    split <;> exact ⟨rfl, rfl, rfl⟩
  cases hstep : x.step with
  | none => exact absurd hstep h
  | threadFind =>
    simp only [Channel.act, Channel.threadFindStep]
    split <;> simp [Channel.stop, Channel.phaseRuns]
  | gap => simp [Channel.act, Channel.gapStep, Channel.phaseRuns]
  | ramp =>
    simp only [Channel.act]
    exact drives _
  | settle =>
    simp only [Channel.act]
    exact drives _

/-- What a step of a running phase ends with, by the settle samples and the time limit. -/
theorem stepEnds {k : Fin 4} {s : State} (counts : BitVec 12) (hreset : s.inReset = none)
    (hruns : (s.channels.get k).step ≠ .none)
    (hgap : (s.channels.get k).step = .gap → (s.pins.heads.get k).oc = false) :
    exec (.torqueStep k counts) s = .next (
      if ((s.channels.get k).step = .ramp ∨ (s.channels.get k).step = .settle)
          ∧ (s.boundRecipe k).target - (s.boundRecipe k).band ≤ s.tauOf k counts
          ∧ (s.boundRecipe k).settleSamples
            ≤ (if (s.channels.get k).step = .settle then (s.channels.get k).settle + 1 else 1) then
        endPhase k .done false Channel.finish (State.stepped k counts s)
      else if (s.boundRecipe k).timeLimit ≤ (s.channels.get k).steps + 1 then
        endPhase k .time false Channel.finish (State.stepped k counts s)
      else State.stepped k counts s) := by
  have hstepped := stepped_of k counts s
  obtain ⟨m, hm⟩ := hstepped.channel
  obtain ⟨hsteps, hrunsOn, -⟩ := act_fields (s.boundRecipe k) (s.ceilingOf k) (s.tauOf k counts)
    ((s.channels.get k).steps + 1) m hruns
  rw [exec_torqueStep counts hreset hruns, afterStep_watched
    (by rw [decide_eq_true_eq, hstepped.comparator]; exact hgap), hstepped.boundRecipe, hm, hsteps, hrunsOn]
  refine congrArg Host.Outcome.next (ite_congr (propext (act_settled _ _ _ _ _ _)) (fun _ => rfl) fun _ =>
    ite_congr ?_ (fun _ => rfl) fun _ => rfl)
  simp

theorem Acts.finished {k : Fin 4} (kind : TorqueEnd) (out : Bool) (s : State) :
    Acts k s (Machine.endPhase k kind out Channel.finish s) :=
  Acts.refl.endPhase kind out Channel.finish fun _ h => h

/-- A phase ended before A_rel by DONE or TIME: OFF with its count 0, DWELL, and the figures in the record (R121, R122). -/
theorem finish_dwells {k : Fin 4} {counts : BitVec 12} {s : State} (kind : TorqueEnd)
    (hphase : (s.engines.get k).phase = .torque) (hrel : s.reached k .rel = false) (hbound : (s.slots.get k).state = .bound) :
    ((endPhase k kind false Channel.finish (State.stepped k counts s)).channels.get k
      = ((State.stepped k counts s).channels.get k).finish)
    ∧ ((endPhase k kind false Channel.finish (State.stepped k counts s)).engines.get k).phase = .dwell
    ∧ (Slot.torqued kind ((State.stepped k counts s).channels.get k) (s.slots.get k)).sameJar
      ((endPhase k kind false Channel.finish (State.stepped k counts s)).slots.get k)
    ∧ Steady s (endPhase k kind false Channel.finish (State.stepped k counts s)) := by
  have hstepped := stepped_of k counts s
  obtain ⟨m, hengine⟩ := hstepped.engine
  obtain ⟨hchannel, -⟩ := endPhase_channel k kind false Channel.finish (State.stepped k counts s)
  obtain ⟨hdwell, hjar⟩ := endPhase_dwells kind false Channel.finish (by rw [hengine]; exact hphase)
    ((hstepped.reached .rel).trans hrel) (by rw [hstepped.slots]; exact hbound)
  rw [hstepped.slots] at hjar
  exact ⟨by rw [hchannel, Four.get_modify_same], by rw [hdwell], hjar,
    hstepped.toSteady.trans (Acts.finished kind false _).steady⟩

theorem act_drives (r : Recipe) (ceiling tau : Nat) {x : Channel} (h : x.step = .ramp ∨ x.step = .settle) :
    x.act r ceiling tau = x.driveStep r ceiling tau := by
  unfold Channel.act
  rcases h with h | h <;> rw [h]

theorem driveStep_below {r : Recipe} {ceiling tau : Nat} {x : Channel} (h : tau < r.target - r.band) :
    x.driveStep r ceiling tau = (x.sampled tau).rampUp r ceiling :=
  if_neg (Nat.not_le.2 h)

theorem driveStep_settles {r : Recipe} {ceiling tau : Nat} {x : Channel} (h : r.target - r.band ≤ tau) :
    x.driveStep r ceiling tau = (x.sampled tau).settleOne tau ceiling :=
  if_pos h

/-- Settles O41: the ramp, the settling sample, and the last of the settle samples. -/
theorem torqueStepRampsSettlesAndEnds : Obligations.TorqueStepRampsSettlesAndEnds := by
  intro k counts s hreset hdrives hshort hbound hphase hrel x r u ceiling tau peak run least
  have hruns : x.step ≠ .none := by rcases hdrives with h | h <;> rw [h] <;> decide
  have hgap : x.step = .gap → (s.pins.heads.get k).oc = false := fun h => by
    rcases hdrives with h' | h' <;> cases h.symm.trans h'
  have hstepped := stepped_of k counts s
  obtain ⟨m, hm⟩ := hstepped.channel
  replace hm := hm.trans (act_drives _ _ _ (by exact hdrives))
  rw [stepEnds counts hreset hruns hgap]
  by_cases hlevel : r.target - r.band ≤ tau
  · replace hm := hm.trans (driveStep_settles (by exact hlevel))
    by_cases hlast : r.settleSamples ≤ run
    · rw [if_pos ⟨hdrives, hlevel, hlast⟩]
      obtain ⟨hchannel, hdwell, hjar, hsteady⟩ := @finish_dwells k counts s .done hphase hrel hbound
      obtain ⟨_, _, _, hrecord⟩ := hjar.record
      refine ⟨_, rfl, fun h => absurd hlevel (Nat.not_le.2 h), fun _ h => absurd hlast (Nat.not_le.2 h), fun _ _ => ?_,
        hsteady.and⟩
      rw [hchannel, hrecord, hm]
      exact ⟨rfl, rfl, rfl, rfl, rfl, hdwell, rfl, rfl, rfl⟩
    · rw [if_neg fun h => hlast h.2.2, if_neg (Nat.not_le.2 hshort)]
      exact ⟨_, rfl, fun h => absurd hlevel (Nat.not_le.2 h), fun _ _ => ⟨m, hm⟩, fun _ h => absurd h hlast,
        hstepped.toSteady.and⟩
  · replace hm := hm.trans (driveStep_below (by exact Nat.not_le.1 hlevel))
    rw [if_neg fun h => hlevel h.2.1, if_neg (Nat.not_le.2 hshort)]
    exact ⟨_, rfl, fun _ => ⟨m, hm⟩, fun h => absurd h hlevel, fun h => absurd h hlevel, hstepped.toSteady.and⟩

/-! ## The rows that name a torque step (R115, R116, R120) -/

theorem exec_threadFindEnd {k : Fin 4} {s : State} (counts : BitVec 12) (hreset : s.inReset = none)
    (hstep : (s.channels.get k).step = .threadFind)
    (htime : (s.boundRecipe k).threadFindTime ≤ (s.channels.get k).steps + 1) :
    exec (.threadFindEnd k counts) s = exec (.torqueStep k counts) s := by
  have harm : exec (.threadFindEnd k counts) s = execThreadFindEnd k counts s := rfl
  have harm' : exec (.torqueStep k counts) s = execTorqueStep k counts s := rfl
  have hends : s.threadFindEnds k = true := by simp [State.threadFindEnds, hstep, htime]
  have hruns : s.phaseRuns k = true := by simp [State.phaseRuns, Channel.phaseRuns, hstep]
  rw [harm, harm', execThreadFindEnd, execTorqueStep, unlessReset_out _ s hreset, unlessReset_out _ s hreset,
    whenever_true _ _ _ hends, whenever_true _ _ _ hruns]

theorem exec_gapEnd {k : Fin 4} {s : State} (counts : BitVec 12) (hreset : s.inReset = none)
    (hstep : (s.channels.get k).step = .gap) : exec (.gapEnd k counts) s = exec (.torqueStep k counts) s := by
  have harm : exec (.gapEnd k counts) s = execGapEnd k counts s := rfl
  have harm' : exec (.torqueStep k counts) s = execTorqueStep k counts s := rfl
  have hgap : s.inGap k = true := by simp [State.inGap, hstep]
  have hruns : s.phaseRuns k = true := by simp [State.phaseRuns, Channel.phaseRuns, hstep]
  rw [harm, harm', execGapEnd, execTorqueStep, unlessReset_out _ s hreset, unlessReset_out _ s hreset,
    whenever_true _ _ _ hgap, whenever_true _ _ _ hruns]

theorem exec_torqueTimeLimit {k : Fin 4} {s : State} {counts : BitVec 12} (hreset : s.inReset = none)
    (hruns : (s.channels.get k).step ≠ .none) (htime : (s.boundRecipe k).timeLimit ≤ (s.channels.get k).steps + 1)
    (hopen : ¬(((s.channels.get k).step = .ramp ∨ (s.channels.get k).step = .settle)
      ∧ (s.boundRecipe k).target - (s.boundRecipe k).band ≤ s.tauOf k counts
      ∧ (s.boundRecipe k).settleSamples
        ≤ (if (s.channels.get k).step = .settle then (s.channels.get k).settle + 1 else 1))) :
    exec (.torqueTimeLimit k counts) s = exec (.torqueStep k counts) s := by
  have harm : exec (.torqueTimeLimit k counts) s = execTorqueTimeLimit k counts s := rfl
  have harm' : exec (.torqueStep k counts) s = execTorqueStep k counts s := rfl
  have hphase : s.phaseRuns k = true := by simp [State.phaseRuns, Channel.phaseRuns, hruns]
  have htau : (setTorque k counts s).torqueSample k = s.tauOf k counts := by
    rw [State.torqueSample]
    simp only [setTorque, Four.get_modify_same]
    rfl
  have hsettled : ((stepChannel k (setTorque k counts s)).channels.get k).settled (s.boundRecipe k) = false := by
    rw [← Bool.not_eq_true, stepChannel, modChannel_channels, Four.get_modify_same, htau]
    exact fun h => hopen ((act_settled _ _ _ _ _ _).1 h)
  have hends : s.timeEnds k counts = true := by simp [State.timeEnds, hphase, htime, hsettled]
  rw [harm, harm', execTorqueTimeLimit, execTorqueStep, unlessReset_out _ s hreset, unlessReset_out _ s hreset]
  exact congrArg Host.Outcome.next
    ((whenever_true (fun x => x.timeEnds k counts) _ _ hends).trans (whenever_true _ _ _ hphase).symm)

theorem act_threadFind {r : Recipe} {x : Channel} (ceiling tau : Nat) (h : x.step = .threadFind)
    (htime : r.threadFindTime ≤ x.steps) :
    x.act r ceiling tau = { x.stop .gap with step := .gap, ceiling := ceiling } := by
  unfold Channel.act
  rw [h]
  exact if_pos htime

theorem act_gap (r : Recipe) {x : Channel} (ceiling tau : Nat) (h : x.step = .gap) :
    x.act r ceiling tau = x.gapStep r ceiling := by
  unfold Channel.act
  rw [h]

/-- Settles O42: the ends of THREAD-FIND and GAP, and of the phase at its time limit. -/
theorem threadFindGapAndTimeLimitEnd : Obligations.ThreadFindGapAndTimeLimitEnd := by
  constructor
  · intro k counts s hreset hshort x r u ceiling
    have hstepped := stepped_of k counts s
    obtain ⟨m, hm⟩ := hstepped.channel
    constructor
    · intro hstep htime
      have hsame := exec_threadFindEnd counts hreset hstep htime
      have hstep' := stepEnds counts hreset (by rw [hstep]; decide) (fun h => by cases hstep.symm.trans h)
      rw [if_neg fun h => (by rcases h.1 with h | h <;> cases hstep.symm.trans h), if_neg (Nat.not_le.2 hshort)] at hstep'
      exact ⟨_, hsame.trans hstep', hstep', ⟨m, hm.trans (act_threadFind _ _ (by exact hstep) (by exact htime))⟩,
        hstepped.slots, hstepped.draws, hstepped.unit, hstepped.view, hstepped.ground⟩
    · intro hstep hoc
      have hsame := exec_gapEnd counts hreset hstep
      have hstep' := stepEnds counts hreset (by rw [hstep]; decide) (fun _ => hoc)
      rw [if_neg fun h => (by rcases h.1 with h | h <;> cases hstep.symm.trans h), if_neg (Nat.not_le.2 hshort)] at hstep'
      exact ⟨_, hsame.trans hstep', hstep', ⟨m, hm.trans (act_gap _ _ _ (by exact hstep))⟩,
        hstepped.slots, hstepped.draws, hstepped.unit, hstepped.view, hstepped.ground⟩
  · intro k counts s hreset hbound hphase hrel htime tau threshold run final hfinal
    have hruns : (s.channels.get k).step ≠ .none := by
      rcases hfinal with ⟨h | h, -, -⟩ | ⟨h, -⟩ | ⟨h, -, -⟩ <;> rw [h] <;> decide
    have hgap : (s.channels.get k).step = .gap → (s.pins.heads.get k).oc = false := fun hg => by
      rcases hfinal with ⟨h | h, -, -⟩ | ⟨h, -⟩ | ⟨-, hoc, -⟩
      · cases hg.symm.trans h
      · cases hg.symm.trans h
      · cases hg.symm.trans h
      · exact hoc
    have hopen : ¬(((s.channels.get k).step = .ramp ∨ (s.channels.get k).step = .settle)
        ∧ threshold ≤ tau ∧ (s.boundRecipe k).settleSamples ≤ run) := fun ⟨hd, hlevel, hlast⟩ => by
      rcases hfinal with ⟨-, h, -⟩ | ⟨h, -⟩ | ⟨h, -, -⟩
      · exact Nat.not_le.2 (h hlevel) hlast
      · rcases hd with hd | hd <;> cases hd.symm.trans h
      · rcases hd with hd | hd <;> cases hd.symm.trans h
    have hsame := exec_torqueTimeLimit hreset hruns htime hopen
    have hstep := stepEnds counts hreset hruns hgap
    rw [if_neg (by exact hopen), if_pos htime] at hstep
    obtain ⟨hchannel, hdwell, hjar, hsteady⟩ := @finish_dwells k counts s .time hphase hrel hbound
    obtain ⟨_, _, _, hrecord⟩ := hjar.record
    obtain ⟨m, hm⟩ := (stepped_of k counts s).channel
    obtain ⟨-, -, hlast⟩ := act_fields (s.boundRecipe k) (s.ceilingOf k) (s.tauOf k counts)
      ((s.channels.get k).steps + 1) m hruns
    have htauFinal : ((State.stepped k counts s).channels.get k).tauFinal .time = final := by
      change ((State.stepped k counts s).channels.get k).last.getD 0 = final
      rw [hm, hlast]
      rcases hfinal with ⟨h, -, hf⟩ | ⟨h, hf⟩ | ⟨h, -, hf⟩
      · rw [if_pos h, hf]
        rfl
      · rw [if_neg fun hd => (by rcases hd with hd | hd <;> cases hd.symm.trans h), hf]
      · rw [if_neg fun hd => (by rcases hd with hd | hd <;> cases hd.symm.trans h), hf]
    refine ⟨_, hsame.trans hstep, hstep, ?_⟩
    rw [hchannel, hrecord]
    exact ⟨rfl, rfl, rfl, rfl, rfl, hdwell, rfl, htauFinal, hsteady.and⟩

/-! ## The overcurrent trip (R124, R127, R130, R131) -/

theorem exec_overcurrentTrip {k : Fin 4} {s : State} (hreset : s.inReset = none) :
    exec (.overcurrentTrip k) s = .next (tripOvercurrent k (setOvercurrent k true s)) := by
  have harm : exec (.overcurrentTrip k) s = execOvercurrentTrip k s := rfl
  rw [harm, execOvercurrentTrip, unlessReset_out _ s hreset]

theorem Channel.drivesNow_iff (x : Channel) : x.drivesNow = true ↔ x.state = .forward ∨ x.state = .reverse := by
  unfold Channel.drivesNow
  cases x.state <;> simp

theorem tripOvercurrent_idle {k : Fin 4} {s : State} (h : (s.channels.get k).drivesNow = false) :
    tripOvercurrent k s = s :=
  if_neg (by rw [h]; exact Bool.false_ne_true)

/-- A trip of a driving channel: the channel's part, and the forced run of its motor ended (R124, R131). -/
theorem tripOvercurrent_trips {k : Fin 4} {s : State} (h : (s.channels.get k).drivesNow = true) :
    (tripOvercurrent k s).channels = s.channels.modify k Channel.overcurrent
    ∧ (tripOvercurrent k s).forces k .drive = false := by
  have hcleared : (clearForcedDrive k s).forces k .drive = false := by
    rw [← Bool.not_eq_true, clearForcedDrive_forces]
    exact fun hf => hf.2 rfl
  unfold tripOvercurrent
  rw [if_pos h]
  split
  · obtain ⟨hchannels, hservice⟩ := endPhase_channel k .trip (decide (2 ≤ (s.channels.get k).count)) Channel.overcurrent
      (clearForcedDrive k s)
    exact ⟨by rw [hchannels, clearForcedDrive_channels], by rw [State.forces, hservice]; exact hcleared⟩
  · split
    · exact ⟨by rw [modEngine_channels, modChannel_channels, clearForcedDrive_channels], hcleared⟩
    · exact ⟨by rw [modChannel_channels, clearForcedDrive_channels], hcleared⟩

theorem clearForcedDrive_reached (k : Fin 4) (s : State) (x : Threshold) :
    (clearForcedDrive k s).reached k x = s.reached k x := by
  rw [State.reached, clearForcedDrive_tracks, State.reached]

/-- A trip within a torque phase before A_rel: DWELL with the out mark of the third trip, and DRIVE_TRIP (R121, R130). -/
theorem tripOvercurrent_dwells {k : Fin 4} {s : State} (h : (s.channels.get k).drivesNow = true)
    (hruns : (s.channels.get k).step ≠ .none) (hphase : (s.engines.get k).phase = .torque)
    (hrel : s.reached k .rel = false) (hbound : (s.slots.get k).state = .bound) :
    (tripOvercurrent k s).engines.get k = { s.engines.get k with
      phase := .dwell, out := (s.engines.get k).out || decide (2 ≤ (s.channels.get k).count) }
    ∧ (Slot.torqued .trip (s.channels.get k) (s.slots.get k)).sameJar ((tripOvercurrent k s).slots.get k) := by
  have htrip : tripOvercurrent k s = endPhase k .trip (decide (2 ≤ (s.channels.get k).count)) Channel.overcurrent
      (clearForcedDrive k s) := by
    unfold tripOvercurrent
    rw [if_pos h, if_pos (by simp [Channel.phaseRuns, hruns])]
  have hdwells := @endPhase_dwells k (clearForcedDrive k s) .trip (decide (2 ≤ (s.channels.get k).count))
    Channel.overcurrent (by rw [clearForcedDrive_engines]; exact hphase)
    ((clearForcedDrive_reached k s .rel).trans hrel) (by rw [clearForcedDrive_slots]; exact hbound)
  rwa [clearForcedDrive_engines, clearForcedDrive_channels, clearForcedDrive_slots, ← htrip] at hdwells

/-- Settles O43: a driving channel trips, within or outside a torque phase, and no other does. -/
theorem overcurrentTripsADrivingChannel : Obligations.OvercurrentTripsADrivingChannel := by
  intro k s hreset x
  rw [exec_overcurrentTrip hreset]
  have hset : Steady s (setOvercurrent k true s) := ⟨rfl, rfl, rfl, rfl⟩
  constructor
  · intro hdrives
    have hnow : ((setOvercurrent k true s).channels.get k).drivesNow = true := (Channel.drivesNow_iff x).2 hdrives
    obtain ⟨hchannels, hforces⟩ := tripOvercurrent_trips hnow
    have hchannel : (tripOvercurrent k (setOvercurrent k true s)).channels.get k = x.overcurrent := by
      rw [hchannels, Four.get_modify_same]
      rfl
    have hsteady := hset.trans (@Acts.tripOvercurrent k _ (setOvercurrent k true s) Acts.refl).steady
    refine ⟨_, rfl, ?_⟩
    rw [hchannel]
    refine ⟨rfl, rfl, rfl, rfl, rfl, rfl, hforces, fun hstep hbound hphase hrel => ?_, hsteady.and⟩
    obtain ⟨hengine, hjar⟩ := tripOvercurrent_dwells hnow hstep hphase hrel hbound
    obtain ⟨_, _, _, hrecord⟩ := hjar.record
    rw [hengine, hrecord]
    exact ⟨rfl, rfl, rfl, rfl, rfl⟩
  · intro hrest
    have hidle : ((setOvercurrent k true s).channels.get k).drivesNow = false := by
      rw [← Bool.not_eq_true, Channel.drivesNow_iff]
      rintro (h | h) <;> rcases hrest with h' | h' | h' <;> cases h.symm.trans h'
    rw [tripOvercurrent_idle hidle]
    rfl

end Sys2Proof.Machine

/-! PROOFS. Draws asked for and draws forced: what the head and its draw are after the arbiter's run, and after a latest
start (R88, R97, R141, R144 to R151); the decision of the drive phase (R97). -/

namespace Sys2Proof.Machine
open Sys2Proof

/-! ## An ask taken (R141, R144) -/

/-- Head `k`, of engine `x` before, waits with its ask `a`, or has been granted it. -/
def Awaits (k : Fin 4) (a : Ask) (x : Engine) (s : State) : Prop :=
  (s.engines.get k = x ∧ (s.draws.get k).status = .none ∧ (s.draws.get k).ask = some a)
  ∨ (s.engines.get k = x.granted ∧ (s.draws.get k).status = .pending ∧ (s.draws.get k).ask = none
    ∧ (s.draws.get k).terms = some a ∧ (s.draws.get k).openFrame = .inQueue)

/-- A move that touches neither the engine nor the draw of head `k`, but for its closing marks, leaves it waiting. -/
theorem Awaits.congr {k : Fin 4} {a : Ask} {x : Engine} {s t : State} (h : Awaits k a x s)
    (hengine : t.engines.get k = s.engines.get k) (hdraw : (s.draws.get k).sameDraw (t.draws.get k)) : Awaits k a x t := by
  obtain ⟨p, hp⟩ := hdraw
  unfold Awaits
  rw [hengine, hp]
  exact h

theorem OwnDraw.sameDraw.refl (d : OwnDraw) : d.sameDraw d := ⟨_, rfl⟩

theorem Move.awaits {k : Fin 4} {a : Ask} {x : Engine} {s t : State} (h : Move false s t) (hs : Awaits k a x s) :
    Awaits k a x t := by
  cases h with
  | consult | refuse | position | reannounce | offer | queued | waiting => exact hs.congr rfl (.refl _)
  | closed j c =>
    refine hs.congr rfl ?_
    by_cases hj : k = j
    · rw [hj, modDraw_draws, Four.get_modify_same]
      exact ⟨_, rfl⟩
    · rw [modDraw_draws, Four.get_modify_other _ _ hj]
      exact .refl _
  | grant j b hmode hask hfits haccepts =>
    by_cases hj : k = j
    · subst hj
      rcases hs with ⟨hengine, -, hown⟩ | ⟨-, -, hnone, -⟩
      · obtain rfl : b = a := Option.some.inj (hask.symm.trans hown)
        refine .inr ?_
        simp [OwnDraw.granted, enqueue, hengine]
      · cases hask.symm.trans hnone
    · refine hs.congr ?_ ?_
      · rw [modEngine_engines, Four.get_modify_other _ _ hj]
        rfl
      · rw [modEngine_draws, modDraw_draws, Four.get_modify_other _ _ hj]
        exact .refl _
  | withdraw j hw => exact absurd hw Bool.false_ne_true

theorem Moves.awaits {k : Fin 4} {a : Ask} {x : Engine} {s t : State} (h : Moves false s t) (hs : Awaits k a x s) :
    Awaits k a x t :=
  h.preserve (fun _ _ hmove => hmove.awaits) hs

theorem takeAsk_awaits {k : Fin 4} {s : State} (c : DrawClass) (h : (s.draws.get k).status = .none) :
    Awaits k (s.askOf k c) (s.engines.get k) (takeAsk k c s) := by
  unfold takeAsk
  rw [if_pos h]
  refine (moves_arbiter c _).awaits (.inl ⟨rfl, ?_, ?_⟩)
  · rw [modDraw_draws, Four.get_modify_same]
    exact h
  · rw [modDraw_draws, Four.get_modify_same]

theorem grantOne_slots (s : State) (k : Fin 4) : (grantOne s k).slots = s.slots := by
  unfold grantOne
  split
  · rfl
  · split
    · split <;> rfl
    · rfl

/-- A run of the arbiter touches no jar. -/
theorem arbiter_slots (c : DrawClass) (s : State) : (arbiter c s).slots = s.slots := by
  unfold arbiter
  split
  · exact foldl_keeps State.slots grantOne grantOne_slots _ _
  · rfl

theorem takeAsk_slots (k : Fin 4) (c : DrawClass) (s : State) : (takeAsk k c s).slots = s.slots := by
  unfold takeAsk
  split
  · exact arbiter_slots c _
  · rfl

/-! ## A draw opened forced (R150, R151) -/

/-- The draw of a latest start, open before its open is reported. -/
def opensForced (k : Fin 4) (c : DrawClass) (s : State) : State :=
  if (s.draws.get k).status = .pending then modDraw k (fun d => { d with status := .openForced }) s
  else openWaiting k (s.askOf k c) s

theorem forceOpen_eq (k : Fin 4) (c : DrawClass) (s : State) :
    forceOpen k c s = checkAndRun c (headOpens k c (writeRecord k (Record.forced c) (opensForced k c s))) := rfl

/-- What a latest start has opened: the terms and the frame of a PENDING draw, or those of the head's recipe. -/
structure OpensForced (k : Fin 4) (a : Ask) (s t : State) : Prop extends Steady s t where
  motion   : t.tracker = s.tracker
  pins     : t.pins = s.pins
  engines  : t.engines = s.engines
  channels : t.channels = s.channels
  slots    : t.slots = s.slots
  status   : (t.draws.get k).status = .openForced
  ask      : (t.draws.get k).ask = none
  pending  : (s.draws.get k).status = .pending →
    (t.draws.get k).terms = (s.draws.get k).terms ∧ (t.draws.get k).openFrame = (s.draws.get k).openFrame
  waiting  : (s.draws.get k).status = .none → (t.draws.get k).terms = some a
    ∧ (t.draws.get k).openFrame = if s.accepts .drawOpen [byte k.val] then .inQueue else .none

/-- Whether a DRAW-OPEN is accepted depends on its head alone (R40). -/
theorem accepts_drawOpen (s : State) (k : Fin 4) (a : Ask) (life : Nat) :
    s.accepts .drawOpen (openPayload k a life) = s.accepts .drawOpen [byte k.val] := rfl

theorem opensForced_pending {k : Fin 4} {s : State} (c : DrawClass) (hstatus : (s.draws.get k).status = .pending)
    (hask : (s.draws.get k).ask = none) : OpensForced k (s.askOf k c) s (opensForced k c s) := by
  have hopens : opensForced k c s = modDraw k (fun d => { d with status := .openForced }) s := if_pos hstatus
  rw [hopens]
  have hdraw : (modDraw k (fun d => { d with status := .openForced }) s).draws.get k
      = { s.draws.get k with status := .openForced } := by rw [modDraw_draws, Four.get_modify_same]
  refine ⟨.of_still rfl, rfl, rfl, rfl, rfl, rfl, ?_, ?_, fun _ => ?_, fun h => ?_⟩
  · rw [hdraw]
  · rw [hdraw]
    exact hask
  · rw [hdraw]
    exact ⟨rfl, rfl⟩
  · cases hstatus.symm.trans h

theorem opensForced_waiting {k : Fin 4} {s : State} (c : DrawClass) (hstatus : (s.draws.get k).status = .none) :
    OpensForced k (s.askOf k c) s (opensForced k c s) := by
  have hnot : (s.draws.get k).status ≠ .pending := by rw [hstatus]; decide
  have hopens : opensForced k c s = openWaiting k (s.askOf k c) s := if_neg hnot
  rw [hopens, openWaiting, accepts_drawOpen]
  split
  · next haccepts =>
    refine ⟨.of_still rfl, rfl, rfl, rfl, rfl, rfl, ?_, ?_, fun h => absurd h hnot, fun _ => ?_⟩ <;>
      rw [modDraw_draws, Four.get_modify_same]
    · rfl
    · exact ⟨rfl, (if_pos haccepts).symm⟩
  · next hrefuses =>
    refine ⟨.of_still rfl, rfl, rfl, rfl, rfl, rfl, ?_, ?_, fun h => absurd h hnot, fun _ => ?_⟩ <;>
      rw [modDraw_draws, Four.get_modify_same]
    exact ⟨rfl, (if_neg hrefuses).symm⟩

theorem OpensForced.quiet {k : Fin 4} {a : Ask} {s t : State} (h : OpensForced k a s t) : t.quiet k :=
  ⟨h.ask, by rw [h.status]; decide⟩

/-- The torque phase of a draw that opens on a channel in OFF with its comparator inactive (R99, R114). -/
theorem enterTorque_starts {k : Fin 4} {s : State} (hoff : (s.channels.get k).state = .off)
    (hoc : (s.pins.heads.get k).oc = false) : enterTorque k s
      = modChannel k (Channel.startPhase (s.boundRecipe k) (s.ceilingOf k))
        (modEngine k (fun x => { x with phase := .torque, asking := false }) s) := by
  unfold enterTorque
  dsimp only
  rw [if_neg (by rw [hoff]; decide)]
  exact watchComparator_inactive hoc

theorem headOpens_drive {k : Fin 4} {s : State}
    (h : (s.engines.get k).phase = .driveWait ∨ (s.engines.get k).phase = .driveAnnounced) :
    headOpens k .drive s = enterTorque k s := by
  unfold headOpens
  rcases h with h | h <;> rw [h]

theorem headOpens_steam {k : Fin 4} {s : State}
    (h : (s.engines.get k).phase = .steamWait ∨ (s.engines.get k).phase = .steamAnnounced) :
    headOpens k .steam s = enterFlush k s := by
  unfold headOpens
  rcases h with h | h <;> rw [h]

theorem startPhase_state (r : Recipe) (ceiling : Nat) (x : Channel) :
    (x.startPhase r ceiling).state = (if r.threadFindTime = 0 then .gap else .reverse)
    ∧ (x.startPhase r ceiling).step = (if r.threadFindTime = 0 then .gap else .threadFind) := by
  unfold Channel.startPhase
  dsimp only
  split <;> exact ⟨rfl, rfl⟩

/-- A_dl forces the drive: the torque phase runs, the jar carries the mark, and the draw is what the start opened. -/
theorem forceOpen_drive {k : Fin 4} {s : State}
    (hphase : (s.engines.get k).phase = .driveWait ∨ (s.engines.get k).phase = .driveAnnounced)
    (hopens : OpensForced k (s.askOf k .drive) s (opensForced k .drive s))
    (hoff : (s.channels.get k).state = .off) (hoc : (s.pins.heads.get k).oc = false)
    (hbound : (s.slots.get k).state = .bound) :
    (forceOpen k .drive s).engines.get k = { s.engines.get k with phase := .torque, asking := false }
    ∧ ((opensForced k .drive s).draws.get k).sameDraw ((forceOpen k .drive s).draws.get k)
    ∧ ({ s.slots.get k with record := (s.slots.get k).record.forced .drive } : Slot).sameJar
      ((forceOpen k .drive s).slots.get k)
    ∧ ∃ ceiling, (forceOpen k .drive s).channels.get k = (s.channels.get k).startPhase (s.boundRecipe k) ceiling := by
  let marked := writeRecord k (Record.forced .drive) (opensForced k .drive s)
  let started := modChannel k (Channel.startPhase (marked.boundRecipe k) (marked.ceilingOf k))
    (modEngine k (fun x => { x with phase := .torque, asking := false }) marked)
  have hengine : marked.engines.get k = s.engines.get k := congrArg (Four.get · k) hopens.engines
  have hchannel : marked.channels.get k = s.channels.get k := congrArg (Four.get · k) hopens.channels
  have hpins : marked.pins = s.pins := hopens.pins
  have hstarts : headOpens k .drive marked = started := by
    rw [headOpens_drive (by rw [hengine]; exact hphase)]
    exact enterTorque_starts (by rw [hchannel]; exact hoff) (by rw [hpins]; exact hoc)
  have hrecipe : marked.boundRecipe k = s.boundRecipe k := State.boundRecipe_congr hopens.ground (by rw [hengine])
  have hjar : marked.slots.get k = { s.slots.get k with record := (s.slots.get k).record.forced .drive } := by
    have hslots : marked.slots = s.slots.modify k (Slot.write (Record.forced .drive)) :=
      congrArg (fun x => x.modify k (Slot.write (Record.forced .drive))) hopens.slots
    rw [hslots, Four.get_modify_same]
    exact Slot.write_bound _ _ hbound
  have hmoves : Moves true started (forceOpen k .drive s) := by
    rw [forceOpen_eq, hstarts]
    exact moves_checkAndRun .drive started
  have hquiet : started.quiet k := hopens.quiet
  have hafter := hmoves.undisturbed hquiet
  refine ⟨?_, hafter.draw, ?_, ⟨marked.ceilingOf k, ?_⟩⟩
  · rw [hafter.engine, ← hengine]
    exact Four.get_modify_same _ _ _
  · rw [← hjar]
    exact hafter.jars k
  · rw [hafter.channels, ← hrecipe, ← hchannel]
    exact Four.get_modify_same _ _ _

/-! ## A steam draw opened forced (R90, R91) -/

theorem closeDraw_quiet {k : Fin 4} {s : State} (h : s.quiet k) : (closeDraw k s).quiet k := by
  cases hterms : (s.draws.get k).terms with
  | none => rwa [closeDraw_no_terms hterms]
  | some a =>
    cases hopen : (s.draws.get k).isOpen with
    | false => rwa [closeDraw_idle hopen]
    | true => exact (closeDraw_closes hopen hterms).quiet

theorem enterFlush_flushes {k : Fin 4} {s : State} (hneeded : (s.slots.get k).record.fReq ≠ 0)
    (hturns : s.tracker.motion ≠ .stalled) : enterFlush k s
      = modEngine k (fun x => { x with steam := true, ms := 0 })
        (modEngine k (fun x => { x with phase := .flush, asking := false }) s) := by
  unfold enterFlush
  dsimp only
  rw [if_neg hneeded, if_neg hturns]

theorem enterFlush_unneeded {k : Fin 4} {s : State} (h : (s.slots.get k).record.fReq = 0) : enterFlush k s
    = endFlush k .complete (modEngine k (fun x => { x with phase := .flush, asking := false }) s) := by
  unfold enterFlush
  dsimp only
  rw [if_pos h]

/-- Whatever draw it closes, the end of a flush gives SEAT with the valve off and the press on, and the end kind in the
record of a bound jar (R94). -/
theorem endFlush_seats {k : Fin 4} {s : State} (kind : FlushEnd) (hbound : (s.slots.get k).state = .bound) :
    (endFlush k kind s).engines.get k
      = { s.engines.get k with steam := false, phase := .seat, press := true, samples := 0, ms := 0 }
    ∧ ({ s.slots.get k with record := { (s.slots.get k).record with flushEnd := kind } } : Slot).sameJar
      ((endFlush k kind s).slots.get k)
    ∧ (s.quiet k → (endFlush k kind s).quiet k) := by
  let written := writeRecord k (fun r => { r with flushEnd := kind }) (modEngine k (fun x => { x with steam := false }) s)
  obtain ⟨hback, hengine⟩ := closeDraw_keeps k written
  have hjar := hback.jars k
  have hwritten := @writeRecord_bound k (modEngine k (fun x => { x with steam := false }) s)
    (fun r => { r with flushEnd := kind }) hbound
  rw [hwritten] at hjar
  refine ⟨?_, hjar, fun hquiet => @closeDraw_quiet k written hquiet⟩
  have hstopped : written.engines.get k = { s.engines.get k with steam := false } := Four.get_modify_same _ _ _
  simp only [endFlush, modEngine_engines, Four.get_modify_same]
  rw [hengine, hstopped]

/-- A_fl forces the steam draw of a jar that needs a flush: FLUSH with the valve on. -/
theorem forceOpen_flush {k : Fin 4} {s : State}
    (hphase : (s.engines.get k).phase = .steamWait ∨ (s.engines.get k).phase = .steamAnnounced)
    (hopens : OpensForced k (s.askOf k .steam) s (opensForced k .steam s))
    (hturns : s.tracker.motion ≠ .stalled) (hbound : (s.slots.get k).state = .bound)
    (hneeded : (s.slots.get k).record.fReq ≠ 0) :
    (forceOpen k .steam s).engines.get k
      = { s.engines.get k with phase := .flush, asking := false, steam := true, ms := 0 }
    ∧ ((opensForced k .steam s).draws.get k).sameDraw ((forceOpen k .steam s).draws.get k)
    ∧ ({ s.slots.get k with record := (s.slots.get k).record.forced .steam } : Slot).sameJar
      ((forceOpen k .steam s).slots.get k) := by
  let marked := writeRecord k (Record.forced .steam) (opensForced k .steam s)
  have hengine : marked.engines.get k = s.engines.get k := congrArg (Four.get · k) hopens.engines
  have hjar : marked.slots.get k = { s.slots.get k with record := (s.slots.get k).record.forced .steam } := by
    have hslots : marked.slots = s.slots.modify k (Slot.write (Record.forced .steam)) :=
      congrArg (fun x => x.modify k (Slot.write (Record.forced .steam))) hopens.slots
    rw [hslots, Four.get_modify_same]
    exact Slot.write_bound _ _ hbound
  have hmotion : marked.tracker.motion ≠ .stalled := by
    have : marked.tracker = s.tracker := hopens.motion
    rw [this]
    exact hturns
  have hstarts : headOpens k .steam marked = modEngine k (fun x => { x with steam := true, ms := 0 })
      (modEngine k (fun x => { x with phase := .flush, asking := false }) marked) := by
    rw [headOpens_steam (by rw [hengine]; exact hphase)]
    exact enterFlush_flushes (by rw [hjar]; exact hneeded) hmotion
  have hmoves : Moves true (modEngine k (fun x => { x with steam := true, ms := 0 })
      (modEngine k (fun x => { x with phase := .flush, asking := false }) marked)) (forceOpen k .steam s) := by
    rw [forceOpen_eq, hstarts]
    exact moves_checkAndRun .steam _
  have hafter := hmoves.undisturbed hopens.quiet
  refine ⟨?_, hafter.draw, ?_⟩
  · rw [hafter.engine, ← hengine]
    simp
  · rw [← hjar]
    exact hafter.jars k

/-- A_fl forces the steam draw of a jar that needs no flush: SEAT with COMPLETE. -/
theorem forceOpen_seat {k : Fin 4} {s : State}
    (hphase : (s.engines.get k).phase = .steamWait ∨ (s.engines.get k).phase = .steamAnnounced)
    (hopens : OpensForced k (s.askOf k .steam) s (opensForced k .steam s))
    (hbound : (s.slots.get k).state = .bound) (hunneeded : (s.slots.get k).record.fReq = 0) :
    ((forceOpen k .steam s).engines.get k).phase = .seat ∧ ((forceOpen k .steam s).engines.get k).steam = false
    ∧ ({ s.slots.get k with record := { (s.slots.get k).record.forced .steam with flushEnd := .complete } } : Slot).sameJar
      ((forceOpen k .steam s).slots.get k) := by
  let marked := writeRecord k (Record.forced .steam) (opensForced k .steam s)
  let flushing := modEngine k (fun x => { x with phase := .flush, asking := false }) marked
  have hengine : marked.engines.get k = s.engines.get k := congrArg (Four.get · k) hopens.engines
  have hjar : flushing.slots.get k = { s.slots.get k with record := (s.slots.get k).record.forced .steam } := by
    have hslots : flushing.slots = s.slots.modify k (Slot.write (Record.forced .steam)) :=
      congrArg (fun x => x.modify k (Slot.write (Record.forced .steam))) hopens.slots
    rw [hslots, Four.get_modify_same]
    exact Slot.write_bound _ _ hbound
  have hstarts : headOpens k .steam marked = endFlush k .complete flushing := by
    rw [headOpens_steam (by rw [hengine]; exact hphase)]
    exact enterFlush_unneeded (by
      have : marked.slots.get k = _ := hjar
      rw [this]
      exact hunneeded)
  obtain ⟨hseat, hended, hquiet⟩ := @endFlush_seats k flushing .complete (by rw [hjar]; exact hbound)
  have hmoves : Moves true (endFlush k .complete flushing) (forceOpen k .steam s) := by
    rw [forceOpen_eq, hstarts]
    exact moves_checkAndRun .steam _
  have hafter := hmoves.undisturbed (hquiet hopens.quiet)
  rw [hjar] at hended
  refine ⟨?_, ?_, hended.trans (hafter.jars k)⟩
  · rw [hafter.engine, hseat]
  · rw [hafter.engine, hseat]

end Sys2Proof.Machine

/-! PROOFS. The decision of the drive phase after SEATED (R97, R123). -/

namespace Sys2Proof.Machine
open Sys2Proof

/-- Why a drive phase ends before it starts, where it does (R97, R123). -/
def State.endsBefore (s : State) (k : Fin 4) (kind : TorqueEnd) : Prop :=
  ((s.channels.get k).state = .tripped ∧ (s.channels.get k).causes.overcurrent = true ∧ kind = .trip)
  ∨ ((s.channels.get k).state = .tripped ∧ (s.channels.get k).causes.overcurrent = false ∧ kind = .aborted)
  ∨ ((s.channels.get k).state ≠ .tripped ∧ s.reached k .rel = true ∧ kind = .angle)

theorem decideDrive_ends {k : Fin 4} {s : State} {kind : TorqueEnd} (h : s.endsBefore k kind) :
    decideDrive k s = toDwell k (endBeforeStart k kind s) := by
  unfold decideDrive
  rcases h with ⟨htrip, hoc, rfl⟩ | ⟨htrip, hoc, rfl⟩ | ⟨hnot, hrel, rfl⟩
  · rw [if_pos htrip, Channel.beforeKind, if_pos hoc]
  · rw [if_pos htrip, Channel.beforeKind, if_neg (by rw [hoc]; exact Bool.false_ne_true)]
  · rw [if_neg hnot, if_pos hrel]

theorem decideDrive_asks {k : Fin 4} {s : State} (hnot : (s.channels.get k).state ≠ .tripped)
    (hrel : s.reached k .rel = false) (hdl : s.reached k .dl = false) :
    decideDrive k s = takeAsk k .drive (modEngine k (fun x => { x with phase := .driveWait, asking := true }) s) := by
  unfold decideDrive
  rw [if_neg hnot, if_neg (by rw [hrel]; exact Bool.false_ne_true), if_neg (by rw [hdl]; exact Bool.false_ne_true)]

theorem decideDrive_forces {k : Fin 4} {s : State} (hnot : (s.channels.get k).state ≠ .tripped)
    (hrel : s.reached k .rel = false) (hdl : s.reached k .dl = true) :
    decideDrive k s = forceOpen k .drive (modEngine k (fun x => { x with phase := .driveWait, asking := true }) s) := by
  unfold decideDrive
  rw [if_neg hnot, if_neg (by rw [hrel]; exact Bool.false_ne_true), if_pos hdl]

/-- The state in which a seated cap decides: the sample taken, and SEATED in the record. -/
def State.seated (k : Fin 4) (s : State) : State :=
  writeRecord k (fun r => { r with seat := .seated }) (State.sampled k true s)

structure Seated (k : Fin 4) (s t : State) : Prop extends Steady s t where
  comparator : (t.pins.heads.get k).oc = (s.pins.heads.get k).oc
  slot    : t.slots.get k = { s.slots.get k with record := { (s.slots.get k).record with seat := .seated } }
  draws   : t.draws = s.draws
  tracks  : t.tracks = s.tracks
  engine  : ∃ m, t.engines.get k = { s.engines.get k with ms := m, samples := (s.engines.get k).samples + 1 }
  channel : ∃ m, t.channels.get k = { s.channels.get k with ms := m }

theorem seated_of {k : Fin 4} {s : State} (hbound : (s.slots.get k).state = .bound) : Seated k s (State.seated k s) := by
  have hsampled := sampled_of k true s
  have hwritten := @writeRecord_bound k (State.sampled k true s) (fun r => { r with seat := .seated })
    (by rw [hsampled.slots]; exact hbound)
  refine ⟨hsampled.steady.trans (.of_still rfl), hsampled.comparator, ?_, hsampled.draws, hsampled.tracks,
    hsampled.engine, hsampled.channel⟩
  rw [State.seated, hwritten, hsampled.slots]

theorem Seated.reached {k : Fin 4} {s t : State} (h : Seated k s t) (x : Threshold) : t.reached k x = s.reached k x := by
  rw [State.reached, h.tracks, State.reached]

theorem Seated.endsBefore {k : Fin 4} {s t : State} (h : Seated k s t) {kind : TorqueEnd} (hs : s.endsBefore k kind) :
    t.endsBefore k kind := by
  obtain ⟨m, hm⟩ := h.channel
  unfold State.endsBefore
  rw [hm, h.reached]
  exact hs

/-- The head's request for its drive draw, from the recipe of its jar. -/
theorem Seated.askOf {k : Fin 4} {s t : State} (h : Seated k s t) (f : Engine → Engine)
    (hf : ∀ x, (f x).recipe = x.recipe) : (modEngine k f t).askOf k .drive
      = ⟨.drive, (s.boundRecipe k).driveUnits, (s.boundRecipe k).aDl, (s.boundRecipe k).aRel⟩ := by
  obtain ⟨m, hm⟩ := h.engine
  have hrecipe : (modEngine k f t).boundRecipe k = s.boundRecipe k :=
    State.boundRecipe_congr h.ground (by rw [modEngine_engines, Four.get_modify_same, hf, hm])
  rw [State.askOf, hrecipe]

/-- A phase that ends before it starts: the end kind with τ 0 and, for TRIP, the reason DRIVE_TRIP (R123). -/
theorem endBeforeStart_slot {k : Fin 4} {s : State} (kind : TorqueEnd) (hbound : (s.slots.get k).state = .bound) :
    (endBeforeStart k kind s).slots.get k
      = { s.slots.get k with record := Record.torqueDone kind 0 0 (s.slots.get k).record } :=
  writeRecord_bound _ hbound

/-- Settles O40: the cases of R97, in their order. -/
theorem seatedCapDecidesTheDrive : Obligations.SeatedCapDecidesTheDrive := by
  intro k s hreset hphase hbound hstatus x q
  have hseated := seated_of hbound
  obtain ⟨m, hengine⟩ := hseated.engine
  obtain ⟨n, hchannel⟩ := hseated.channel
  have hslot := hseated.slot
  have hbound' : ((State.seated k s).slots.get k).state = .bound := by rw [hslot]; exact hbound
  have hexec : exec (.seatSample k true) s = .next (decideDrive k (State.seated k s)) := by
    rw [exec_seatSample true hreset hphase, seatSample_seated]
    rfl
  have hsteady : Steady s (decideDrive k (State.seated k s)) :=
    hseated.toSteady.trans (@Acts.decideDrive k _ (State.seated k s) Acts.refl).steady
  refine ⟨_, hexec, fun kind hkind => ?_, fun hnot hrel hdl => ?_, fun hoff hrel hdl hoc => ?_, hsteady.and⟩
  · rw [decideDrive_ends (hseated.endsBefore hkind)]
    have hended := endBeforeStart_slot kind hbound'
    rw [hslot] at hended
    refine ⟨fun hrel => ?_, fun hrel => ?_⟩
    · have hwaits : (endBeforeStart k kind (State.seated k s)).reached k .rel = false := (hseated.reached .rel).trans hrel
      rw [toDwell_engine_waits hwaits, toDwell_slots_waits hwaits, hended]
      refine ⟨rfl, ?_, hbound, rfl, rfl, rfl, rfl, fun htrip => ?_⟩
      · change ((State.seated k s).engines.get k).press = _
        rw [hengine]
      · subst htrip
        rfl
    · have hreleases : (endBeforeStart k kind (State.seated k s)).reached k .rel = true := (hseated.reached .rel).trans hrel
      have hout : ((endBeforeStart k kind (State.seated k s)).engines.get k).out = (s.engines.get k).out := by
        change ((State.seated k s).engines.get k).out = _
        rw [hengine]
      rw [toDwell_engine_released hreleases]
      refine ⟨rfl, rfl, by rw [← hout], fun hpassed => ?_⟩
      have hjar := toDwell_jar_released hreleases (by rw [hended]; exact hbound) (by rw [hended]; exact hpassed)
      rw [hended] at hjar
      have hsettled := hjar.state
      obtain ⟨_, _, _, hrecord⟩ := hjar.record
      rw [hrecord]
      refine ⟨hsettled, ⟨rfl, rfl, rfl, rfl, fun htrip => ?_⟩, Option.some_ne_none _⟩
      obtain ⟨v, l, h, hreasons⟩ := checkedReasons_eq ((endBeforeStart k kind (State.seated k s)).boundRecipe k)
        (Record.torqueDone kind 0 0 { (s.slots.get k).record with seat := .seated })
      subst htrip
      exact congrArg Reasons.driveTrip hreasons
  · have hnot' : ((State.seated k s).channels.get k).state ≠ .tripped := by rw [hchannel]; exact hnot
    rw [decideDrive_asks hnot' ((hseated.reached .rel).trans hrel) ((hseated.reached .dl).trans hdl)]
    have hawaits := @takeAsk_awaits k
      (modEngine k (fun x => { x with phase := .driveWait, asking := true }) (State.seated k s)) .drive
      (by change ((State.seated k s).draws.get k).status = _; rw [hseated.draws]; exact hstatus)
    rw [hseated.askOf (fun x => { x with phase := .driveWait, asking := true }) fun _ => rfl, modEngine_engines, Four.get_modify_same] at hawaits
    refine ⟨?_, ?_⟩
    · rw [takeAsk_slots]
      change ((State.seated k s).slots.get k).record.seat = _
      rw [hslot]
    · rcases hawaits with ⟨he, hs, ha⟩ | ⟨he, hs, -, -, hf⟩
      · exact .inl ⟨by rw [he], hs, ha⟩
      · exact .inr ⟨by rw [he]; rfl, hs, hf⟩
  · have hnot' : ((State.seated k s).channels.get k).state ≠ .tripped := by rw [hchannel]; exact (hoff ▸ by decide)
    rw [decideDrive_forces hnot' ((hseated.reached .rel).trans hrel) ((hseated.reached .dl).trans hdl)]
    let waiting := modEngine k (fun x => { x with phase := .driveWait, asking := true }) (State.seated k s)
    have hwait : (waiting.engines.get k).phase = .driveWait := by
      rw [modEngine_engines, Four.get_modify_same]
    have hnone : (waiting.draws.get k).status = .none := by
      change ((State.seated k s).draws.get k).status = _
      rw [hseated.draws]
      exact hstatus
    have hopens := opensForced_waiting .drive hnone
    have hrecipe : waiting.boundRecipe k = s.boundRecipe k :=
      State.boundRecipe_congr hseated.ground (by rw [modEngine_engines, Four.get_modify_same, hengine])
    obtain ⟨he, hdraw, hjar, ⟨ceiling, hc⟩⟩ := forceOpen_drive (.inl hwait) hopens
      (by change ((State.seated k s).channels.get k).state = _; rw [hchannel]; exact hoff)
      (by change ((State.seated k s).pins.heads.get k).oc = _; rw [hseated.comparator]; exact hoc) hbound'
    obtain ⟨p, hp⟩ := hdraw
    obtain ⟨_, _, _, hrecord⟩ := hjar.record
    obtain ⟨hphases, -⟩ := startPhase_state (s.boundRecipe k) ceiling (waiting.channels.get k)
    rw [he, hp, hc, hrecord, hrecipe]
    refine ⟨?_, rfl, hopens.status, rfl, hphases⟩
    change ((State.seated k s).slots.get k).record.seat = _
    rw [hslot]

end Sys2Proof.Machine

/-! PROOFS. The reports of thresholds: what a report leaves on a head's list, and the row THRESHOLD_REACHED (R13, R84 to
R86, R101). -/

namespace Sys2Proof.Machine
open Sys2Proof

/-! ## Marks -/

theorem Marks.get_set (m : Marks) (x y : Threshold) : (m.set x).get y = (m.get y || decide (y = x)) := by
  cases x <;> cases y <;> simp [Marks.get, Marks.set]

theorem Marks.get_withoutRecipe (m : Marks) {y : Threshold} (h : y.isProfile = true) : m.withoutRecipe.get y = m.get y := by
  cases y with
  | intakeClose | discharge => rfl
  | cap | fe | fl | fx | dl | rel => cases h

theorem markReached_reached (k : Fin 4) (x y : Threshold) (s : State) :
    (markReached k x s).reached k y = (s.reached k y || decide (y = x)) := by
  rw [State.reached, markReached, modTrack_tracks, Four.get_modify_same]
  exact Marks.get_set _ _ _

/-! ## What the reports to the head leave of its list -/

/-- The marks and the list of head `k` are kept, or, with a release, the recipe's thresholds leave both (R101). -/
def Relists (k : Fin 4) (s t : State) : Prop :=
  (t.tracks.get k = s.tracks.get k ∧ (t.engines.get k).recipe = (s.engines.get k).recipe)
  ∨ (t.tracks.get k = { s.tracks.get k with marks := (s.tracks.get k).marks.withoutRecipe }
    ∧ (t.engines.get k).recipe = none)

namespace Relists
variable {k : Fin 4} {s t u : State}

theorem same (htracks : t.tracks.get k = s.tracks.get k)
    (hrecipe : (t.engines.get k).recipe = (s.engines.get k).recipe) : Relists k s t := .inl ⟨htracks, hrecipe⟩

theorem refl : Relists k s s := same rfl rfl

theorem trans (h : Relists k s t) (h' : Relists k t u) : Relists k s u := by
  rcases h' with ⟨htracks', hrecipe'⟩ | ⟨htracks', hrecipe'⟩
  · rcases h with ⟨htracks, hrecipe⟩ | ⟨htracks, hrecipe⟩
    · exact .inl ⟨htracks'.trans htracks, hrecipe'.trans hrecipe⟩
    · exact .inr ⟨htracks'.trans htracks, hrecipe'.trans hrecipe⟩
  · refine .inr ⟨?_, hrecipe'⟩
    rcases h with ⟨htracks, -⟩ | ⟨htracks, -⟩
    · rw [htracks', htracks]
    · rw [htracks', htracks]
      rfl

theorem engine (f : Engine → Engine) (h : Relists k s t) (hf : ∀ x, (f x).recipe = x.recipe := by intro _; rfl) :
    Relists k s (modEngine k f t) :=
  h.trans (.same rfl (by rw [modEngine_engines, Four.get_modify_same, hf]))

theorem record (f : Record → Record) (h : Relists k s t) : Relists k s (writeRecord k f t) := h.trans (.same rfl rfl)

theorem channel (f : Channel → Channel) (h : Relists k s t) : Relists k s (modChannel k f t) := h.trans (.same rfl rfl)

theorem moves {w : Bool} (h : Relists k s t) (h' : Moves w t u) : Relists k s u :=
  h.trans (.same (h'.bystander k).track (h'.bystander k).engine.recipe)

theorem closeDraw (h : Relists k s t) : Relists k s (closeDraw k t) := by
  obtain ⟨hback, hengine⟩ := closeDraw_keeps k t
  exact h.trans (.same (congrArg (Four.get · k) hback.tracks) (congrArg Engine.recipe hengine))

theorem release (h : Relists k s t) : Relists k s (release k t) := by
  refine h.trans (.inr ⟨?_, by rw [release_engine]⟩)
  simp [Machine.release]

theorem toDwell (h : Relists k s t) : Relists k s (toDwell k t) := by
  cases hrel : t.reached k .rel with
  | false =>
    rw [toDwell_waits hrel]
    exact h.engine _
  | true =>
    rw [toDwell_releases hrel]
    exact (h.engine _).release

theorem torqueEnded (out : Bool) (h : Relists k s t) : Relists k s (torqueEnded k out t) := by
  unfold Machine.torqueEnded
  split
  · exact (h.closeDraw.engine _).toDwell
  · exact h

theorem endPhase (kind : TorqueEnd) (out : Bool) (f : Channel → Channel) (h : Relists k s t) :
    Relists k s (endPhase k kind out f t) :=
  ((h.record _).channel f).torqueEnded out

theorem tripOvercurrent (h : Relists k s t) : Relists k s (tripOvercurrent k t) := by
  have hcleared : Relists k s (clearForcedDrive k t) :=
    h.trans (.same (by rw [clearForcedDrive_tracks]) (by rw [clearForcedDrive_engines]))
  unfold Machine.tripOvercurrent
  split
  · split
    · exact hcleared.endPhase _ _ _
    · split
      · refine (hcleared.channel _).engine _ fun x => ?_
        unfold Engine.takenOut
        split <;> rfl
      · exact hcleared.channel _
  · exact h

theorem watchComparator (h : Relists k s t) : Relists k s (watchComparator k t) := by
  unfold Machine.watchComparator
  split
  · exact h.tripOvercurrent
  · exact h

theorem endFlush (kind : FlushEnd) (h : Relists k s t) : Relists k s (endFlush k kind t) :=
  ((h.engine _).record _).closeDraw.engine _

theorem enterFlush (h : Relists k s t) : Relists k s (enterFlush k t) := by
  have hentered := h.engine (fun x => { x with phase := .flush, asking := false })
  unfold Machine.enterFlush
  dsimp only
  split
  · exact hentered.endFlush _
  · split
    · exact hentered.endFlush _
    · exact hentered.engine _

theorem enterTorque (h : Relists k s t) : Relists k s (enterTorque k t) := by
  have hentered := h.engine (fun x => { x with phase := .torque, asking := false })
  unfold Machine.enterTorque
  dsimp only
  split
  · exact (hentered.record _).torqueEnded _
  · exact (hentered.channel _).watchComparator

theorem headOpens (c : DrawClass) (h : Relists k s t) : Relists k s (headOpens k c t) := by
  unfold Machine.headOpens
  split
  · exact h.enterFlush
  · exact h.enterFlush
  · exact h.enterTorque
  · exact h.enterTorque
  · exact h

theorem forceOpen (c : DrawClass) (h : Relists k s t) : Relists k s (forceOpen k c t) := by
  have hopens : Relists k t (opensForced k c t) := by
    unfold opensForced openWaiting
    split
    · exact .same rfl rfl
    · split <;> exact .same rfl rfl
  rw [forceOpen_eq]
  exact (((h.trans hopens).record _).headOpens c).moves (moves_checkAndRun c _)

theorem takeAsk (c : DrawClass) (h : Relists k s t) : Relists k s (takeAsk k c t) := by
  unfold Machine.takeAsk
  split
  · have hasks : Relists k t (modDraw k (fun d => { d with ask := some (t.askOf k c) }) t) := .same rfl rfl
    exact (h.trans hasks).moves (@moves_arbiter false c _)
  · exact h

theorem beginAsk (h : Relists k s t) : Relists k s (beginAsk k t) := by
  unfold Machine.beginAsk
  split
  · exact h
  · exact (h.engine _).takeAsk .steam

theorem capCheck (h : Relists k s t) : Relists k s (capCheck k t) := by
  unfold Machine.capCheck
  dsimp only
  split
  · split
    · exact ((h.record _).engine _).beginAsk
    · exact (h.record _).engine _
  · exact ((h.record _).record _).toDwell

theorem headThreshold (x : Threshold) (h : Relists k s t) : Relists k s (headThreshold k x t) := by
  unfold Machine.headThreshold
  split
  · exact h.capCheck
  · exact h.beginAsk
  · exact h.forceOpen .steam
  · exact h.forceOpen .steam
  · exact h.endFlush .limit
  · exact h.forceOpen .drive
  · exact h.forceOpen .drive
  · exact h.endPhase _ _ _
  · exact h.release
  · exact h

end Relists

theorem relists_slotDischarge (k : Fin 4) (s : State) : Relists k s (slotDischarge k s) := by
  unfold slotDischarge
  split
  · split <;> exact .same rfl rfl
  · exact .refl

/-- A report other than that of intake close keeps the list with its threshold marked, or clears it of the recipe's. -/
theorem relists_report (k : Fin 4) (s : State) {x : Threshold} (hx : x ≠ .intakeClose) :
    Relists k (markReached k x s) (report k x s) := by
  cases x with
  | intakeClose => exact absurd rfl hx
  | discharge => exact relists_slotDischarge k _
  | cap | fe | fl | fx | dl | rel => exact Relists.refl.headThreshold _

theorem Relists.reached_profile {k : Fin 4} {s t : State} (h : Relists k s t) {y : Threshold} (hy : y.isProfile = true) :
    t.reached k y = s.reached k y := by
  rcases h with ⟨htracks, -⟩ | ⟨htracks, -⟩
  · rw [State.reached, htracks, State.reached]
  · rw [State.reached, htracks]
    exact Marks.get_withoutRecipe _ hy

/-- Intake close decided touches no mark of the profile's thresholds. -/
theorem slotIntakeClose_profile (k : Fin 4) (s : State) {y : Threshold} (hy : y.isProfile = true) :
    (slotIntakeClose k s).reached k y = s.reached k y := by
  have settles (v : Verdict) (r : Reasons) (t : State) (ht : t.tracks = s.tracks) :
      (settleJar k v r t).reached k y = s.reached k y := by
    rw [State.reached, settleJar, offerVerdict_tracks, modSlot_tracks, ht, State.reached]
  have decides (t : State) (ht : t.tracks = s.tracks) : (decideJar k t).reached k y = s.reached k y := by
    unfold decideJar
    split
    · exact settles _ _ t ht
    · exact settles _ _ t ht
    · split
      · split
        · split
          · exact settles _ _ t ht
          · rw [State.reached, bindJar, modChannel_tracks, modEngine_tracks, modTrack_tracks, Four.get_modify_same,
              modSlot_tracks, ht]
            exact Marks.get_withoutRecipe _ hy
        · exact settles _ _ t ht
      · exact settles _ _ t ht
      · exact settles _ _ t ht
  unfold slotIntakeClose
  split
  · split
    · exact decides _ rfl
    · exact settles _ _ _ rfl
    · exact settles _ _ _ rfl
    all_goals rfl
  · rfl

/-- A report marks its threshold among the profile's, and no other. -/
theorem report_profile (k : Fin 4) (x : Threshold) (s : State) {y : Threshold} (hy : y.isProfile = true) :
    (report k x s).reached k y = (s.reached k y || decide (y = x)) := by
  rw [← markReached_reached]
  by_cases hx : x = .intakeClose
  · subst hx
    exact slotIntakeClose_profile k _ hy
  · exact (relists_report k s hx).reached_profile hy

theorem reportDue_empty {k : Fin 4} {limit : Option Nat} {s : State} (n : Nat) (h : s.due k limit = []) :
    reportDue k limit n s = s := by
  cases n with
  | zero => rfl
  | succ n => simp only [reportDue, h]

theorem reportDue_cons {k : Fin 4} {limit : Option Nat} {s : State} {x : Threshold} {rest : List Threshold} (n : Nat)
    (h : s.due k limit = x :: rest) : reportDue k limit (n + 1) s = reportDue k limit n (report k x s) := by
  simp only [reportDue, h]

/-- What the profile's marks held before the reports they hold after them. -/
theorem reportDue_profile {k : Fin 4} {limit : Option Nat} (n : Nat) {s : State} {y : Threshold} (hy : y.isProfile = true)
    (h : s.reached k y = true) : (reportDue k limit n s).reached k y = true := by
  induction n generalizing s with
  | zero => exact h
  | succ n ih =>
    cases hdue : s.due k limit with
    | nil => rwa [reportDue_empty _ hdue]
    | cons x rest =>
      rw [reportDue_cons n hdue]
      exact ih (by rw [report_profile k x s hy, h, Bool.true_or])

/-! ## What is due after a report -/

theorem mem_due {k : Fin 4} {limit : Option Nat} {s : State} {y : Threshold} : y ∈ s.due k limit
    ↔ s.unreached k y = true ∧ ∀ n, limit = some n → s.thresholdValue k y ≤ n := by
  have hall : y ∈ allThresholds := by cases y <;> decide
  unfold State.due
  rw [(sortBy_perm _ _).mem_iff, List.mem_filter, Bool.and_eq_true]
  cases limit with
  | none => simp [hall]
  | some n => simp [hall]

theorem unreached_iff {k : Fin 4} {s : State} {y : Threshold} : s.unreached k y = true
    ↔ s.onList k y = true ∧ s.reached k y = false ∧ s.thresholdValue k y < 256 * s.pocketCount := by
  simp [State.unreached, and_assoc]

theorem State.profileField_ground {s t : State} (h : t.ground = s.ground) (f : Profile → Nat) :
    t.profileField f = s.profileField f := by
  have hprofile : t.settings.profile = s.settings.profile := congrArg (fun g => g.2.1) h
  have hgood : t.settings.good = s.settings.good := congrArg (fun g => g.2.2.1) h
  simp only [State.profileField, hprofile, hgood]

theorem thresholdValue_profile {k : Fin 4} {s t : State} {y : Threshold} (h : t.ground = s.ground)
    (hy : y.isProfile = true) : t.thresholdValue k y = s.thresholdValue k y := by
  cases y with
  | intakeClose => exact State.profileField_ground h _
  | discharge => exact State.profileField_ground h _
  | cap | fe | fl | fx | dl | rel => cases hy

theorem thresholdValue_congr {k : Fin 4} {s t : State} (y : Threshold) (h : t.ground = s.ground)
    (hrecipe : (t.engines.get k).recipe = (s.engines.get k).recipe) : t.thresholdValue k y = s.thresholdValue k y := by
  have hbound := State.boundRecipe_congr h hrecipe
  cases y with
  | intakeClose => exact State.profileField_ground h _
  | discharge => exact State.profileField_ground h _
  | cap | fe | fl | fx | dl | rel => simp only [State.thresholdValue, hbound]

/-- After a report that keeps the list, what is due was due before, and its own threshold no longer is. -/
theorem due_after {k : Fin 4} {limit : Option Nat} {s t : State} {x y : Threshold} (hground : t.ground = s.ground)
    (h : Relists k (markReached k x s) t) (hy : y ∈ t.due k limit) : y ∈ s.due k limit ∧ y ≠ x := by
  obtain ⟨hunreached, hlimit⟩ := mem_due.1 hy
  obtain ⟨hlist, hreached, hbelow⟩ := unreached_iff.1 hunreached
  have hpockets : t.pocketCount = s.pocketCount := State.profileField_ground hground _
  have carried (hvalue : t.thresholdValue k y = s.thresholdValue k y) (hlist' : s.onList k y = true)
      (hmark : (markReached k x s).reached k y = false) : y ∈ s.due k limit ∧ y ≠ x := by
    rw [markReached_reached, Bool.or_eq_false_iff, decide_eq_false_iff_not] at hmark
    rw [hvalue] at hlimit hbelow
    rw [hpockets] at hbelow
    exact ⟨mem_due.2 ⟨unreached_iff.2 ⟨hlist', hmark.1, hbelow⟩, hlimit⟩, hmark.2⟩
  rcases h with ⟨htracks, hrecipe⟩ | ⟨htracks, hrecipe⟩
  · refine carried (thresholdValue_congr y hground hrecipe) ?_ ?_
    · rw [State.onList, hrecipe] at hlist
      exact hlist
    · rw [State.reached, htracks] at hreached
      exact hreached
  · have hprofile : y.isProfile = true := by
      rw [State.onList, hrecipe] at hlist
      simpa using hlist
    refine carried (thresholdValue_profile hground hprofile) (by rw [State.onList, hprofile, Bool.true_or]) ?_
    rw [State.reached, htracks, Marks.get_withoutRecipe _ hprofile] at hreached
    exact hreached

/-- A threshold reached alone, and not intake close: after its report none is due. -/
theorem due_alone {k : Fin 4} {limit : Option Nat} {s : State} {x : Threshold} (hx : x ≠ .intakeClose)
    (h : s.due k limit = [x]) : (report k x s).due k limit = [] := by
  have hground : (report k x s).ground = s.ground := (Acts.report x Acts.refl).steady.ground
  refine List.eq_nil_iff_forall_not_mem.2 fun y hy => ?_
  obtain ⟨hdue, hne⟩ := due_after hground (relists_report k s hx) hy
  rw [h, List.mem_singleton] at hdue
  exact hne hdue

theorem reportRise_alone {k : Fin 4} {s : State} {x : Threshold} (hx : x ≠ .intakeClose)
    (h : s.due k (some (s.travel k)) = [x]) : reportRise k s = report k x s := by
  rw [reportRise, reportDue_cons 7 h, reportDue_empty 7 (due_alone hx h)]

end Sys2Proof.Machine

/-! PROOFS. The row THRESHOLD_REACHED for a profile threshold and for the thresholds of a recipe (R13, R68, R86 to R90,
R93, R94, R99, R101). -/

namespace Sys2Proof.Machine
open Sys2Proof

/-! ## The row -/

/-- With no comparator active the levels are taken and nothing trips (R124). -/
theorem takePins_calm {p : Levels} {s : State} (h : ∀ k, p.oc.get k = false) : takePins p s = consulted (setLevels p s) := by
  have hnone : (setLevels p s).overcurrentHeads = [] := by
    unfold State.overcurrentHeads
    rw [List.filter_eq_nil_iff]
    intro k _
    have hoc : ((setLevels p s).pins.heads.get k).oc = p.oc.get k := by
      revert k
      intro k _
      match k with
      | 0 | 1 | 2 | 3 => rfl
    rw [hoc, h k]
    exact Bool.false_ne_true
  unfold takePins
  dsimp only
  rw [hnone]
  rfl

theorem advancePhase_cases (k : Fin 4) (s : State) : advancePhase k s = s ∨ ∃ n, advancePhase k s = elapse n s := by
  unfold advancePhase
  split
  · split
    · exact .inr ⟨_, rfl⟩
    · exact .inl rfl
  · exact .inl rfl

/-- What the levels and the advance of φ leave unchanged. -/
structure Advanced (p : Levels) (s t : State) : Prop extends Steady s t where
  motion  : t.tracker.motion = s.tracker.motion
  begun   : t.tracker.begun = s.tracker.begun
  pins    : t.pins = (setLevels p s).pins
  slots   : t.slots = s.slots
  draws   : t.draws = s.draws
  tracks  : t.tracks = s.tracks
  engine  : ∀ j, ∃ m, t.engines.get j = { s.engines.get j with ms := m }
  channel : ∀ j, ∃ m, t.channels.get j = { s.channels.get j with ms := m }
  accepts : ∀ kind payload, t.accepts kind payload = s.accepts kind payload
  queue   : t.transmit.normal = s.transmit.normal ∧ t.transmit.ticket = s.transmit.ticket

theorem elapse_accepts (n : Nat) (s : State) (kind : Kind) (p : List Byte) :
    (elapse n s).accepts kind p = s.accepts kind p := by
  obtain ⟨hnormal, -, -, hsilenced⟩ := elapse_transmit n s
  simp only [State.accepts, hsilenced, elapse_unit, elapse_normalCount, hnormal]

theorem Advanced.elapse {p : Levels} {s t : State} (h : Advanced p s t) (hreset : t.inReset = none) (n : Nat) :
    Advanced p s (elapse n t) := by
  refine ⟨h.toSteady.trans (elapse_steady n t), ?_, ?_, (elapse_pins n t).trans h.pins, (elapse_slots n t).trans h.slots,
    (elapse_draws n t).trans h.draws, (elapse_tracks n t).trans h.tracks, fun j => ?_, fun j => ?_, fun kind q => ?_,
    (elapse_normal n t).trans h.queue.1, (elapse_ticket n t).trans h.queue.2⟩
  · rw [elapse_tracker n t hreset]
    exact h.motion
  · rw [elapse_tracker n t hreset]
    exact h.begun
  · obtain ⟨m, hm⟩ := elapse_engine n t j
    obtain ⟨m', hm'⟩ := h.engine j
    exact ⟨m, by rw [hm, hm']⟩
  · obtain ⟨m, hm⟩ := elapse_channel n t j
    obtain ⟨m', hm'⟩ := h.channel j
    exact ⟨m, by rw [hm, hm']⟩
  · rw [elapse_accepts, h.accepts]

theorem advanced_of (k : Fin 4) {p : Levels} {s : State} (hreset : s.inReset = none) (h : ∀ j, p.oc.get j = false) :
    Advanced p s (advancePhase k (takePins p s)) := by
  rw [takePins_calm h]
  have hbefore : Advanced p s (consulted (setLevels p s)) :=
    ⟨⟨rfl, rfl, rfl, rfl⟩, rfl, rfl, rfl, rfl, rfl, rfl, fun _ => ⟨_, rfl⟩, fun _ => ⟨_, rfl⟩, fun _ _ => rfl, rfl, rfl⟩
  rcases advancePhase_cases k (consulted (setLevels p s)) with heq | ⟨n, heq⟩
  · rw [heq]
    exact hbefore
  · rw [heq]
    exact hbefore.elapse hreset n

theorem Advanced.recipe {p : Levels} {s t : State} (h : Advanced p s t) (k : Fin 4) :
    (t.engines.get k).recipe = (s.engines.get k).recipe := by
  obtain ⟨m, hm⟩ := h.engine k
  rw [hm]

theorem Advanced.phase {p : Levels} {s t : State} (h : Advanced p s t) (k : Fin 4) :
    (t.engines.get k).phase = (s.engines.get k).phase := by
  obtain ⟨m, hm⟩ := h.engine k
  rw [hm]

theorem Advanced.boundRecipe {p : Levels} {s t : State} (h : Advanced p s t) (k : Fin 4) :
    t.boundRecipe k = s.boundRecipe k := State.boundRecipe_congr h.ground (h.recipe k)

/-- A head with a travel that is not held back, on a turret that has not stalled, reports what its travel has reached. -/
theorem exec_thresholdReached {k : Fin 4} {p : Levels} {s : State} (hreset : s.inReset = none)
    (hbegun : s.tracker.begun = true) (hturns : s.tracker.motion ≠ .stalled) (hdefined : s.travelDefined k = true)
    (hheld : (s.tracks.get k).heldBack = false) (hp : ∀ j, p.oc.get j = false) :
    exec (.thresholdReached k p) s = .next (reportRise k (advancePhase k (takePins p s))) := by
  have harm : exec (.thresholdReached k p) s = execThresholdReached k p s := rfl
  have hreports : (s.tracker.begun && decide (s.tracker.motion ≠ .stalled) && s.travelDefined k
      && !(s.tracks.get k).heldBack) = true := by
    simp [hbegun, hturns, hdefined, hheld]
  rw [harm, execThresholdReached, unlessReset_out _ s hreset, takePins_calm hp]
  exact congrArg Host.Outcome.next (if_pos (by exact hreports))

theorem Levels.quiet_oc (j : Fin 4) : Levels.quiet.oc.get j = false := by
  revert j
  decide

theorem report_steady {p : Levels} {s t : State} (h : Advanced p s t) (k : Fin 4) : Steady s (reportRise k t) :=
  h.toSteady.trans (@Acts.reportRise k _ t Acts.refl).steady

/-! ## A profile threshold (R68) -/

theorem slotDischarge_slots (k : Fin 4) (s : State) : (slotDischarge k s).slots = if s.unit.mode.running = false then s.slots
    else s.slots.modify k (fun y => if y.state = .bound then { y with record := { y.record with passed := true } }
      else ⟨.opened, y.pocket, {}⟩) := by
  unfold slotDischarge
  cases hrunning : s.unit.mode.running with
  | false => rfl
  | true =>
    by_cases hbound : (s.slots.get k).state = .bound
    · rw [if_pos rfl, if_pos hbound, if_neg (fun h : true = false => Bool.false_ne_true h.symm)]
      exact Four.modify_congr _ _ (by rw [if_pos hbound]; rfl)
    · rw [if_pos rfl, if_neg hbound, if_neg (fun h : true = false => Bool.false_ne_true h.symm)]
      exact Four.modify_congr _ _ (by rw [if_neg hbound]; rfl)

theorem slotDischarge_rest (k : Fin 4) (s : State) : (slotDischarge k s).engines = s.engines
    ∧ (slotDischarge k s).draws = s.draws ∧ (slotDischarge k s).transmit = s.transmit := by
  unfold slotDischarge
  split
  · split <;> exact ⟨rfl, rfl, rfl⟩
  · exact ⟨rfl, rfl, rfl⟩

/-- Settles O15: the first threshold is marked by its report and stays so; nothing due, nothing is reported. -/
theorem risingPhaseReachesAThreshold : Obligations.RisingPhaseReachesAThreshold := by
  intro k s hreset hbegun hturns hdefined hheld moved
  have hmoved : Advanced .quiet s moved := advanced_of k hreset Levels.quiet_oc
  have hexec := exec_thresholdReached hreset hbegun hturns hdefined hheld Levels.quiet_oc
  refine ⟨fun x rest hdue hx => ?_, fun hdue => ?_⟩
  · have hrise : reportRise k moved = reportDue k (some (moved.travel k)) 7 (report k x moved) := reportDue_cons 7 hdue
    have hmark : (report k x moved).reached k x = true := by
      rw [report_profile k x moved hx, decide_eq_true rfl, Bool.or_true]
    have hsteady := report_steady hmoved k
    have htracker : (reportRise k moved).tracker = moved.tracker :=
      (State.still_fields (@Acts.reportRise k _ moved Acts.refl).still).1
    refine ⟨_, hexec, ?_, htracker, hsteady.unit, hsteady.ground, hsteady.receive, fun hdis hrest => ?_⟩
    · change (reportRise k moved).reached k x = true
      rw [hrise]
      exact reportDue_profile 7 hx hmark
    · subst hdis hrest
      have halone : reportRise k moved = slotDischarge k (markReached k .discharge moved) :=
        reportRise_alone (by decide) hdue
      obtain ⟨hengines, hdraws, htransmit⟩ := slotDischarge_rest k (markReached k .discharge moved)
      have hslots := slotDischarge_slots k (markReached k .discharge moved)
      have hmode : (markReached k .discharge moved).unit.mode = s.unit.mode := congrArg ModeUnit.mode hmoved.unit
      have hsame : (markReached k .discharge moved).slots = s.slots := hmoved.slots
      rw [hmode, hsame] at hslots
      change (reportRise k moved).engines = _ ∧ (reportRise k moved).draws = _ ∧ (reportRise k moved).transmit = _
        ∧ (reportRise k moved).slots = _
      rw [halone]
      exact ⟨hengines, hdraws.trans hmoved.draws, htransmit, hslots⟩
  · rw [hexec]
    exact congrArg Host.Outcome.next (reportDue_empty 8 hdue)

/-! ## A threshold of a recipe (R86) -/

/-- A phase that ends with A_rel reached: the jar is released with the figures of the phase. -/
theorem endPhase_releases {k : Fin 4} {s : State} (kind : TorqueEnd) (f : Channel → Channel)
    (hphase : (s.engines.get k).phase = .torque) (hrel : s.reached k .rel = true)
    (hbound : (s.slots.get k).state = .bound) :
    (endPhase k kind false f s).engines.get k = { s.engines.get k with
      press := false, recipe := none, out := false, phase := if (s.engines.get k).out then .out else .idle }
    ∧ ((s.slots.get k).record.passed = false → ∃ rc d v n, (endPhase k kind false f s).slots.get k = { s.slots.get k with
      state := .settled
      record := { judged rc (Slot.torqued kind (s.channels.get k) (s.slots.get k)).record with
        delivery := d, verdictPending := v, ticket := n } })
    ∧ (∀ a, (s.draws.get k).isOpen = true → (s.draws.get k).terms = some a →
      ((endPhase k kind false f s).draws.get k).status = .none ∧ ((endPhase k kind false f s).draws.get k).ask = none) := by
  obtain ⟨u, hend, hu⟩ := endPhase_ends kind false f hphase
  have hreleases := (hu.reached .rel).trans hrel
  obtain ⟨d, v, n, hjar⟩ := hu.jar hbound
  rw [hend, toDwell_engine_released hreleases, hu.engine, toDwell_draws]
  refine ⟨by simp, fun hpassed => ?_, hu.draw⟩
  obtain ⟨d', v', n', hreleased⟩ := toDwell_jar_released hreleases (by rw [hjar]; exact hbound) (by rw [hjar]; exact hpassed)
  rw [hjar] at hreleased
  exact ⟨u.boundRecipe k, d', v', n', hreleased⟩

theorem capCheck_found {k : Fin 4} {s : State} (hcap : (s.pins.heads.get k).cap = true) (hfe : s.reached k .fe = false) :
    capCheck k s = modEngine k (fun x => { x with phase := .steamWait }) (writeRecord k (fun r => { r with cap := .yes }) s) := by
  unfold capCheck
  dsimp only
  rw [if_pos hcap, if_neg (by rw [hfe]; exact Bool.false_ne_true)]

theorem capCheck_missing {k : Fin 4} {s : State} (hcap : (s.pins.heads.get k).cap = false) :
    capCheck k s = toDwell k (addReason k .noCap (writeRecord k (fun r => { r with cap := .no }) s)) := by
  unfold capCheck
  rw [if_neg (by rw [hcap]; exact Bool.false_ne_true)]

theorem setLevels_cap (cap : Bool) (s : State) (k : Fin 4) :
    ((setLevels ⟨Four.all cap, Four.all false⟩ s).pins.heads.get k).cap = cap := by
  match k with
  | 0 | 1 | 2 | 3 => rfl

/-! The rows of R86, each for the state of its head. -/

section
variable {k : Fin 4} {s : State}

theorem headThreshold_cap (h : (s.engines.get k).phase = .bound) : headThreshold k .cap s = capCheck k s := by
  unfold headThreshold
  rw [h]

theorem headThreshold_fe (h : (s.engines.get k).phase = .steamWait) : headThreshold k .fe s = beginAsk k s := by
  unfold headThreshold
  rw [h]

theorem headThreshold_fl (h : (s.engines.get k).phase = .steamWait ∨ (s.engines.get k).phase = .steamAnnounced) :
    headThreshold k .fl s = forceOpen k .steam s := by
  unfold headThreshold
  rcases h with h | h <;> rw [h]

theorem headThreshold_fx (h : (s.engines.get k).phase = .flush) : headThreshold k .fx s = endFlush k .limit s := by
  unfold headThreshold
  rw [h]

theorem headThreshold_dl (h : (s.engines.get k).phase = .driveWait ∨ (s.engines.get k).phase = .driveAnnounced) :
    headThreshold k .dl s = forceOpen k .drive s := by
  unfold headThreshold
  rcases h with h | h <;> rw [h]

theorem headThreshold_rel_torque (h : (s.engines.get k).phase = .torque) :
    headThreshold k .rel s = endPhase k .angle false Channel.finish s := by
  unfold headThreshold
  rw [h]

theorem headThreshold_rel_dwell (h : (s.engines.get k).phase = .dwell) : headThreshold k .rel s = release k s := by
  unfold headThreshold
  rw [h]

end

/-- The mark of a threshold, seen by the report that follows it. -/
theorem markReached_other {k : Fin 4} {x y : Threshold} (s : State) (h : y ≠ x) :
    (markReached k x s).reached k y = s.reached k y := by
  rw [markReached_reached, decide_eq_false h, Bool.or_false]

theorem markReached_self (k : Fin 4) (x : Threshold) (s : State) : (markReached k x s).reached k x = true := by
  rw [markReached_reached, decide_eq_true rfl, Bool.or_true]

theorem Advanced.reached {p : Levels} {s t : State} (h : Advanced p s t) (k : Fin 4) (y : Threshold) :
    t.reached k y = s.reached k y := by
  rw [State.reached, h.tracks, State.reached]

/-- Settles O16: one threshold of the recipe, by the head's state. -/
theorem recipeThresholdsMoveTheHead : Obligations.RecipeThresholdsMoveTheHead := by
  intro k cap s hreset hbegun hturns hdefined hheld hbound pins moved r d ch x hdue
  have hoc (j : Fin 4) : pins.oc.get j = false := Four.get_all _ _
  have hmoved : Advanced pins s moved := advanced_of k hreset hoc
  have hexec := exec_thresholdReached hreset hbegun hturns hdefined hheld hoc
  have hslot : moved.slots.get k = s.slots.get k := by rw [hmoved.slots]
  have hphase := hmoved.phase k
  have halone (hx : x ≠ .intakeClose) : reportRise k moved = report k x moved := reportRise_alone hx hdue
  refine ⟨_, hexec, ?_, ?_, ?_, ?_, (report_steady hmoved k).and⟩
  · rintro rfl hbefore hfe hrel
    have hreport : reportRise k moved = capCheck k (markReached k .cap moved) :=
      (halone (by decide)).trans (headThreshold_cap (by exact hphase.trans hbefore))
    have hlevel : ((markReached k .cap moved).pins.heads.get k).cap = cap := by
      change (moved.pins.heads.get k).cap = cap
      rw [hmoved.pins]
      exact setLevels_cap cap s k
    obtain ⟨m, hm⟩ := hmoved.engine k
    rw [hreport]
    cases cap with
    | true =>
      rw [capCheck_found hlevel ((markReached_other moved (by decide)).trans ((hmoved.reached k .fe).trans hfe))]
      refine ⟨by simp, ?_, hmoved.draws, ?_⟩
      · simp [markReached, hm]
      · change moved.slots.modify k _ = _
        rw [hmoved.slots]
        exact Four.modify_congr _ _ (Slot.write_bound _ _ hbound)
    | false =>
      have hwaits : (addReason k .noCap (writeRecord k (fun r => { r with cap := .no }) (markReached k .cap moved))).reached
          k .rel = false := (markReached_other moved (by decide)).trans ((hmoved.reached k .rel).trans hrel)
      rw [capCheck_missing hlevel, toDwell_engine_waits hwaits, toDwell_slots_waits hwaits, toDwell_draws]
      refine ⟨rfl, ?_, hmoved.draws, ?_⟩
      · change (moved.engines.get k).press = _
        rw [hm]
      · change (moved.slots.modify k _).modify k _ = _
        rw [hmoved.slots, Four.modify_modify]
        exact Four.modify_congr _ _ (Slot.write_write _ _ hbound)
  · rintro rfl hbefore hstatus a
    have hturns' : (markReached k .fe moved).tracker.motion ≠ .stalled := fun h => hturns (hmoved.motion.symm.trans h)
    have hreport : reportRise k moved = takeAsk k .steam
        (modEngine k (fun x => { x with asking := true }) (markReached k .fe moved)) :=
      ((halone (by decide)).trans (headThreshold_fe (by exact hphase.trans hbefore))).trans (if_neg hturns')
    have hask : (modEngine k (fun x => { x with asking := true }) (markReached k .fe moved)).askOf k .steam = a := by
      have hbound' : (modEngine k (fun x => { x with asking := true }) (markReached k .fe moved)).boundRecipe k
          = s.boundRecipe k :=
        State.boundRecipe_congr hmoved.ground (by rw [modEngine_engines, Four.get_modify_same]; exact hmoved.recipe k)
      rw [State.askOf, hbound']
    have hawaits := @takeAsk_awaits k (modEngine k (fun x => { x with asking := true }) (markReached k .fe moved)) .steam
      (by change (moved.draws.get k).status = _; rw [hmoved.draws]; exact hstatus)
    have hengine : (modEngine k (fun x => { x with asking := true }) (markReached k .fe moved)).engines.get k
        = { moved.engines.get k with asking := true } := Four.get_modify_same _ _ _
    rw [hask, hengine] at hawaits
    rw [hreport]
    refine ⟨(takeAsk_slots _ _ _).trans hmoved.slots, ?_⟩
    rcases hawaits with ⟨he, hs, ha⟩ | ⟨he, hs, ha, ht, hf⟩
    · exact .inl ⟨by rw [he]; exact hphase.trans hbefore, by rw [he], hs, ha⟩
    · have hgranted : ({ moved.engines.get k with asking := true } : Engine).granted
          = { moved.engines.get k with phase := .steamAnnounced, asking := false } := by
        unfold Engine.granted
        rw [hphase.trans hbefore]
      rw [hgranted] at he
      exact .inr ⟨by rw [he], by rw [he], hs, ha, ht, hf⟩
  · rintro rfl hbefore hopen hterms
    have hreport : reportRise k moved = endFlush k .limit (markReached k .fx moved) :=
      (halone (by decide)).trans (headThreshold_fx (by exact hphase.trans hbefore))
    obtain ⟨a, ha⟩ := Option.ne_none_iff_exists'.1 hterms
    have hdraw : (markReached k .fx moved).draws.get k = d := by
      change moved.draws.get k = d
      rw [hmoved.draws]
    have hjar : (markReached k .fx moved).slots.get k = s.slots.get k := hslot
    obtain ⟨hengine, hended, hstatus, hask, -⟩ := endFlush_ends .limit (by rw [hjar]; exact hbound)
      (by rw [hdraw]; exact hopen) (by rw [hdraw]; exact ha)
    rw [hjar] at hended
    have hstate := hended.state
    obtain ⟨_, _, _, hrecord⟩ := hended.record
    rw [hreport, hengine]
    exact ⟨rfl, rfl, rfl, rfl, hstate.trans hbound, by rw [hrecord], by rw [hrecord], hstatus, hask⟩
  · rintro rfl hbefore
    have hreport : reportRise k moved = endPhase k .angle false Channel.finish (markReached k .rel moved) :=
      (halone (by decide)).trans (headThreshold_rel_torque (by exact hphase.trans hbefore))
    have hjar : (markReached k .rel moved).slots.get k = s.slots.get k := hslot
    have hdraw : (markReached k .rel moved).draws.get k = d := by
      change moved.draws.get k = d
      rw [hmoved.draws]
    obtain ⟨m, hm⟩ := hmoved.channel k
    obtain ⟨m', hm'⟩ := hmoved.engine k
    have hchannel : (markReached k .rel moved).channels.get k = _ := hm
    have hengine : (markReached k .rel moved).engines.get k = _ := hm'
    obtain ⟨hreleased, hsettled, hclosed⟩ := @endPhase_releases k (markReached k .rel moved) .angle Channel.finish
      (hphase.trans hbefore) (markReached_self k .rel moved) (by rw [hjar]; exact hbound)
    obtain ⟨hfinished, -⟩ := endPhase_channel k .angle false Channel.finish (markReached k .rel moved)
    have hfinish : (endPhase k .angle false Channel.finish (markReached k .rel moved)).channels.get k
        = ((markReached k .rel moved).channels.get k).finish := by
      rw [hfinished, Four.get_modify_same]
    rw [hjar, hchannel] at hsettled
    rw [hreport, hreleased, hfinish, hengine]
    refine ⟨rfl, rfl, rfl, rfl, rfl, rfl, rfl, rfl, fun hopen hterms => ?_, fun hpassed => ?_⟩
    · obtain ⟨a, ha⟩ := Option.ne_none_iff_exists'.1 hterms
      exact hclosed a (by rw [hdraw]; exact hopen) (by rw [hdraw]; exact ha)
    · obtain ⟨rc, _, _, _, heq⟩ := hsettled hpassed
      rw [heq]
      exact ⟨rfl, rfl, rfl, rfl, Option.some_ne_none _⟩

/-- The draw that a latest start has forced, as the head's draw is after the reports that follow. -/
theorem OpensForced.after {k : Fin 4} {a : Ask} {s o t : State} (h : OpensForced k a s o)
    (hafter : (o.draws.get k).sameDraw (t.draws.get k)) : (t.draws.get k).status = .openForced ∧ (t.draws.get k).ask = none
      ∧ ((s.draws.get k).status = .pending →
        (t.draws.get k).terms = (s.draws.get k).terms ∧ (t.draws.get k).openFrame = (s.draws.get k).openFrame)
      ∧ ((s.draws.get k).status = .none → (t.draws.get k).terms = some a
        ∧ (t.draws.get k).openFrame = if s.accepts .drawOpen [byte k.val] then .inQueue else .none) := by
  obtain ⟨p, hp⟩ := hafter
  rw [hp]
  exact ⟨h.status, h.ask, h.pending, h.waiting⟩

/-- Settles O17: A_fl with and without a flush required, and A_dl on a channel in OFF. -/
theorem latestStartsForceTheDraw : Obligations.LatestStartsForceTheDraw := by
  intro k s hreset hbegun hturns hdefined hheld hbound moved q d forced
  have hmoved : Advanced .quiet s moved := advanced_of k hreset Levels.quiet_oc
  have hexec := exec_thresholdReached hreset hbegun hturns hdefined hheld Levels.quiet_oc
  have hsteady := report_steady hmoved k
  have hphase := hmoved.phase k
  have hslot (x : Threshold) : (markReached k x moved).slots.get k = s.slots.get k := by
    change moved.slots.get k = _
    rw [hmoved.slots]
  have hdraw (x : Threshold) : (markReached k x moved).draws.get k = d := by
    change moved.draws.get k = d
    rw [hmoved.draws]
  have haccepts (x : Threshold) : (markReached k x moved).accepts .drawOpen [byte k.val] = s.accepts .drawOpen [byte k.val] :=
    hmoved.accepts _ _
  have hbound' (x : Threshold) : ((markReached k x moved).slots.get k).state = .bound := by rw [hslot]; exact hbound
  have hask (x : Threshold) (c : DrawClass) : (markReached k x moved).askOf k c = s.askOf k c := by
    have hrecipe : (markReached k x moved).boundRecipe k = s.boundRecipe k := hmoved.boundRecipe k
    cases c <;> simp only [State.askOf, hrecipe]
  have opens (x : Threshold) (c : DrawClass) (h : d.status = .none ∨ d.status = .pending ∧ d.ask = none) :
      OpensForced k (s.askOf k c) (markReached k x moved) (opensForced k c (markReached k x moved)) := by
    rw [← hask x]
    rcases h with hnone | ⟨hpending, hnoask⟩
    · exact opensForced_waiting c (by rw [hdraw]; exact hnone)
    · exact opensForced_pending c (by rw [hdraw]; exact hpending) (by rw [hdraw]; exact hnoask)
  have after (x : Threshold) (c : DrawClass) (t : State) (h : d.status = .none ∨ d.status = .pending ∧ d.ask = none)
      (hafter : ((opensForced k c (markReached k x moved)).draws.get k).sameDraw (t.draws.get k)) :
      forced t (s.askOf k c) := by
    have hopen := (opens x c h).after hafter
    rwa [hdraw, haccepts] at hopen
  constructor
  · intro hdue hstart
    have hstart' : d.status = .none ∨ d.status = .pending ∧ d.ask = none := hstart.imp And.right And.right
    have hwaits : ((markReached k .fl moved).engines.get k).phase = .steamWait
        ∨ ((markReached k .fl moved).engines.get k).phase = .steamAnnounced :=
      hstart.imp (fun h => hphase.trans h.1) (fun h => hphase.trans h.1)
    have hreport : reportRise k moved = forceOpen k .steam (markReached k .fl moved) :=
      (reportRise_alone (by decide) hdue).trans (headThreshold_fl hwaits)
    have hopens := opens .fl .steam hstart'
    rw [← hask .fl] at hopens
    have hturns' : (markReached k .fl moved).tracker.motion ≠ .stalled := fun h => hturns (hmoved.motion.symm.trans h)
    rw [hreport] at hsteady
    by_cases hneeded : (s.slots.get k).record.fReq = 0
    · obtain ⟨hseat, hvalve, hjar⟩ := forceOpen_seat hwaits hopens (hbound' .fl) (by rw [hslot]; exact hneeded)
      obtain ⟨_, _, _, hrecord⟩ := hjar.record
      refine ⟨_, hexec.trans (congrArg Host.Outcome.next hreport), ?_, fun h => absurd hneeded h, fun _ => ?_, hsteady.and⟩
      · rw [hrecord]
        rfl
      · exact ⟨hseat, hvalve, by rw [hrecord]⟩
    · obtain ⟨hengine, hafter, hjar⟩ := forceOpen_flush hwaits hopens hturns' (hbound' .fl) (by rw [hslot]; exact hneeded)
      obtain ⟨_, _, _, hrecord⟩ := hjar.record
      refine ⟨_, hexec.trans (congrArg Host.Outcome.next hreport), ?_, fun _ => ?_, fun h => absurd h hneeded, hsteady.and⟩
      · rw [hrecord]
        rfl
      · exact ⟨by rw [hengine], by rw [hengine], by rw [hengine], after .fl .steam _ hstart' hafter⟩
  · intro hdue hoff hstart
    have hstart' : d.status = .none ∨ d.status = .pending ∧ d.ask = none := hstart.imp And.right And.right
    have hwaits : ((markReached k .dl moved).engines.get k).phase = .driveWait
        ∨ ((markReached k .dl moved).engines.get k).phase = .driveAnnounced :=
      hstart.imp (fun h => hphase.trans h.1) (fun h => hphase.trans h.1)
    have hreport : reportRise k moved = forceOpen k .drive (markReached k .dl moved) :=
      (reportRise_alone (by decide) hdue).trans (headThreshold_dl hwaits)
    have hopens := opens .dl .drive hstart'
    rw [← hask .dl] at hopens
    obtain ⟨m, hm⟩ := hmoved.channel k
    have hchannel : (markReached k .dl moved).channels.get k = { s.channels.get k with ms := m } := hm
    have hoc : ((markReached k .dl moved).pins.heads.get k).oc = false := by
      change (moved.pins.heads.get k).oc = false
      rw [hmoved.pins]
      match k with
      | 0 | 1 | 2 | 3 => rfl
    obtain ⟨hengine, hafter, hjar, ceiling, hstarts⟩ := forceOpen_drive hwaits hopens (by rw [hchannel]; exact hoff) hoc
      (hbound' .dl)
    obtain ⟨_, _, _, hrecord⟩ := hjar.record
    have hrecipe : (markReached k .dl moved).boundRecipe k = q := hmoved.boundRecipe k
    obtain ⟨hstate, hstep⟩ := startPhase_state q ceiling ((markReached k .dl moved).channels.get k)
    rw [hrecipe] at hstarts
    rw [hreport] at hsteady
    refine ⟨_, hexec.trans (congrArg Host.Outcome.next hreport), ?_, ?_, ?_, after .dl .drive _ hstart' hafter, ?_, ?_,
      hsteady.and⟩
    · rw [hrecord]
      rfl
    · rw [hengine]
    · rw [hengine]
    · rw [hstarts, hstate]
    · rw [hstarts, hstep]

end Sys2Proof.Machine

/-! PROOFS. The jar at intake close and at its release (R72 to R79, R85, R101, R157 to R167). -/

namespace Sys2Proof.Machine
open Sys2Proof

/-! ## The decision at intake close (R72 to R75) -/

section
variable {k : Fin 4} {s : State}

theorem slotIntakeClose_halted (hopen : (s.slots.get k).state = .opened)
    (hmode : s.unit.mode = .stand ∨ s.unit.mode = .safe) :
    slotIntakeClose k s = settleJar k .skipped { halted := true } (supplyDefaults k s) := by
  unfold slotIntakeClose
  rw [if_pos hopen]
  rcases hmode with h | h <;> rw [h]

theorem slotIntakeClose_run (hopen : (s.slots.get k).state = .opened) (hmode : s.unit.mode = .run) :
    slotIntakeClose k s = decideJar k (supplyDefaults k s) := by
  unfold slotIntakeClose
  rw [if_pos hopen, hmode]

theorem decideJar_noJar (h : (s.slots.get k).record.condition = some .noJar) :
    decideJar k s = settleJar k .empty {} s := by
  unfold decideJar
  rw [h]

theorem decideJar_damaged (h : (s.slots.get k).record.condition = some .damaged) :
    decideJar k s = settleJar k .skipped {} s := by
  unfold decideJar
  rw [h]

/-- A jar neither absent nor damaged is decided by its recipe. -/
theorem decideJar_jar (hjar : (s.slots.get k).record.condition ≠ some .noJar)
    (hsound : (s.slots.get k).record.condition ≠ some .damaged) : decideJar k s
      = match (s.slots.get k).record.recipe with
        | .number n =>
          if s.usable n then
            if (s.engines.get k).phase = .out then settleJar k .skipped { headOut := true } s else bindJar k n s
          else settleJar k .skipped { recipe := true } s
        | .absent | .unusable => settleJar k .skipped { recipe := true } s := by
  unfold decideJar
  split
  · next h => exact absurd h hjar
  · next h => exact absurd h hsound
  · rfl

theorem decideJar_unusable (hjar : (s.slots.get k).record.condition ≠ some .noJar)
    (hsound : (s.slots.get k).record.condition ≠ some .damaged)
    (h : ∀ n, (s.slots.get k).record.recipe = .number n → s.usable n = false) :
    decideJar k s = settleJar k .skipped { recipe := true } s := by
  rw [decideJar_jar hjar hsound]
  cases hrecipe : (s.slots.get k).record.recipe with
  | number n => exact if_neg (by rw [h n hrecipe]; exact Bool.false_ne_true)
  | absent => rfl
  | unusable => rfl

theorem decideJar_usable {n : Nat} (hjar : (s.slots.get k).record.condition ≠ some .noJar)
    (hsound : (s.slots.get k).record.condition ≠ some .damaged) (hrecipe : (s.slots.get k).record.recipe = .number n)
    (husable : s.usable n = true) : decideJar k s
      = if (s.engines.get k).phase = .out then settleJar k .skipped { headOut := true } s else bindJar k n s := by
  rw [decideJar_jar hjar hsound, hrecipe]
  exact if_pos husable

/-- A jar settled at intake close, but for the delivery of its verdict. -/
theorem settleJar_jar (k : Fin 4) (v : Verdict) (r : Reasons) (s : State) :
    (Slot.settle v r (s.slots.get k)).sameJar ((settleJar k v r s).slots.get k) := by
  have hsettled : (modSlot k (Slot.settle v r) s).slots.get k = Slot.settle v r (s.slots.get k) := Four.get_modify_same _ _ _
  rw [← hsettled]
  exact offerVerdict_slot k _

theorem settleJar_relists (v : Verdict) (r : Reasons) : Relists k s (settleJar k v r s) :=
  .same (by rw [settleJar, offerVerdict_tracks]; rfl) (by rw [settleJar, offerVerdict_engines]; rfl)

end

/-- The jar with the defaults of R72. -/
theorem supplyDefaults_slot (k : Fin 4) (s : State) : (supplyDefaults k s).slots.get k
    = { s.slots.get k with record := Record.withDefaults s.defaultRecipe (s.slots.get k).record } :=
  Four.get_modify_same _ _ _

theorem withDefaults_fields (recipe : RecipeRef) (r : Record) :
    (r.withDefaults recipe).condition = (if r.gauged then r.condition else some .ungauged)
    ∧ (r.withDefaults recipe).recipe = (if r.gauged then r.recipe else recipe)
    ∧ (r.withDefaults recipe).headspace = (if r.gauged then r.headspace else none) := by
  unfold Record.withDefaults
  cases r.gauged <;> exact ⟨rfl, rfl, rfl⟩

theorem State.usable_ground {s t : State} (h : t.ground = s.ground) (n : Nat) : t.usable n = s.usable n := by
  have husable : t.settings.usable = s.settings.usable := congrArg (fun g => g.2.2.2.2.1) h
  rw [State.usable, husable, State.usable]

theorem State.defaultRecipe_ground {s t : State} (h : t.ground = s.ground) :
    t.defaultRecipe = s.recipeRef (s.profileField Profile.defaultRecipe) := by
  rw [State.defaultRecipe, State.recipeRef, State.recipeRef, State.profileField_ground h, State.usable_ground h]

/-- A jar bound whose recipe's thresholds lie above the limit leaves nothing due. -/
theorem bindJar_due {k : Fin 4} {s moved : State} {n limit : Nat} (hground : s.ground = moved.ground)
    (htracks : s.tracks = (markReached k .intakeClose moved).tracks)
    (hdue : moved.due k (some limit) = [.intakeClose])
    (habove : ∀ x ∈ [(s.recipe n).aCap, (s.recipe n).aFe, (s.recipe n).aFl, (s.recipe n).aFx, (s.recipe n).aDl,
      (s.recipe n).aRel], limit < x) : (bindJar k n s).due k (some limit) = [] := by
  refine List.eq_nil_iff_forall_not_mem.2 fun y hy => ?_
  obtain ⟨hunreached, hlimit⟩ := mem_due.1 hy
  obtain ⟨-, hreached, hbelow⟩ := unreached_iff.1 hunreached
  have hvalue := hlimit limit rfl
  have hground' : (bindJar k n s).ground = moved.ground := hground
  have hbound : (bindJar k n s).boundRecipe k = s.recipe n := by
    rw [State.boundRecipe]
    simp [bindJar, Engine.bind, State.recipe]
  have hmarks : ((bindJar k n s).tracks.get k).marks = ((markReached k .intakeClose moved).tracks.get k).marks.withoutRecipe := by
    rw [← htracks]
    simp [bindJar]
  cases hy' : y.isProfile with
  | true =>
    have hmark : (markReached k .intakeClose moved).reached k y = false := by
      rw [State.reached, hmarks, Marks.get_withoutRecipe _ hy'] at hreached
      exact hreached
    rw [markReached_reached, Bool.or_eq_false_iff, decide_eq_false_iff_not] at hmark
    have hpockets : (bindJar k n s).pocketCount = moved.pocketCount := State.profileField_ground hground' _
    rw [thresholdValue_profile hground' hy'] at hvalue hbelow
    rw [hpockets] at hbelow
    have hmem : y ∈ moved.due k (some limit) := mem_due.2 ⟨unreached_iff.2
      ⟨by rw [State.onList, hy', Bool.true_or], hmark.1, hbelow⟩, fun m hm => by rw [← Option.some.inj hm]; exact hvalue⟩
    rw [hdue, List.mem_singleton] at hmem
    exact hmark.2 hmem
  | false =>
    refine absurd hvalue (Nat.not_le.2 (habove _ ?_))
    cases y with
    | intakeClose | discharge => cases hy'
    | cap | fe | fl | fx | dl | rel => simp [State.thresholdValue, hbound]

/-- Settles O46: the decision of R73 and R75, and that nothing is due after it. -/
theorem intakeCloseDecidesTheJar : Obligations.IntakeCloseDecidesTheJar := by
  intro k s hreset hbegun hturns hdefined hheld hopened hnone moved hdue r given chosen
  have hmoved : Advanced .quiet s moved := advanced_of k hreset Levels.quiet_oc
  have hexec := exec_thresholdReached hreset hbegun hturns hdefined hheld Levels.quiet_oc
  let marked := markReached k .intakeClose moved
  let decided := supplyDefaults k marked
  have hground : decided.ground = s.ground := hmoved.ground
  have hmode : marked.unit.mode = s.unit.mode := congrArg ModeUnit.mode hmoved.unit
  have hslot : marked.slots.get k = s.slots.get k := by
    change moved.slots.get k = _
    rw [hmoved.slots]
  have hopened' : (marked.slots.get k).state = .opened := by rw [hslot]; exact hopened
  have hdecided : decided.slots.get k = { s.slots.get k with record := Record.withDefaults marked.defaultRecipe r } := by
    rw [supplyDefaults_slot, hslot]
  obtain ⟨hcondition, hrecipe, hheadspace⟩ := withDefaults_fields marked.defaultRecipe r
  have hdefault : marked.defaultRecipe = s.recipeRef (s.profileField Profile.defaultRecipe) :=
    State.defaultRecipe_ground hmoved.ground
  rw [hdefault] at hrecipe hdecided hcondition hheadspace
  have hgiven : (decided.slots.get k).record.condition = given := by rw [hdecided]; exact hcondition
  have hchosen : (decided.slots.get k).record.recipe = chosen := by rw [hdecided]; exact hrecipe
  have hphase : (decided.engines.get k).phase = (s.engines.get k).phase := hmoved.phase k
  have hrise : reportRise k moved = reportDue k (some (moved.travel k)) 7 (slotIntakeClose k marked) := reportDue_cons 7 hdue
  have settles (v : Verdict) (why : Reasons) (h : slotIntakeClose k marked = settleJar k v why decided) :
      ((reportRise k moved).slots.get k).state = .settled ∧ ((reportRise k moved).slots.get k).record.verdict = some v
        ∧ ((reportRise k moved).slots.get k).record.reasons = why
        ∧ ((reportRise k moved).engines.get k).phase = (s.engines.get k).phase := by
    have hrelists : Relists k marked (settleJar k v why decided) :=
      Relists.trans (.same rfl rfl) (settleJar_relists v why)
    have hground' : (settleJar k v why decided).ground = moved.ground :=
      (@Acts.settleJar k _ decided v why Acts.refl).steady.ground
    have hempty : (settleJar k v why decided).due k (some (moved.travel k)) = [] := by
      refine List.eq_nil_iff_forall_not_mem.2 fun y hy => ?_
      obtain ⟨hmem, hne⟩ := due_after hground' hrelists hy
      rw [hdue, List.mem_singleton] at hmem
      exact hne hmem
    have hjar := settleJar_jar k v why decided
    obtain ⟨_, _, _, hrecord⟩ := hjar.record
    rw [hrise, h, reportDue_empty 7 hempty, hrecord]
    exact ⟨hjar.state, rfl, rfl, by rw [settleJar, offerVerdict_engines]; exact hphase⟩
  have settled (v : Verdict) (why : Reasons) (h : slotIntakeClose k marked = settleJar k v why decided) :
      ((reportRise k moved).slots.get k).state = .settled ∧ ((reportRise k moved).slots.get k).record.verdict = some v
        ∧ ((reportRise k moved).slots.get k).record.reasons = why := by
    obtain ⟨hstate, hverdict, hreasons, -⟩ := settles v why h
    exact ⟨hstate, hverdict, hreasons⟩
  have running (h : s.unit.mode = .run) : slotIntakeClose k marked = decideJar k decided :=
    slotIntakeClose_run hopened' (hmode.trans h)
  refine ⟨_, hexec, fun h => ?_, fun h hc => ?_, fun h hc => ?_, fun h hj hd hu => ?_, fun h hj hd n hn hu hout => ?_,
    ?_, (report_steady hmoved k).and⟩
  · exact settled _ _ (slotIntakeClose_halted hopened' (by rw [hmode]; exact h))
  · exact settled _ _ ((running h).trans (decideJar_noJar (hgiven.trans hc)))
  · exact settled _ _ ((running h).trans (decideJar_damaged (hgiven.trans hc)))
  · refine settled _ _ ((running h).trans (decideJar_unusable (by rw [hgiven]; exact hj) (by rw [hgiven]; exact hd)
      fun n hn => ?_))
    rw [State.usable_ground hground]
    exact hu n (hchosen.symm.trans hn)
  · obtain ⟨hstate, hverdict, hreasons, hp⟩ := settles .skipped { headOut := true } ((running h).trans
      ((decideJar_usable (by rw [hgiven]; exact hj) (by rw [hgiven]; exact hd) (hchosen.trans hn)
        ((State.usable_ground hground n).trans hu)).trans (if_pos (hphase.trans hout))))
    exact ⟨hstate, hverdict, hreasons, hp.trans hout⟩
  · intro h hj hd n hn hu hin q habove
    have hbinds : slotIntakeClose k marked = bindJar k n decided := (running h).trans
      ((decideJar_usable (by rw [hgiven]; exact hj) (by rw [hgiven]; exact hd) (hchosen.trans hn)
        ((State.usable_ground hground n).trans hu)).trans (if_neg (by rw [hphase]; exact hin)))
    have hq : decided.recipe n = q := State.recipe_congr hground n
    have hempty : (bindJar k n decided).due k (some (moved.travel k)) = [] :=
      @bindJar_due k decided moved n _ rfl rfl hdue (by rw [hq]; exact habove)
    have hslots : (bindJar k n decided).slots.get k = Slot.bind q (decided.slots.get k) := by
      rw [← hq]
      exact Four.get_modify_same _ _ _
    have hengine : (bindJar k n decided).engines.get k = Engine.bind n (decided.engines.get k) := Four.get_modify_same _ _ _
    have hbase : (decided.slots.get k).record.headspace.getD q.hNom = if r.gauged then r.headspace.getD q.hNom else q.hNom := by
      rw [hdecided]
      rw [hheadspace]
      cases r.gauged <;> rfl
    rw [hrise, hbinds, reportDue_empty 7 hempty, hslots, hengine]
    refine ⟨rfl, rfl, rfl, hgiven, ?_, fun hlow => ?_⟩
    · change requiredFlush q (decided.slots.get k).record.headspace = _
      rw [requiredFlush, hbase]
      rfl
    · change ((decided.slots.get k).record.reasons.addIf (decide ((decided.slots.get k).record.condition = some .lowFill))
        .lowFill).lowFill = true
      rw [hgiven, hlow]
      rfl

/-! ## The release (R77 to R79, R157 to R167) -/

/-- The verdict unit's work, its estimate and its reasons written out (R159, R162 to R167). -/
theorem judged_eq (q : Recipe) (r : Record) :
    let d := if r.flushEnd = .none then 0 else if r.fReq = 0 then 1000 else min 1000 (1000 * r.fEff / r.fReq)
    let v := attainableVacuum q (r.fill.getD q.assumedFill) * d / 1000
    let reasons : Reasons := { r.reasons with
      vacuumLow := r.reasons.vacuumLow || decide (v < q.vMin)
      torqueLow := r.reasons.torqueLow || decide (r.tauFinal < q.tauMin)
      torqueHigh := r.reasons.torqueHigh || decide (q.tauMax < r.tauPeak) }
    judged q r = { r with v := v, reasons := reasons, verdict := some (if reasons = {} then .pass else .reject) } := by
  intro d v reasons
  have hv : vacuumEstimate q r = v := rfl
  have adds (x : Reasons) (b : Bool) : x.addIf b .vacuumLow = { x with vacuumLow := x.vacuumLow || b }
      ∧ x.addIf b .torqueLow = { x with torqueLow := x.torqueLow || b }
      ∧ x.addIf b .torqueHigh = { x with torqueHigh := x.torqueHigh || b } := by
    cases b <;> simp [Reasons.addIf, Reasons.add]
  have hreasons : checkedReasons q r = reasons := by
    rw [checkedReasons, hv, (adds _ _).1, (adds _ _).2.1, (adds _ _).2.2]
  rw [judged, hreasons, hv, verdictOf]

section
variable {k : Fin 4} {s : State}

/-- The record of a jar whose VERDICT has been offered (R78). -/
theorem offerVerdict_slot_eq (k : Fin 4) (s : State) : (offerVerdict k s).slots.get k = { s.slots.get k with
      record := if s.accepts .verdict [] then (s.slots.get k).record.verdictQueued s.transmit.ticket
        else (s.slots.get k).record.verdictWaiting }
    ∧ (offerVerdict k s).transmit.normal = s.transmit.normal ++ (if s.accepts .verdict []
      then [⟨⟨s.unit.node, .verdict, s.verdictFrame k⟩, 0, s.transmit.ticket⟩] else []) := by
  have haccepts : s.accepts .verdict (s.verdictFrame k) = s.accepts .verdict [] := rfl
  unfold offerVerdict
  rw [haccepts]
  cases s.accepts .verdict [] with
  | true => exact ⟨Four.get_modify_same _ _ _, rfl⟩
  | false => exact ⟨Four.get_modify_same _ _ _, (List.append_nil _).symm⟩

theorem offerVerdictOnce_slot_eq (k : Fin 4) (s : State) :
    (offerVerdictOnce k s).slots.get k = { s.slots.get k with
      record := if s.accepts .verdict [] then (s.slots.get k).record.verdictQueued s.transmit.ticket
        else (s.slots.get k).record }
    ∧ (offerVerdictOnce k s).transmit.normal = s.transmit.normal ++ (if s.accepts .verdict []
      then [⟨⟨s.unit.node, .verdict, s.verdictFrame k⟩, 0, s.transmit.ticket⟩] else []) := by
  have haccepts : s.accepts .verdict (s.verdictFrame k) = s.accepts .verdict [] := rfl
  unfold offerVerdictOnce
  rw [haccepts]
  cases s.accepts .verdict [] with
  | true => exact ⟨Four.get_modify_same _ _ _, rfl⟩
  | false => exact ⟨rfl, (List.append_nil _).symm⟩

theorem offerVerdictOnce_inWindow (k : Fin 4) (s : State) : (offerVerdictOnce k s).inWindow k = s.inWindow k := by
  unfold offerVerdictOnce
  split <;> rfl

/-- The slot and the queue after a release before the discharge. -/
theorem releaseSlot_before (h : (s.slots.get k).record.passed = false) :
    releaseSlot k s = offerVerdict k (modSlot k (Slot.judge (s.boundRecipe k)) s) :=
  if_neg (by rw [h]; exact Bool.false_ne_true)

/-- The slot and the queue after a release past the discharge. -/
theorem releaseSlot_after (h : (s.slots.get k).record.passed = true) : releaseSlot k s
    = if s.inWindow k then modSlot k Slot.reopen (offerVerdictOnce k (modSlot k (Slot.judge (s.boundRecipe k)) s))
      else offerVerdictOnce k (modSlot k (Slot.judge (s.boundRecipe k)) s) := by
  unfold releaseSlot
  dsimp only
  rw [if_pos h, offerVerdictOnce_inWindow]
  rfl

theorem inWindow_iff (s : State) (k : Fin 4) :
    s.inWindow k = true ↔ s.discharge ≤ s.travel k ∨ s.travel k < s.intakeClose := by
  simp [State.inWindow]

end

/-- Settles O47: the release of a head in DWELL, before and after the discharge. -/
theorem releaseJudgesTheJar : Obligations.ReleaseJudgesTheJar := by
  intro k s hreset hbegun hturns hdefined hheld hbound hphase moved hdue r q d v reasons judgedRecord frame window
  have hmoved : Advanced .quiet s moved := advanced_of k hreset Levels.quiet_oc
  have hexec := exec_thresholdReached hreset hbegun hturns hdefined hheld Levels.quiet_oc
  let raised := modEngine k (fun x => { x with press := false }) (markReached k .rel moved)
  let judgedState := modSlot k (Slot.judge (raised.boundRecipe k)) raised
  have hreport : reportRise k moved = release k (markReached k .rel moved) :=
    (reportRise_alone (by decide) hdue).trans (headThreshold_rel_dwell (by exact (hmoved.phase k).trans hphase))
  have hslot : raised.slots.get k = s.slots.get k := by
    change moved.slots.get k = _
    rw [hmoved.slots]
  have hrecipe : raised.boundRecipe k = q :=
    State.boundRecipe_congr hmoved.ground (by rw [modEngine_engines, Four.get_modify_same]; exact hmoved.recipe k)
  have hjudged : judgedState.slots.get k = { s.slots.get k with state := .settled, record := judgedRecord } := by
    have hrecord : judged q r = judgedRecord := judged_eq q r
    rw [← hrecord, ← hrecipe]
    change (raised.slots.modify k (Slot.judge (raised.boundRecipe k))).get k = _
    rw [Four.get_modify_same, hslot, Slot.judge, Slot.write_bound _ _ hbound]
  have haccepts : judgedState.accepts .verdict [] = s.accepts .verdict [] := hmoved.accepts _ _
  have hqueue : judgedState.transmit.normal = s.transmit.normal := hmoved.queue.1
  have hticket : judgedState.transmit.ticket = s.transmit.ticket := hmoved.queue.2
  have hnode : judgedState.unit.node = s.unit.node := congrArg ModeUnit.node hmoved.unit
  have hframe : (⟨⟨judgedState.unit.node, .verdict, judgedState.verdictFrame k⟩, 0, judgedState.transmit.ticket⟩ : TxFrame)
      = frame := by
    rw [State.verdictFrame, hjudged, hnode, hticket]
  have hslots : (release k (markReached k .rel moved)).slots = (releaseSlot k raised).slots := rfl
  have htransmit : (release k (markReached k .rel moved)).transmit = (releaseSlot k raised).transmit := rfl
  have hengine := release_engine k (markReached k .rel moved)
  obtain ⟨m, hm⟩ := hmoved.engine k
  have hengine' : (markReached k .rel moved).engines.get k = _ := hm
  have hwindow : raised.inWindow k = true ↔ window := by
    rw [inWindow_iff]
    have hdischarge : raised.discharge = s.discharge := State.profileField_ground hmoved.ground _
    have hclose : raised.intakeClose = s.intakeClose := State.profileField_ground hmoved.ground _
    rw [hdischarge, hclose]
    rfl
  refine ⟨_, hexec.trans (congrArg Host.Outcome.next hreport), ?_⟩
  rw [hslots, htransmit, hengine, hengine']
  have hsteady := report_steady hmoved k
  rw [hreport] at hsteady
  have htail := hsteady.and
  rcases Bool.eq_false_or_eq_true (s.slots.get k).record.passed with hpassed | hpassed
  · obtain ⟨hoffered, hsent⟩ := offerVerdictOnce_slot_eq k judgedState
    rw [releaseSlot_after (by rw [hslot]; exact hpassed)]
    refine ⟨?_, fun h => ?_, fun _ => ?_, rfl, rfl, rfl, rfl, htail⟩
    · rw [← hframe, ← hqueue, ← haccepts, ← hsent]
      split <;> rfl
    · cases hpassed.symm.trans h
    · by_cases hw : window
      · rw [if_pos (hwindow.2 hw), if_pos hw, modSlot_slots, Four.get_modify_same, hoffered, hjudged]
        rfl
      · rw [if_neg (fun h => hw (hwindow.1 h)), if_neg hw, hoffered, hjudged, haccepts, hticket]
        rfl
  · obtain ⟨hoffered, hsent⟩ := offerVerdict_slot_eq k judgedState
    rw [releaseSlot_before (by rw [hslot]; exact hpassed)]
    refine ⟨?_, fun _ => ?_, fun h => ?_, rfl, rfl, rfl, rfl, htail⟩
    · rw [hsent, haccepts, hqueue, hframe]
    · rw [hoffered, hjudged, haccepts, hticket]
      rfl
    · cases hpassed.symm.trans h

end Sys2Proof.Machine

/-! PROOFS. The sent report of a DRAW-OPEN: the draw opens, its head enters its phase, and the frames behind the sent one
keep their places (R45, R91, R99, R149, R152). -/

namespace Sys2Proof.Machine
open Sys2Proof

/-! ## A draw whose frame is sent (R149) -/

/-- Head `k`'s draw neither asks nor is PENDING, and no DRAW-OPEN of it waits in the queue, which begins with `rest`. -/
structure SentDraw (k : Fin 4) (rest : List TxFrame) (s : State) : Prop where
  queue : rest <+: s.transmit.normal
  quiet : s.quiet k
  frame : (s.draws.get k).openFrame = .sent ∨ (s.draws.get k).terms = none

namespace SentDraw
variable {k : Fin 4} {rest : List TxFrame} {s t : State}

theorem congr (h : SentDraw k rest s) (hdraws : t.draws = s.draws) (hnormal : t.transmit.normal = s.transmit.normal) :
    SentDraw k rest t := by
  obtain ⟨hqueue, hquiet, hframe⟩ := h
  exact ⟨by rw [hnormal]; exact hqueue, by rw [State.quiet, hdraws]; exact hquiet, by rw [hdraws]; exact hframe⟩

theorem moves (h : SentDraw k rest s) (hmoves : Moves false s t) : SentDraw k rest t := by
  have hafter := hmoves.undisturbed h.quiet
  obtain ⟨p, hp⟩ := hafter.draw
  exact ⟨h.queue.trans hmoves.queue_grows, hafter.quiet h.quiet, by rw [hp]; exact h.frame⟩

/-- The draw closed with a DRAW-CLOSE behind its sent frame. -/
theorem ended (c : DrawClass) (h : rest <+: s.transmit.normal) :
    SentDraw k rest (offerClose k c (modDraw k (OwnDraw.ended none) s)) := by
  have hcloses := (Closes.ended k s).offered c
  refine ⟨?_, hcloses.quiet, .inr hcloses.terms⟩
  unfold offerClose
  split
  · exact h.trans (List.prefix_append _ _)
  · split <;> exact h

theorem closeDraw (h : SentDraw k rest s) : SentDraw k rest (closeDraw k s) := by
  cases hterms : (s.draws.get k).terms with
  | none => rwa [closeDraw_no_terms hterms]
  | some a =>
    cases hopen : (s.draws.get k).isOpen with
    | false => rwa [closeDraw_idle hopen]
    | true =>
      have hsent : (s.draws.get k).openFrame = .sent := by
        rcases h.frame with hf | hf
        · exact hf
        · cases hterms.symm.trans hf
      have hcloses : Machine.closeDraw k s = arbiter a.cls (offerClose k a.cls (modDraw k (OwnDraw.ended none) s)) := by
        unfold Machine.closeDraw
        rw [hterms]
        dsimp only
        rw [if_pos hopen, hsent]
      rw [hcloses]
      exact (ended a.cls h.queue).moves (moves_arbiter a.cls _)

theorem release (h : SentDraw k rest s) : SentDraw k rest (release k s) := by
  refine ⟨h.queue.trans ?_, by rw [State.quiet, release_draws]; exact h.quiet, by rw [release_draws]; exact h.frame⟩
  change s.transmit.normal <+: (releaseSlot k (modEngine k (fun x => { x with press := false }) s)).transmit.normal
  unfold releaseSlot offerVerdictOnce offerVerdict
  dsimp only
  split
  · split
    · split <;> exact List.prefix_append _ _
    · split <;> exact List.prefix_refl _
  · split
    · exact List.prefix_append _ _
    · exact List.prefix_refl _

theorem toDwell (h : SentDraw k rest s) : SentDraw k rest (toDwell k s) := by
  have hdwell : SentDraw k rest (modEngine k (fun x => { x with phase := .dwell }) s) := h.congr rfl rfl
  unfold Machine.toDwell
  split
  · exact hdwell.release
  · exact hdwell

theorem torqueEnded (out : Bool) (h : SentDraw k rest s) : SentDraw k rest (torqueEnded k out s) := by
  have hended : SentDraw k rest (modEngine k (fun x => { x with out := x.out || out }) (Machine.closeDraw k s)) :=
    h.closeDraw.congr rfl rfl
  unfold Machine.torqueEnded
  split
  · exact hended.toDwell
  · exact h

theorem endPhase (kind : TorqueEnd) (out : Bool) (f : Channel → Channel) (h : SentDraw k rest s) :
    SentDraw k rest (endPhase k kind out f s) := by
  have hwritten : SentDraw k rest (modChannel k f (writeRecord k (Record.torqueDone kind
      ((s.channels.get k).tauFinal kind) ((s.channels.get k).peak.getD 0)) s)) := h.congr rfl rfl
  exact hwritten.torqueEnded out

theorem tripOvercurrent (h : SentDraw k rest s) : SentDraw k rest (tripOvercurrent k s) := by
  have hcleared : SentDraw k rest (clearForcedDrive k s) := h.congr (clearForcedDrive_draws k s) (by
    unfold clearForcedDrive
    split <;> rfl)
  unfold Machine.tripOvercurrent
  split
  · split
    · exact hcleared.endPhase _ _ _
    · split <;> exact hcleared.congr rfl rfl
  · exact h

theorem endFlush (kind : FlushEnd) (h : SentDraw k rest s) : SentDraw k rest (endFlush k kind s) := by
  have hwritten : SentDraw k rest (writeRecord k (fun r => { r with flushEnd := kind })
      (modEngine k (fun x => { x with steam := false }) s)) := h.congr rfl rfl
  exact hwritten.closeDraw.congr rfl rfl

theorem enterFlush (h : SentDraw k rest s) : SentDraw k rest (enterFlush k s) := by
  have hentered : SentDraw k rest (modEngine k (fun x => { x with phase := .flush, asking := false }) s) := h.congr rfl rfl
  unfold Machine.enterFlush
  dsimp only
  split
  · exact hentered.endFlush _
  · split
    · exact hentered.endFlush _
    · exact hentered.congr rfl rfl

theorem enterTorque (h : SentDraw k rest s) : SentDraw k rest (enterTorque k s) := by
  unfold Machine.enterTorque watchComparator
  dsimp only
  split
  · exact torqueEnded _ (h.congr rfl rfl)
  · split
    · exact tripOvercurrent (h.congr rfl rfl)
    · exact h.congr rfl rfl

theorem headOpens (c : DrawClass) (h : SentDraw k rest s) : SentDraw k rest (headOpens k c s) := by
  unfold Machine.headOpens
  split
  · exact h.enterFlush
  · exact h.enterFlush
  · exact h.enterTorque
  · exact h.enterTorque
  · exact h

end SentDraw

/-! ## The share figures (R142) -/

theorem sumHeads_add {f g : Fin 4 → Nat} (k : Fin 4) (n : Nat) (hk : g k = f k + n) (hother : ∀ j, j ≠ k → g j = f j) :
    sumHeads g = sumHeads f + n := by
  unfold sumHeads
  match k with
  | 0 => rw [hk, hother 1 (by decide), hother 2 (by decide), hother 3 (by decide)]; omega
  | 1 => rw [hk, hother 0 (by decide), hother 2 (by decide), hother 3 (by decide)]; omega
  | 2 => rw [hk, hother 0 (by decide), hother 1 (by decide), hother 3 (by decide)]; omega
  | 3 => rw [hk, hother 0 (by decide), hother 1 (by decide), hother 2 (by decide)]; omega

/-- Every draw is lawful, and has the units in use that it has in `s`. -/
def SameShares (s t : State) : Prop :=
  ∀ j, (t.draws.get j).lawful = true ∧ ∀ c, (t.draws.get j).openUnits c = (s.draws.get j).openUnits c

theorem OwnDraw.lawful_asks {d : OwnDraw} {a : Ask} (h : d.lawful = true) (hask : d.ask = some a) : d.status = .none := by
  simp only [OwnDraw.lawful, Bool.and_eq_true, Bool.or_eq_true, decide_eq_true_eq] at h
  rcases h.1 with hnone | hstatus
  · rw [hask] at hnone
    cases hnone
  · exact hstatus

theorem OwnDraw.openUnits_idle {d : OwnDraw} (c : DrawClass) (h : d.isOpen = false) : d.openUnits c = 0 :=
  if_neg (by rw [h]; exact Bool.false_ne_true)

theorem OwnDraw.isOpen_none {d : OwnDraw} (h : d.status = .none) : d.isOpen = false := by
  rw [OwnDraw.isOpen, h]

theorem OwnDraw.isOpen_pending {d : OwnDraw} (h : d.status = .pending) : d.isOpen = false := by
  rw [OwnDraw.isOpen, h]

/-- The background moves without withdrawals keep the units in use: a grant makes a draw PENDING that was none. -/
theorem Move.shares {s t u : State} (h : Move false t u) (ht : SameShares s t) : SameShares s u := by
  cases h with
  | consult | refuse | position | reannounce | offer | queued | waiting => exact ht
  | closed k c =>
    intro j
    by_cases hj : j = k
    · subst hj
      rw [modDraw_draws, Four.get_modify_same]
      exact ht j
    · rw [modDraw_draws, Four.get_modify_other _ _ hj]
      exact ht j
  | grant k a hmode hask hfits haccepts =>
    intro j
    by_cases hj : j = k
    · subst hj
      obtain ⟨hlawful, hunits⟩ := ht j
      have hnone := OwnDraw.lawful_asks hlawful hask
      have hgranted : (modEngine j Engine.granted (modDraw j (OwnDraw.granted a (t.lifeOf j a))
          (enqueue .drawOpen (openPayload j a (t.lifeOf j a)) t))).draws.get j
          = OwnDraw.granted a (t.lifeOf j a) (t.draws.get j) := Four.get_modify_same _ _ _
      rw [hgranted]
      refine ⟨rfl, fun c => ?_⟩
      rw [← hunits c, OwnDraw.openUnits_idle c (OwnDraw.isOpen_none hnone)]
      exact OwnDraw.openUnits_idle c (OwnDraw.isOpen_pending rfl)
    · rw [modEngine_draws, modDraw_draws, Four.get_modify_other _ _ hj]
      exact ht j
  | withdraw k hw => exact absurd hw Bool.false_ne_true

theorem Moves.shareOf {s t : State} (h : Moves false s t) (hlawful : ∀ j, (s.draws.get j).lawful = true) (c : DrawClass) :
    t.shareOf c = s.shareOf c := by
  have hshares : SameShares s t := h.preserve (fun _ _ hmove => hmove.shares) fun j => ⟨hlawful j, fun _ => rfl⟩
  have hunits : (fun k => (t.draws.get k).openUnits c) = fun k => (s.draws.get k).openUnits c :=
    funext fun j => (hshares j).2 c
  rw [State.shareOf, State.shareOf, h.steady.view, hunits]

/-! ## The report (R149) -/

theorem headOf_val (k : Fin 4) : headOf k.val = some k := by
  unfold headOf
  rw [dif_pos k.isLt]

/-- A PENDING draw opens: its record, then the open reported to its head, then the arbiter's run. -/
theorem openSent_pending {k : Fin 4} {c : DrawClass} {s : State} (hframe : (s.draws.get k).openFrame = .inQueue)
    (hcls : (s.draws.get k).terms.map Ask.cls = some c) (hstatus : (s.draws.get k).status = .pending) : openSent k c s
      = arbiter c (headOpens k c (modDraw k (fun d => { d with status := .opened, openFrame := .sent }) s)) := by
  unfold openSent
  rw [if_pos ⟨hframe, hcls⟩, hstatus]

theorem openSent_forced {k : Fin 4} {c : DrawClass} {s : State} (hframe : (s.draws.get k).openFrame = .inQueue)
    (hcls : (s.draws.get k).terms.map Ask.cls = some c) (hstatus : (s.draws.get k).status = .openForced) :
    openSent k c s = modDraw k (fun d => { d with openFrame := .sent }) s := by
  unfold openSent
  rw [if_pos ⟨hframe, hcls⟩, hstatus]

theorem openSent_other {k : Fin 4} {c : DrawClass} {s : State} (hpending : (s.draws.get k).status ≠ .pending)
    (hforced : (s.draws.get k).status ≠ .openForced) : openSent k c s = s := by
  unfold openSent
  split
  · cases hstatus : (s.draws.get k).status with
    | pending => exact absurd hstatus hpending
    | openForced => exact absurd hstatus hforced
    | none | opened => rfl
  · rfl

/-- What the removal of the frame finds: time has passed, and the frame has left the queue. -/
structure FrameLeft (s u : State) (rest : List TxFrame) : Prop extends Steady s u where
  queue   : u.transmit.normal = rest
  motion  : u.tracker.motion = s.tracker.motion
  pins    : u.pins = s.pins
  slots   : u.slots = s.slots
  draws   : u.draws = s.draws
  tracks  : u.tracks = s.tracks
  elapsed : ∃ n, u.engines = (elapse n s).engines ∧ u.channels = (elapse n s).channels

theorem FrameLeft.engine {s u : State} {rest : List TxFrame} (h : FrameLeft s u rest) (k : Fin 4) :
    ∃ m, u.engines.get k = { s.engines.get k with ms := m } := by
  obtain ⟨n, hengines, -⟩ := h.elapsed
  rw [hengines]
  exact elapse_engine n s k

theorem FrameLeft.channel {s u : State} {rest : List TxFrame} (h : FrameLeft s u rest) (k : Fin 4) :
    ∃ m, u.channels.get k = { s.channels.get k with ms := m } := by
  obtain ⟨n, -, hchannels⟩ := h.elapsed
  rw [hchannels]
  exact elapse_channel n s k

theorem exec_drawOpenSent {s : State} {x : TxFrame} {rest : List TxFrame} {k : Fin 4} {c : DrawClass}
    (hreset : s.inReset = none) (hline : s.transmit.onLine = .normal) (hnormal : s.transmit.normal = x :: rest)
    (hkind : x.frame.kind = .drawOpen) (hhead : u8 x.frame.payload 0 = k.val) (hclass : u8 x.frame.payload 1 = c.code) :
    ∃ u, FrameLeft s u rest ∧ exec .transmissionComplete s = .next (queueRemoval (openSent k c u)) := by
  obtain ⟨n, hexec, hsteady, hqueue⟩ := exec_normalSent hreset hline hnormal (by rw [hkind]; decide)
  have hreport (u : State) : sentReport x u = openSent k c u := by
    unfold sentReport sentOpen
    rw [hkind, hhead, hclass, headOf_val, DrawClass.ofCode_code]
  refine ⟨dropHead (offLine none (elapse n s)), ⟨hsteady, hqueue, ?_, elapse_pins n s, elapse_slots n s, elapse_draws n s,
    elapse_tracks n s, n, rfl, rfl⟩, by rw [hexec, hreport]⟩
  have hmotion : (elapse n s).tracker.motion = s.tracker.motion := by
    rw [elapse_tracker n s hreset]
    rfl
  exact hmotion

/-- The record of a PENDING draw whose frame has been sent. -/
def OwnDraw.opens (d : OwnDraw) : OwnDraw := { d with status := .opened, openFrame := .sent }

theorem OwnDraw.opens_not_pending (d : OwnDraw) : d.opens.status ≠ .pending := nofun

/-- The units of an opening draw come into use (R142). -/
theorem opens_shareOf {k : Fin 4} {a : Ask} {s : State} (hstatus : (s.draws.get k).status = .pending)
    (hterms : (s.draws.get k).terms = some a) :
    (modDraw k OwnDraw.opens s).shareOf a.cls = s.shareOf a.cls + a.units := by
  have hbefore := OwnDraw.openUnits_idle a.cls (OwnDraw.isOpen_pending hstatus)
  have hafter : ((modDraw k OwnDraw.opens s).draws.get k).openUnits a.cls = a.units := by
    rw [modDraw_draws, Four.get_modify_same]
    simp [OwnDraw.openUnits, OwnDraw.opens, OwnDraw.isOpen, OwnDraw.unitsOf, hterms]
  have hsum : sumHeads (fun j => ((modDraw k OwnDraw.opens s).draws.get j).openUnits a.cls)
      = sumHeads (fun j => (s.draws.get j).openUnits a.cls) + a.units :=
    sumHeads_add k a.units (by rw [hafter, hbefore, Nat.zero_add])
      fun j hj => by rw [modDraw_draws, Four.get_modify_other _ _ hj]
  rw [State.shareOf, hsum, State.shareOf, Nat.add_assoc]
  rfl

theorem opens_lawful {k : Fin 4} {s : State} (hlawful : ∀ j, (s.draws.get j).lawful = true)
    (hask : (s.draws.get k).ask = none) (hterms : (s.draws.get k).terms.isSome = true) (j : Fin 4) :
    ((modDraw k OwnDraw.opens s).draws.get j).lawful = true := by
  by_cases hj : j = k
  · subst hj
    rw [modDraw_draws, Four.get_modify_same]
    simp [OwnDraw.lawful, OwnDraw.opens, hask, hterms]
  · rw [modDraw_draws, Four.get_modify_other _ _ hj]
    exact hlawful j

/-- A draw that opens, and what its head and the background leave of it: its engine, its jar, its channel, its terms and
the units in use (R99, R142, R149). -/
theorem opened_after {k : Fin 4} {a : Ask} {s v t : State} (hstatus : (s.draws.get k).status = .pending)
    (hterms : (s.draws.get k).terms = some a) (hask : (s.draws.get k).ask = none)
    (hlawful : ∀ j, (s.draws.get j).lawful = true) (hmoves : Moves false v t)
    (hdraws : v.draws = (modDraw k OwnDraw.opens s).draws) (hview : v.view = s.view) :
    ((t.draws.get k).status = .opened ∧ (t.draws.get k).openFrame = .sent ∧ (t.draws.get k).terms = some a
      ∧ t.shareOf a.cls = s.shareOf a.cls + a.units)
    ∧ t.engines.get k = v.engines.get k ∧ t.channels = v.channels := by
  have hdraw : v.draws.get k = OwnDraw.opens (s.draws.get k) := by
    rw [hdraws]
    exact Four.get_modify_same _ _ _
  have hquiet : v.quiet k := by
    rw [State.quiet, hdraw]
    exact ⟨hask, OwnDraw.opens_not_pending _⟩
  have hafter := hmoves.undisturbed hquiet
  obtain ⟨p, hp⟩ := hafter.draw
  have hshare : v.shareOf a.cls = s.shareOf a.cls + a.units := by
    rw [← opens_shareOf hstatus hterms, State.shareOf, State.shareOf, hview, hdraws]
    rfl
  have hshares := hmoves.shareOf (fun j => by rw [hdraws]; exact opens_lawful hlawful hask (by rw [hterms]; rfl) j) a.cls
  rw [hp, hdraw]
  exact ⟨⟨rfl, rfl, hterms, hshares.trans hshare⟩, hafter.engine, hafter.channels⟩

theorem enterFlush_stalled {k : Fin 4} {s : State} (hneeded : (s.slots.get k).record.fReq ≠ 0)
    (h : s.tracker.motion = .stalled) : enterFlush k s
      = endFlush k .cut (modEngine k (fun x => { x with phase := .flush, asking := false }) s) := by
  unfold enterFlush
  dsimp only
  rw [if_neg hneeded, if_pos h]

/-- A flush that ends in the event of its entry (R91, R93). -/
theorem enterFlush_ends {k : Fin 4} {s : State}
    (h : (s.slots.get k).record.fReq = 0 ∨ s.tracker.motion = .stalled) : enterFlush k s
      = endFlush k (if (s.slots.get k).record.fReq = 0 then .complete else .cut)
        (modEngine k (fun x => { x with phase := .flush, asking := false }) s) := by
  by_cases hneeded : (s.slots.get k).record.fReq = 0
  · rw [if_pos hneeded, enterFlush_unneeded hneeded]
  · rw [if_neg hneeded, enterFlush_stalled hneeded (h.resolve_left hneeded)]

theorem enterTorque_tripped {k : Fin 4} {s : State} (h : (s.channels.get k).state = .tripped) : enterTorque k s
    = torqueEnded k false (endBeforeStart k (s.channels.get k).beforeKind
      (modEngine k (fun x => { x with phase := .torque, asking := false }) s)) := by
  unfold enterTorque
  dsimp only
  rw [if_pos h]

/-- Settles O35: the draw opens and its head enters FLUSH or TORQUE, or ends its phase at once; an OPEN-FORCED draw keeps
all but its frame. -/
theorem sentDrawOpenOpensItsDraw : Obligations.SentDrawOpenOpensItsDraw := by
  intro s k x rest a hreset hline hnormal hkind hhead hclass hlawful hframe hask hterms d r opens
  obtain ⟨u, hleft, hexec⟩ := exec_drawOpenSent hreset hline hnormal hkind hhead hclass
  have hframe' : (u.draws.get k).openFrame = .inQueue := by rw [hleft.draws]; exact hframe
  have hterms' : (u.draws.get k).terms = some a := by rw [hleft.draws]; exact hterms
  have hask' : (u.draws.get k).ask = none := by rw [hleft.draws]; exact hask
  have hcls : (u.draws.get k).terms.map Ask.cls = some a.cls := by rw [hterms']; rfl
  have hlawful' (j : Fin 4) : (u.draws.get j).lawful = true := by rw [hleft.draws]; exact hlawful j
  have hslot : u.slots.get k = s.slots.get k := by rw [hleft.slots]
  have hshare (c : DrawClass) : u.shareOf c = s.shareOf c := by
    rw [State.shareOf, State.shareOf, hleft.view, hleft.draws]
  have hsteady : Steady s (queueRemoval (openSent k a.cls u)) :=
    (hleft.toSteady.trans (@Acts.openSent k _ u a.cls Acts.refl).steady).trans (@moves_queueRemoval false _).steady
  obtain ⟨m, hengine⟩ := hleft.engine k
  obtain ⟨m', hchannel⟩ := hleft.channel k
  have opening (h : d.status = .pending) : (u.draws.get k).status = .pending := by rw [hleft.draws]; exact h
  have pending (h : d.status = .pending) (v : State) (hv : headOpens k a.cls (modDraw k OwnDraw.opens u) = v) :
      Moves false v (queueRemoval (openSent k a.cls u)) := by
    rw [openSent_pending hframe' hcls (opening h)]
    change Moves false v (queueRemoval (arbiter a.cls (headOpens k a.cls (modDraw k OwnDraw.opens u))))
    rw [hv]
    exact (moves_arbiter a.cls v).trans (moves_queueRemoval _)
  have hopened (h : d.status = .pending) : ((modDraw k OwnDraw.opens u).draws.get k).isOpen = true
      ∧ ((modDraw k OwnDraw.opens u).draws.get k).terms = some a := by
    rw [modDraw_draws, Four.get_modify_same]
    exact ⟨rfl, hterms'⟩
  have hprefix : rest <+: (queueRemoval (openSent k a.cls u)).transmit.normal := by
    by_cases hpending : (u.draws.get k).status = .pending
    · have hsent : SentDraw k rest (modDraw k OwnDraw.opens u) := by
        refine ⟨by rw [← hleft.queue]; exact List.prefix_refl _, ?_, .inl ?_⟩
        · rw [State.quiet, modDraw_draws, Four.get_modify_same]
          exact ⟨hask', OwnDraw.opens_not_pending _⟩
        · rw [modDraw_draws, Four.get_modify_same]
          rfl
      exact ((hsent.headOpens a.cls).moves (pending (by rw [← hpending, hleft.draws]) _ rfl)).queue
    · have hsame : (openSent k a.cls u).transmit.normal = rest := by
        by_cases hforced : (u.draws.get k).status = .openForced
        · rw [openSent_forced hframe' hcls hforced]
          exact hleft.queue
        · rw [openSent_other hpending hforced]
          exact hleft.queue
      rw [← hsame]
      exact (moves_queueRemoval _).queue_grows
  refine ⟨_, hexec, fun hpending hsteam hphase => ⟨fun hneeded hturns => ?_, fun hends hbound => ?_⟩,
    fun hpending hdrive hphase => ⟨fun hoff hoc => ?_, fun oc htripped hcause hbound hrel => ?_⟩, fun hforced => ?_,
    hprefix, hsteady.and⟩
  · have hstarts : headOpens k a.cls (modDraw k OwnDraw.opens u)
        = modEngine k (fun x => { x with steam := true, ms := 0 })
          (modEngine k (fun x => { x with phase := .flush, asking := false }) (modDraw k OwnDraw.opens u)) := by
      rw [hsteam, headOpens_steam (.inr (by change (u.engines.get k).phase = _; rw [hengine]; exact hphase))]
      exact enterFlush_flushes (by change (u.slots.get k).record.fReq ≠ 0; rw [hslot]; exact hneeded)
        (fun h => hturns (hleft.motion.symm.trans h))
    have hmoves := pending hpending _ hstarts
    obtain ⟨hdraw, he, -⟩ := opened_after (opening hpending) hterms' hask' hlawful' hmoves rfl rfl
    rw [hshare] at hdraw
    refine ⟨hdraw, ?_, ?_⟩ <;> rw [he] <;> simp
  · let flushing := modEngine k (fun x => { x with phase := .flush, asking := false }) (modDraw k OwnDraw.opens u)
    have hstarts : headOpens k a.cls (modDraw k OwnDraw.opens u)
        = endFlush k (if r.fReq = 0 then .complete else .cut) flushing := by
      have hfreq : ((modDraw k OwnDraw.opens u).slots.get k).record.fReq = r.fReq := by
        change (u.slots.get k).record.fReq = _
        rw [hslot]
      rw [hsteam, headOpens_steam (.inr (by change (u.engines.get k).phase = _; rw [hengine]; exact hphase)), ← hfreq]
      exact enterFlush_ends (by rw [hfreq]; exact hends.imp id fun h => hleft.motion.trans h)
    have hjar : flushing.slots.get k = s.slots.get k := hslot
    obtain ⟨hseat, hended, hstatus, hnoask, -⟩ := @endFlush_ends k flushing a (if r.fReq = 0 then .complete else .cut)
      (by rw [hjar]; exact hbound) (hopened hpending).1 (hopened hpending).2
    rw [hjar] at hended
    have hafter := (pending hpending _ hstarts).undisturbed ⟨hnoask, by rw [hstatus]; decide⟩
    obtain ⟨p, hp⟩ := hafter.draw
    obtain ⟨_, _, _, hrecord⟩ := (hended.trans (hafter.jars k)).record
    rw [hafter.engine, hseat, hrecord, hp]
    exact ⟨rfl, rfl, rfl, rfl, hstatus⟩
  · have hstarts : headOpens k a.cls (modDraw k OwnDraw.opens u)
        = modChannel k (Channel.startPhase ((modDraw k OwnDraw.opens u).boundRecipe k)
            ((modDraw k OwnDraw.opens u).ceilingOf k))
          (modEngine k (fun x => { x with phase := .torque, asking := false }) (modDraw k OwnDraw.opens u)) := by
      rw [hdrive, headOpens_drive (.inr (by change (u.engines.get k).phase = _; rw [hengine]; exact hphase))]
      exact enterTorque_starts (by change (u.channels.get k).state = _; rw [hchannel]; exact hoff)
        (by change (u.pins.heads.get k).oc = _; rw [hleft.pins]; exact hoc)
    have hmoves := pending hpending _ hstarts
    obtain ⟨hdraw, he, hc⟩ := opened_after (opening hpending) hterms' hask' hlawful' hmoves rfl rfl
    have hrecipe : (modDraw k OwnDraw.opens u).boundRecipe k = s.boundRecipe k :=
      State.boundRecipe_congr hleft.ground (by change (u.engines.get k).recipe = _; rw [hengine])
    rw [hshare] at hdraw
    refine ⟨hdraw, by rw [he]; simp, ?_⟩
    rw [hc, modChannel_channels, Four.get_modify_same, hrecipe]
    exact (startPhase_state _ _ _).1
  · let ended := endBeforeStart k (if oc then .trip else .aborted)
      (modEngine k (fun x => { x with phase := .torque, asking := false }) (modDraw k OwnDraw.opens u))
    let closed := modEngine k (fun x => { x with out := x.out || false }) (closeDraw k ended)
    have hkind : (u.channels.get k).beforeKind = if oc then .trip else .aborted := by
      rw [Channel.beforeKind, hchannel]
      change (if (s.channels.get k).causes.overcurrent = true then _ else _) = _
      rw [hcause]
    have hstarts : headOpens k a.cls (modDraw k OwnDraw.opens u) = toDwell k closed := by
      rw [hdrive, headOpens_drive (.inr (by change (u.engines.get k).phase = _; rw [hengine]; exact hphase)),
        enterTorque_tripped (by change (u.channels.get k).state = _; rw [hchannel]; exact htripped)]
      change torqueEnded k false (endBeforeStart k (u.channels.get k).beforeKind _) = _
      rw [hkind]
      refine torqueEnded_torque false ?_
      change ((modEngine k _ _).engines.get k).phase = .torque
      rw [modEngine_engines, Four.get_modify_same]
    have hwritten := @endBeforeStart_slot k
      (modEngine k (fun x => { x with phase := .torque, asking := false }) (modDraw k OwnDraw.opens u))
      (if oc then .trip else .aborted) (by change (u.slots.get k).state = _; rw [hslot]; exact hbound)
    have hcloses := @closeDraw_closes k ended a (hopened hpending).1 (hopened hpending).2
    have hwaits : closed.reached k .rel = false := by
      change (closeDraw k ended).reached k .rel = false
      rw [State.reached, hcloses.tracks]
      change (u.tracks.get k).marks.get .rel = false
      rw [hleft.tracks]
      exact hrel
    have hquiet : (toDwell k closed).quiet k := by
      rw [State.quiet, toDwell_draws]
      exact hcloses.quiet
    have hafter := (pending hpending _ hstarts).undisturbed hquiet
    obtain ⟨p, hp⟩ := hafter.draw
    have hjar := hafter.jars k
    rw [toDwell_slots_waits hwaits] at hjar
    have hended : (ended.slots.get k).sameJar _ := (hcloses.jars k).trans hjar
    obtain ⟨_, _, _, hrecord⟩ := hended.record
    rw [hafter.engine, toDwell_engine_waits hwaits, hp, toDwell_draws, hrecord, hwritten]
    exact ⟨rfl, hcloses.status, rfl, rfl⟩
  · have hforced' : (u.draws.get k).status = .openForced := by rw [hleft.draws]; exact hforced
    have hopens := openSent_forced hframe' hcls hforced'
    have hmoves : Moves false (modDraw k (fun d => { d with openFrame := .sent }) u)
        (queueRemoval (openSent k a.cls u)) := by
      rw [hopens]
      exact moves_queueRemoval _
    have hdraw (j : Fin 4) : ∃ f, (modDraw k (fun d => { d with openFrame := .sent }) u).draws.get j
        = { u.draws.get j with openFrame := f } := by
      by_cases hj : j = k
      · subst hj
        exact ⟨_, Four.get_modify_same _ _ _⟩
      · exact ⟨_, Four.get_modify_other _ _ hj⟩
    have hown : (modDraw k (fun d => { d with openFrame := .sent }) u).draws.get k
        = { u.draws.get k with openFrame := .sent } := Four.get_modify_same _ _ _
    have hunits (c : DrawClass) : (modDraw k (fun d => { d with openFrame := .sent }) u).shareOf c = u.shareOf c := by
      have hsame : (fun j => ((modDraw k (fun d => { d with openFrame := .sent }) u).draws.get j).openUnits c)
          = fun j => (u.draws.get j).openUnits c := funext fun j => by
        obtain ⟨f, hf⟩ := hdraw j
        rw [hf]
        rfl
      rw [State.shareOf, hsame]
      rfl
    have hafter := hmoves.undisturbed (by
      rw [State.quiet, hown]
      exact ⟨hask', fun h => by cases hforced'.symm.trans h⟩)
    obtain ⟨p, hp⟩ := hafter.draw
    obtain ⟨n, hengines, hchannels⟩ := hleft.elapsed
    rw [hp, hown]
    refine ⟨hforced', rfl, hterms', hask', fun c => ?_, n, ?_, ?_⟩
    · rw [hmoves.shareOf (fun j => ?_) c, hunits, hshare]
      obtain ⟨f, hf⟩ := hdraw j
      rw [hf]
      exact hlawful' j
    · rw [hafter.engine, ← hengines]
      rfl
    · exact hafter.channels.trans hchannels

end Sys2Proof.Machine

/-! PROOFS. Entries to RUN, STAND and SAFE: which slots decide at an entry, and what a RESUME and a HALT do. -/

namespace Sys2Proof.Machine
open Sys2Proof

section
variable {s t : State} {k : Fin 4}

/-! ## The slots at an entry (R67) -/

/-- The intake window is a matter of the tracker, the settings and the place. -/
theorem State.inWindow_congr (htracker : t.tracker = s.tracker) (hsettings : t.settings = s.settings)
    (hp0 : t.unit.p0 = s.unit.p0) (k : Fin 4) : t.inWindow k = s.inWindow k := by
  have htravel : t.travel k = s.travel k := by
    simp only [State.travel, State.pocketOf, State.pocketCount, State.profileField_congr hsettings, htracker, hp0]
  rw [Bool.eq_iff_iff]
  simp only [inWindow_iff, State.discharge, State.intakeClose, State.profileField_congr hsettings, htravel]

theorem slotEntry_other {j : Fin 4} (s : State) (h : k ≠ j) : (slotEntry s j).slots.get k = s.slots.get k := by
  unfold slotEntry
  split
  · exact Four.get_modify_other _ _ h
  · rfl

theorem slotEntry_opens (hidle : (s.slots.get k).state = .idle) (hwindow : s.inWindow k = true) :
    (slotEntry s k).slots.get k = (s.slots.get k).reopen := by
  unfold slotEntry
  rw [if_pos ⟨hidle, hwindow⟩]
  exact Four.get_modify_same _ _ _

theorem slotEntry_stays (h : ¬((s.slots.get k).state = .idle ∧ s.inWindow k = true)) : slotEntry s k = s := if_neg h



/-- The entries of several slots write their slots alone. -/
theorem entries_eq (l : List (Fin 4)) (s : State) :
    l.foldl slotEntry s = { s with slots := (l.foldl slotEntry s).slots } := by
  have hslots (l : List (Fin 4)) : ∃ f, l.foldl slotEntry s = { s with slots := f } := by
    induction l using list_reverse_induction with
    | nil => exact ⟨_, rfl⟩
    | append_singleton l j ih =>
      obtain ⟨f, hf⟩ := ih
      rw [List.foldl_append, hf, List.foldl_cons, List.foldl_nil]
      unfold slotEntry
      split
      · exact ⟨_, rfl⟩
      · exact ⟨_, rfl⟩
  obtain ⟨f, hf⟩ := hslots l
  rw [hf]

/-- The slots once every head of the station has decided: an IDLE one in the intake window opens (R67). -/
theorem entries_slot (s : State) (k : Fin 4) :
    (s.hasHead k = true → (s.slots.get k).state = .idle → s.inWindow k = true →
      (s.heads.foldl slotEntry s).slots.get k = (s.slots.get k).reopen)
    ∧ (¬(s.hasHead k = true ∧ (s.slots.get k).state = .idle ∧ s.inWindow k = true) →
      (s.heads.foldl slotEntry s).slots.get k = s.slots.get k) := by
  have hothers {l : List (Fin 4)} (hk : k ∉ l) (x : State) :
      (l.foldl slotEntry x).slots.get k = x.slots.get k :=
    @foldl_others _ _ slotEntry (fun y => y.slots.get k) k (fun x j hj => slotEntry_other x (Ne.symm hj)) l hk x
  by_cases hk : s.hasHead k = true
  · obtain ⟨l₁, l₂, h₁, h₂, hsplit⟩ := foldl_split slotEntry (State.mem_heads.2 hk) s.nodup_heads s
    have hslot := hothers h₁ s
    have hwindow : (l₁.foldl slotEntry s).inWindow k = s.inWindow k := by
      rw [entries_eq]
      rfl
    rw [hsplit, hothers h₂]
    refine ⟨fun _ hidle hopens => ?_, fun hstays => ?_⟩
    · rw [slotEntry_opens (hslot ▸ hidle) (hwindow.trans hopens), hslot]
    · rw [slotEntry_stays fun h => hstays ⟨hk, hslot ▸ h.1, hwindow.symm.trans h.2⟩, hslot]
  · exact ⟨fun h => absurd h hk, fun _ => hothers (mt State.mem_heads.1 hk) s⟩

/-- The mode unit with its mode and its held mark written, where the mode written is the one it has. -/
theorem ModeUnit.with_held {u : ModeUnit} {m : Mode} {h h' : HeldMark} (hm : m = u.mode) (hh : h' = h) :
    { u with held := h } = { u with mode := m, held := h' } := by
  rw [hm, hh]

/-! ## The entry to RUN -/

theorem Channel.enterRun_eq (x : Channel) : x.enterRun = if x.state ≠ .tripped then x
    else if x.causes.overcurrent = true then { x with causes := ⟨true, false, false⟩ }
    else { x with state := .off, duty := 0, bridge := .off, causes := ⟨false, false, false⟩ } := by
  unfold Channel.enterRun
  by_cases hstate : x.state = .tripped
  · rw [if_pos hstate, if_neg (Classical.not_not.2 hstate)]
    cases hover : x.causes.overcurrent <;> simp [hover, Causes.isEmpty, Channel.stop]
  · rw [if_neg hstate, if_pos hstate]

/-- The state that the IDLE slots find at an entry to RUN (R129, R189). -/
def State.rearmed (s : State) : State := { s with
  unit := { s.unit with mode := .run }
  service := { s.service with forced := none }
  engines := s.unforcedEngines
  channels := s.unforcedChannels.map Channel.enterRun }

theorem enterRun_eq (s : State) :
    enterRun s = { s.rearmed with slots := (s.rearmed.heads.foldl slotEntry s.rearmed).slots } := by
  unfold enterRun
  rw [endForcedRun_eq]
  exact entries_eq _ _

end

/-- Settles O27: the entry to RUN is written out, and the slots decide one by one. -/
theorem resumeReturnsToRun : Obligations.ResumeReturnsToRun := by
  unfold Obligations.ResumeReturnsToRun
  intro s f rest hf
  refine ⟨fun hlen hclosed => ?_, fun hignored => ?_⟩
  · have hexec : exec .resume s = .next (resumeMode (s.withFrames rest)) := by
      refine (needing_next hf hlen).trans (congrArg _ ?_)
      exact if_neg (by rw [show (s.withFrames rest).pins = s.pins from rfl, hclosed]; decide)
    refine ⟨_, hexec, ?_⟩
    by_cases hreturns : s.unit.mode = .stand ∨ s.unit.mode = .safe
    · have heq : resumeMode (s.withFrames rest) = enterRun (s.withFrames rest) := by
        unfold resumeMode
        rcases hreturns with h | h <;> rw [show (s.withFrames rest).unit.mode = _ from h]
      rw [heq, enterRun_eq]
      refine ⟨?_, fun _ => ⟨rfl, rfl, fun k => ?_, fun k => ?_⟩, fun h => ?_, rfl, rfl, rfl, rfl, rfl, rfl⟩
      · rcases hreturns with h | h <;> rw [h] <;> rfl
      · exact (Four.get_map _ _ _).trans (Channel.enterRun_eq _)
      · intro opens
        obtain ⟨hopens, hstays⟩ := entries_slot (s.withFrames rest).rearmed k
        rw [inWindow_iff] at hopens hstays
        exact ⟨fun ⟨hk, hidle, hwindow⟩ => hopens hk hidle hwindow, hstays⟩
      · rcases hreturns with h' | h'
        · exact absurd h' h.1
        · exact absurd h' h.2
    · have hother := not_or.1 hreturns
      have heq : ∃ h, resumeMode (s.withFrames rest) = { s.withFrames rest with unit := { s.unit with held := h } }
          ∧ h = (match s.unit.mode with | .start | .learn | .announce => .clear | _ => s.unit.held) := by
        unfold resumeMode
        rw [State.withFrames_unit]
        cases hmode : s.unit.mode with
        | start | learn | announce => exact ⟨_, rfl, rfl⟩
        | run | fault => exact ⟨_, rfl, rfl⟩
        | stand => exact absurd hmode hother.1
        | safe => exact absurd hmode hother.2
      obtain ⟨held, heq, hheld⟩ := heq
      rw [heq]
      refine ⟨ModeUnit.with_held ?_ hheld.symm, fun h => absurd h hreturns, fun _ => ⟨rfl, rfl, rfl, rfl⟩, rfl, rfl, rfl,
        rfl, rfl, rfl⟩
      cases hmode : s.unit.mode with
      | start | learn | announce | run | fault => rfl
      | stand => exact absurd hmode hother.1
      | safe => exact absurd hmode hother.2
  · refine (deliver_next hf).trans (congrArg _ ?_)
    rcases hignored with hlen | hopen
    · exact if_neg hlen
    · have hstays : takeResume f (s.withFrames rest) = s.withFrames rest := if_pos hopen
      unfold needing
      rw [hstays, ite_self]

end Sys2Proof.Machine

/-! PROOFS. Halts: the trips of an entry to SAFE and of an opening of GUARD reach every channel, a HALT moves the mode, and
the slots decide at the entry (R30, R31, R33, R67, R105, R125, R126). -/

namespace Sys2Proof.Machine
open Sys2Proof

/-! ## The order of the heads -/

theorem mem_headOrder (s : State) (acts : Fin 4 → Bool) (k : Fin 4) : k ∈ s.headOrder acts := by
  unfold State.headOrder
  rw [List.mem_append, (freely_perm s _).mem_iff, List.mem_filter, List.mem_filter]
  cases acts k <;> simp [mem_headIndexes]

theorem nodup_headOrder (s : State) (acts : Fin 4 → Bool) : (s.headOrder acts).Nodup := by
  have hindexes : headIndexes.Nodup := by decide
  unfold State.headOrder
  refine List.nodup_append.2 ⟨(freely_perm s _).nodup_iff.2 (List.Pairwise.filter _ hindexes),
    List.Pairwise.filter _ hindexes, fun k hk j hk' hkj => ?_⟩
  subst hkj
  rw [(freely_perm s _).mem_iff, List.mem_filter] at hk
  rw [List.mem_filter] at hk'
  simp [hk.2] at hk'

/-- A fold whose step at a head rewrites that head's part of a block, once each, rewrites every part. -/
theorem foldl_modifies {α : Type} {f : State → Fin 4 → State} {p : State → Four α} {g : α → α}
    (hf : ∀ s j, p (f s j) = (p s).modify j g) {l : List (Fin 4)} {k : Fin 4} (hk : k ∈ l) (hl : l.Nodup) (s : State) :
    (p (l.foldl f s)).get k = g ((p s).get k) := by
  have hothers {l : List (Fin 4)} (hk : k ∉ l) (x : State) : (p (l.foldl f x)).get k = (p x).get k :=
    @foldl_others _ _ f (fun y => (p y).get k) k
      (fun x j hj => by rw [hf]; exact Four.get_modify_other _ _ (Ne.symm hj)) l hk x
  obtain ⟨l₁, l₂, h₁, h₂, hsplit⟩ := foldl_split f hk hl s
  rw [hsplit, hothers h₂, hf, Four.get_modify_same, hothers h₁]

section
variable {s t : State} {j k : Fin 4} {cause : TripCause}

/-! ## A GUARD or SAFE trip -/

/-- A channel after a GUARD or SAFE trip (R125 to R127). -/
def Channel.halted (cause : TripCause) (x : Channel) : Channel :=
  if x.phaseRuns then x.trip cause else x.tripOrAdd cause

theorem Channel.halted_state (cause : TripCause) (x : Channel) : (x.halted cause).state = .tripped := by
  unfold Channel.halted Channel.tripOrAdd
  split
  · rfl
  · split
    · next h => exact h
    · rfl

theorem Channel.halted_causes (cause : TripCause) (x : Channel) : (x.halted cause).causes = x.causes.add cause := by
  unfold Channel.halted Channel.tripOrAdd
  split
  · rfl
  · split <;> rfl

theorem Channel.halted_rests {x : Channel} (h : x.lawful = true) : (x.halted cause).rests := by
  unfold Channel.halted
  split
  · obtain ⟨-, -, -, hcount⟩ := (Channel.lawful_iff x).1 h
    exact Channel.rests_trip cause hcount
  · next hruns => exact Channel.rests_tripOrAdd cause h (Bool.eq_false_iff.2 hruns)

theorem tripHalt_channels (cause : TripCause) (s : State) (k : Fin 4) :
    (tripHalt cause s k).channels = s.channels.modify k (Channel.halted cause) := by
  have hself (g : Channel → Channel) (hg : (s.channels.get k).halted cause = g (s.channels.get k)) :
      s.channels.modify k g = s.channels.modify k (Channel.halted cause) := Four.modify_congr _ _ hg.symm
  unfold tripHalt
  split
  · next hruns =>
    obtain ⟨hchannels, -⟩ := endPhase_channel k .aborted false (Channel.trip cause) (clearForcedDrive k s)
    rw [hchannels, clearForcedDrive_channels]
    exact hself _ (if_pos hruns)
  · next hruns =>
    rw [modChannel_channels, clearForcedDrive_channels]
    exact hself _ (if_neg hruns)

theorem tripHalt_service (cause : TripCause) (s : State) (k : Fin 4) :
    (tripHalt cause s k).service = (clearForcedDrive k s).service := by
  unfold tripHalt
  split
  · obtain ⟨-, hservice⟩ := endPhase_channel k .aborted false (Channel.trip cause) (clearForcedDrive k s)
    exact hservice
  · rfl

/-- A trip without a torque phase writes the channel alone: the record of a slot that is not BOUND is not written. -/
theorem tripHalt_idle (cause : TripCause) (hphase : (s.engines.get k).phase ≠ .torque)
    (hslot : (s.slots.get k).state ≠ .bound) :
    (tripHalt cause s k).engines = s.engines ∧ (tripHalt cause s k).slots.get k = s.slots.get k := by
  unfold tripHalt
  split
  · have hother : ((modChannel k (Channel.trip cause) (writeRecord k (Record.torqueDone .aborted
        (((clearForcedDrive k s).channels.get k).tauFinal .aborted)
        (((clearForcedDrive k s).channels.get k).peak.getD 0)) (clearForcedDrive k s))).engines.get k).phase ≠ .torque := by
      rw [modChannel_engines, writeRecord_engines, clearForcedDrive_engines]
      exact hphase
    rw [endPhase, torqueEnded_other false hother]
    refine ⟨by rw [modChannel_engines, writeRecord_engines, clearForcedDrive_engines], ?_⟩
    rw [modChannel_slots]
    exact (Four.get_modify_same _ _ _).trans (by rw [clearForcedDrive_slots]; exact if_neg hslot)
  · exact ⟨by rw [modChannel_engines, clearForcedDrive_engines], by rw [modChannel_slots, clearForcedDrive_slots]⟩

/-! ## A head at an entry to SAFE -/

theorem endAsk_blocks (k : Fin 4) (s : State) : (endAsk k s).channels = s.channels ∧ (endAsk k s).service = s.service := by
  unfold endAsk
  split
  · next a _ _ =>
    split
    · have hmoves : Moves true (modDraw k (OwnDraw.ended none) (removeDrawOpen k s)) _ :=
        (moves_queueRemoval _).trans (moves_arbiter a.cls _)
      exact ⟨hmoves.backdrop.channels, hmoves.backdrop.service⟩
    · have hback := ((Closes.ended k s).offered a.cls).background (@moves_arbiter true a.cls _)
      exact ⟨hback.channels, hback.service⟩
  · exact ⟨rfl, rfl⟩

theorem safeEngine_blocks (k : Fin 4) (s : State) :
    (safeEngine k s).channels = s.channels ∧ (safeEngine k s).service = s.service := by
  have hends (f : Record → Record) (x : State) (hchannels : x.channels = s.channels) (hservice : x.service = s.service) :
      (toDwell k (writeRecord k f (endAsk k x))).channels = s.channels
      ∧ (toDwell k (writeRecord k f (endAsk k x))).service = s.service := by
    obtain ⟨hc, hs⟩ := endAsk_blocks k x
    rw [toDwell_channels, toDwell_service]
    exact ⟨hc.trans hchannels, hs.trans hservice⟩
  unfold safeEngine
  dsimp only
  split
  · exact ⟨rfl, rfl⟩
  · exact ⟨rfl, rfl⟩
  · rw [toDwell_channels, toDwell_service]; exact ⟨rfl, rfl⟩
  · rw [toDwell_channels, toDwell_service]; exact ⟨rfl, rfl⟩
  · exact hends _ _ rfl rfl
  · exact hends _ _ rfl rfl
  · rw [toDwell_channels, toDwell_service]
    obtain ⟨hback, -⟩ := closeDraw_keeps k (writeRecord k (fun r => { r with flushEnd := .aborted })
      (addReason k .halted (modEngine k (fun x => { x with steam := false, asking := false }) s)))
    exact ⟨hback.channels, hback.service⟩
  · exact hends _ _ rfl rfl
  · exact hends _ _ rfl rfl
  · exact ⟨rfl, rfl⟩
  · exact ⟨rfl, rfl⟩

theorem safeEngine_idle (h : (s.engines.get k).inClosure = false) : safeEngine k s = s := by
  unfold safeEngine
  rcases Engine.rests_of_not_inClosure h with hp | hp <;> rw [hp]

theorem safeHead_channels (s : State) (k : Fin 4) :
    (safeHead s k).channels = s.channels.modify k (Channel.halted .safe) := by
  rw [safeHead, tripHalt_channels, (safeEngine_blocks k s).1]

theorem safeHead_unforced (h : s.service.forced = none) (k : Fin 4) : (safeHead s k).service = s.service := by
  rw [safeHead, tripHalt_service]
  have hforces : (safeEngine k s).forces k .drive = false := by
    simp only [State.forces, (safeEngine_blocks k s).2, h]
  rw [clearForcedDrive_unforced hforces, (safeEngine_blocks k s).2]

/-- A head outside a closure, with no jar in its slot, has nothing but its channel tripped. -/
theorem safeHead_idle (h : (s.engines.get k).inClosure = false) (hslot : (s.slots.get k).state ≠ .bound) :
    (safeHead s k).engines = s.engines ∧ (safeHead s k).slots.get k = s.slots.get k := by
  rw [safeHead, safeEngine_idle h]
  refine tripHalt_idle .safe (fun hp => ?_) hslot
  simp [Engine.inClosure, hp] at h

/-! ## The entry to SAFE -/

/-- The state in which the heads take the entry to SAFE: the mode set, the IDLE slots decided. -/
def State.entersSafe (s : State) : State :=
  { s with
    unit := { s.unit with mode := .safe }
    slots := (s.heads.foldl slotEntry (setMode .safe s)).slots
    free := s.free + 1 }

/-- The order in which the heads take the entry. -/
def State.safeOrder (s : State) : List (Fin 4) :=
  ({ s.entersSafe with free := s.free } : State).headOrder (fun k => (s.engines.get k).inClosure)

theorem enterSafe_eq (s : State) : enterSafe s = s.safeOrder.foldl safeHead s.entersSafe := by
  unfold enterSafe
  dsimp only
  rw [entries_eq]
  rfl

theorem mem_safeOrder (s : State) (k : Fin 4) : k ∈ s.safeOrder := mem_headOrder _ _ k

theorem nodup_safeOrder (s : State) : s.safeOrder.Nodup := nodup_headOrder _ _

theorem enterSafe_channel (s : State) (k : Fin 4) :
    (enterSafe s).channels.get k = (s.channels.get k).halted .safe := by
  rw [enterSafe_eq]
  exact foldl_modifies safeHead_channels (mem_safeOrder s k) (nodup_safeOrder s) s.entersSafe

theorem enterSafe_unforced (h : s.service.forced = none) : (enterSafe s).service = s.service := by
  have hfold (l : List (Fin 4)) (x : State) (hx : x.service = s.service) : (l.foldl safeHead x).service = s.service := by
    induction l generalizing x with
    | nil => exact hx
    | cons j l ih => exact ih _ ((safeHead_unforced (by rw [hx]; exact h) j).trans hx)
  rw [enterSafe_eq]
  exact hfold _ _ rfl

/-- Acts on another head leave a record whose verdict does not wait. -/
theorem Act.recorded (h : Act j s t) (hjk : k ≠ j) (hd : (s.slots.get k).record.delivery ≠ .waiting) :
    t.slots.get k = s.slots.get k := by
  cases h with
  | background h => exact h.backdrop.recorded k hd
  | own h => exact h.slots k hjk
  | announce | cancel => rfl

theorem Acts.recorded (h : Acts j s t) (hjk : k ≠ j) (hd : (s.slots.get k).record.delivery ≠ .waiting) :
    t.slots.get k = s.slots.get k := by
  induction h with
  | refl => rfl
  | tail _ hact ih => rw [hact.recorded hjk (by rw [ih]; exact hd), ih]

/-- Through the entry to SAFE a head outside a closure, with no jar in its slot, keeps its slot: the same jar, and the
very record where no verdict waits. -/
theorem safeHeads_idle (l : List (Fin 4)) (h : (s.engines.get k).inClosure = false)
    (hslot : (s.slots.get k).state ≠ .bound) :
    (s.slots.get k).sameJar ((l.foldl safeHead s).slots.get k)
    ∧ ((s.slots.get k).record.delivery ≠ .waiting → (l.foldl safeHead s).slots.get k = s.slots.get k) := by
  induction l generalizing s with
  | nil => exact ⟨.refl _, fun _ => rfl⟩
  | cons j l ih =>
    rw [List.foldl_cons]
    by_cases hjk : k = j
    · subst hjk
      obtain ⟨hengines, hsame⟩ := safeHead_idle h hslot
      have hnext := @ih (safeHead s k) (by rw [hengines]; exact h) (by rw [hsame]; exact hslot)
      rwa [hsame] at hnext
    · have hacts := (@Acts.refl j s).safeHead
      have hby := hacts.bystander hjk
      have hnext := @ih (safeHead s j) (hby.engine.closure.trans h) (by rw [hby.jar.state]; exact hslot)
      refine ⟨hby.jar.trans hnext.1, fun hd => ?_⟩
      have hsame := hacts.recorded hjk hd
      rw [hnext.2 (by rw [hsame]; exact hd), hsame]

theorem enterSafe_slot (hclosure : (s.engines.get k).inClosure = false) (hidle : (s.slots.get k).state = .idle)
    (hk : s.hasHead k = true) :
    (s.inWindow k = true → (enterSafe s).slots.get k = (s.slots.get k).reopen)
    ∧ (s.inWindow k = false → (s.slots.get k).sameJar ((enterSafe s).slots.get k)) := by
  obtain ⟨hopens, hstays⟩ := entries_slot (setMode .safe s) k
  rw [enterSafe_eq]
  refine ⟨fun hwindow => ?_, fun hwindow => ?_⟩
  · have hslot : s.entersSafe.slots.get k = (s.slots.get k).reopen := hopens hk hidle hwindow
    rw [(@safeHeads_idle s.entersSafe k _ hclosure (by rw [hslot]; exact nofun)).2 (by rw [hslot]; exact nofun), hslot]
  · have hslot : s.entersSafe.slots.get k = s.slots.get k :=
      hstays fun h => Bool.false_ne_true (hwindow.symm.trans h.2.2)
    have hjar := (@safeHeads_idle s.entersSafe k s.safeOrder hclosure (by rw [hslot, hidle]; exact nofun)).1
    rwa [hslot] at hjar

/-! ## The door (R33, R125, R189) -/

/-- A trip ends the forced run of its own motor, and no other. -/
theorem tripHalt_forced {r : ForcedRun} (h : (tripHalt cause s k).service.forced = some r) :
    s.service.forced = some r ∧ (r.head = k → r.output ≠ .drive) := by
  rw [tripHalt_service] at h
  unfold clearForcedDrive at h
  split at h
  · cases h
  · next hdrive =>
    exact ⟨h, fun hhead hout => hdrive ((State.forces_iff s k .drive).2 ⟨r, h, hhead, hout⟩)⟩

theorem tripHalts_forced {r : ForcedRun} (l : List (Fin 4)) (h : (l.foldl (tripHalt cause) s).service.forced = some r) :
    s.service.forced = some r ∧ (r.head ∈ l → r.output ≠ .drive) := by
  induction l generalizing s with
  | nil => exact ⟨h, nofun⟩
  | cons j l ih =>
    obtain ⟨hnext, hlater⟩ := ih h
    obtain ⟨hfirst, hnow⟩ := tripHalt_forced hnext
    refine ⟨hfirst, fun hmem => ?_⟩
    rcases List.mem_cons.1 hmem with hj | hl
    · exact hnow hj
    · exact hlater hl

theorem guardTrips_channel (s : State) (k : Fin 4) :
    (guardTrips s).channels.get k = (s.channels.get k).halted .guard :=
  foldl_modifies (tripHalt_channels .guard) (mem_headOrder _ _ k) (nodup_headOrder _ _) (consulted s)

/-- The opening ends a forced run of any output: the valve or the press at once, the motor with its channel's trip. -/
theorem guardTrips_unforced (s : State) : (guardTrips (endForcedByGuard s)).service.forced = none := by
  have hdrive {r : ForcedRun} (h : (endForcedByGuard s).service.forced = some r) : r.output = .drive := by
    unfold endForcedByGuard at h
    cases hforced : s.service.forced with
    | none => simp [hforced] at h
    | some q =>
      cases houtput : q.output with
      | steam | press => simp [hforced, houtput, endForcedRun_service] at h
      | drive =>
        simp only [hforced, houtput, Option.some.injEq] at h
        exact h ▸ houtput
  rw [Option.eq_none_iff_forall_ne_some]
  intro r h
  obtain ⟨hr, hout⟩ := tripHalts_forced _ h
  exact hout (mem_headOrder _ _ _) (hdrive hr)

theorem offerHalt_eq (severity cause : Nat) (s : State) :
    ∃ x, offerHalt severity cause s = { s with transmit := { s.transmit with slot := x } }
      ∧ (s.transmit.silenced = false → (∀ q, s.transmit.slot = some q → q.severity ≤ (byte severity).toNat) →
        x = some ⟨s.unit.node, .halt, [byte severity, byte cause]⟩) := by
  unfold offerHalt
  split
  · next hs => exact ⟨_, rfl, fun h => absurd hs (Bool.eq_false_iff.1 h)⟩
  · refine ⟨_, rfl, fun _ hweaker => ?_⟩
    cases hslot : s.transmit.slot with
    | none => rfl
    | some q => exact if_pos (hweaker q hslot)

/-- What an opening leaves on the channels and the service unit. -/
structure Guarded (t : State) : Prop where
  channels : ∀ k, (t.channels.get k).state = .tripped ∧ (t.channels.get k).causes.guard = true
  unforced : t.service.forced = none

theorem guarded_openGuard (s : State) : Guarded (guardTrips (endForcedByGuard (setGuard true s))) :=
  ⟨fun k => by rw [guardTrips_channel, Channel.halted_causes]; exact ⟨Channel.halted_state _ _, rfl⟩,
    guardTrips_unforced _⟩

theorem Guarded.enterSafe (h : Guarded s) : Guarded (enterSafe s) :=
  ⟨fun k => by
      rw [enterSafe_channel, Channel.halted_causes]
      exact ⟨Channel.halted_state _ _, (h.channels k).2⟩,
    by rw [enterSafe_unforced h.unforced]; exact h.unforced⟩

theorem State.still_slot (h : t.still = s.still) :
    t.transmit.slot = s.transmit.slot ∧ t.transmit.silenced = s.transmit.silenced := by
  simp only [State.still, Still.mk.injEq] at h
  obtain ⟨-, -, -, -, -, -, -, -, -, -, hslot, -, -, -, -, hsilenced⟩ := h
  exact ⟨hslot, hsilenced⟩

/-- What the mode unit does at an opening (R30, R33): its mark and its mode, and the HALT in the slot. -/
theorem guardMode_still (s : State) :
    ∃ x, (guardMode s).still = ({ s with
        unit := { s.unit with
          mode := match s.unit.mode with | .run | .stand => .safe | m => m
          held := match s.unit.mode with | .start | .learn | .announce => .trip | _ => s.unit.held }
        transmit := { s.transmit with slot := x } } : State).still
      ∧ ((s.unit.mode = .announce ∨ s.unit.mode.running = true) → s.transmit.silenced = false →
        (∀ q, s.transmit.slot = some q → q.severity ≤ 2) → x = some ⟨s.unit.node, .halt, [2, 16]⟩)
      ∧ (s.unit.mode = .start ∨ s.unit.mode = .learn ∨ s.unit.mode = .fault → x = s.transmit.slot) := by
  have hunit (x : Option Frame) {m : Mode} {h h' : HeldMark} (hm : m = s.unit.mode) (hh : h' = h) :
      ({ s with unit := { s.unit with held := h }, transmit := { s.transmit with slot := x } } : State).still
      = ({ s with unit := { s.unit with mode := m, held := h' }, transmit := { s.transmit with slot := x } } : State).still := by
    rw [ModeUnit.with_held hm hh]
  unfold guardMode
  cases hmode : s.unit.mode with
  | start | learn => exact ⟨s.transmit.slot, hunit _ hmode.symm rfl, nofun, fun _ => rfl⟩
  | fault => exact ⟨s.transmit.slot, @hunit s.transmit.slot _ s.unit.held _ hmode.symm rfl, nofun, fun _ => rfl⟩
  | announce =>
    obtain ⟨x, heq, hx⟩ := offerHalt_eq haltTrip guardCause (setHeld .trip s)
    exact ⟨x, (congrArg State.still heq).trans (hunit x hmode.symm rfl), fun _ => hx, nofun⟩
  | safe =>
    obtain ⟨x, heq, hx⟩ := offerHalt_eq haltTrip guardCause s
    exact ⟨x, (congrArg State.still heq).trans (@hunit x _ s.unit.held _ hmode.symm rfl), fun _ => hx, nofun⟩
  | run | stand =>
    obtain ⟨x, heq, hx⟩ := offerHalt_eq haltTrip guardCause s
    exact ⟨x, (still_enterSafe _).trans (congrArg (fun y => (setMode .safe y).still) heq), fun _ => hx, nofun⟩

theorem Guarded.guardMode (h : Guarded s) : Guarded (guardMode s) := by
  have hoffer {x : State} (hx : Guarded x) : Guarded (offerGuardHalt x) := by
    obtain ⟨_, heq, -⟩ := offerHalt_eq haltTrip guardCause x
    rw [offerGuardHalt, heq]
    exact ⟨hx.channels, hx.unforced⟩
  unfold Machine.guardMode
  cases s.unit.mode with
  | start | learn => exact ⟨h.channels, h.unforced⟩
  | announce => exact hoffer ⟨h.channels, h.unforced⟩
  | run | stand => exact (hoffer h).enterSafe
  | safe => exact hoffer h
  | fault => exact h

end

/-- Settles O28: the trips of the opening reach every channel, and the mode unit acts on the tripped station. -/
theorem guardOpeningHaltsTheStation : Obligations.GuardOpeningHaltsTheStation := by
  unfold Obligations.GuardOpeningHaltsTheStation
  intro s hreset
  have hrow (f : State → State) : unlessReset f s = f s := if_neg (by rw [hreset]; decide)
  refine ⟨fun hclosed => ?_, fun hopen => ?_, congrArg Host.Outcome.next (hrow _)⟩
  · have hexec : exec .guardOpens s = .next (openGuard s) := by
      refine congrArg Host.Outcome.next ((hrow _).trans (if_pos ?_))
      show (!s.pins.guardOpen) = true
      rw [hclosed]
      rfl
    have htripped : (guardTrips (endForcedByGuard (setGuard true s))).still = (setGuard true s).still := by simp
    obtain ⟨-, hunit, -⟩ := State.still_fields htripped
    obtain ⟨hslot, hsilenced⟩ := State.still_slot htripped
    obtain ⟨x, hstill, hoffered, hkept⟩ := guardMode_still (guardTrips (endForcedByGuard (setGuard true s)))
    obtain ⟨htracker', hunit', hreceive', hview', -, hpins', -⟩ := State.still_fields hstill
    obtain ⟨htracker, -, hreceive, hview, -, hpins, -⟩ := State.still_fields htripped
    rw [hunit, hsilenced, hslot] at hoffered
    rw [hunit, hslot] at hkept
    have hground := State.ground_of_still htripped
    have hground' := State.ground_of_still hstill
    have hx := (State.still_slot hstill).1
    refine ⟨_, hexec, hunit'.trans ?_, (guarded_openGuard s).guardMode.channels, (guarded_openGuard s).guardMode.unforced,
      hpins'.trans hpins, fun hmode hs hq => hx.trans (hoffered hmode hs hq), fun hmode => hx.trans (hkept hmode),
      hground'.trans hground, hreceive'.trans hreceive,
      htracker'.trans htracker, hview'.trans hview⟩
    rw [hunit]
    rfl
  · refine congrArg Host.Outcome.next ((hrow _).trans (if_neg ?_))
    show ¬(!s.pins.guardOpen) = true
    rw [hopen]
    decide

end Sys2Proof.Machine

/-! PROOFS. A delivered HALT: the held mark, the mode, and the slots at the entry to STAND or SAFE (R30, R31, R67, R189). -/

namespace Sys2Proof.Machine
open Sys2Proof

section
variable {s t : State} {k : Fin 4}

theorem enterStand_eq (s : State) : enterStand s = { s with
    unit := { s.unit with mode := .stand }, slots := (s.heads.foldl slotEntry (setMode .stand s)).slots } :=
  entries_eq _ _

theorem enterStand_slot (hk : s.hasHead k = true) :
    ((s.slots.get k).state = .idle → s.inWindow k = true → (enterStand s).slots.get k = (s.slots.get k).reopen)
    ∧ (((s.slots.get k).state ≠ .idle ∨ s.inWindow k = false) → (enterStand s).slots.get k = s.slots.get k) := by
  obtain ⟨hopens, hstays⟩ := entries_slot (setMode .stand s) k
  refine ⟨hopens hk, fun h => hstays fun ⟨_, hidle, hwindow⟩ => ?_⟩
  rcases h with h | h
  · exact h hidle
  · exact Bool.false_ne_true (h.symm.trans hwindow)

/-- The mode unit after a HALT: its mark before the running modes, and its mode in RUN and STAND (R30, R31). -/
def ModeUnit.halted (trip : Bool) (u : ModeUnit) : ModeUnit := { u with
  mode := match u.mode with
    | .run => if trip then .safe else .stand
    | .stand => if trip then .safe else .stand
    | m => m
  held := match u.mode with
    | .start | .learn | .announce => if trip then .trip else if u.held = .clear then .stop else u.held
    | _ => u.held }

theorem haltMode_still (trip : Bool) (s : State) :
    (haltMode trip s).still = ({ s with unit := s.unit.halted trip } : State).still := by
  have hunit {m : Mode} {h h' : HeldMark} (hm : m = s.unit.mode) (hh : h' = h) :
      ({ s with unit := { s.unit with held := h } } : State).still
      = ({ s with unit := { s.unit with mode := m, held := h' } } : State).still := by
    rw [ModeUnit.with_held hm hh]
  unfold haltMode ModeUnit.halted
  cases hmode : s.unit.mode with
  | start | learn | announce => exact hunit hmode.symm rfl
  | safe | fault => exact @hunit _ s.unit.held _ hmode.symm rfl
  | run =>
    cases trip with
    | false => exact still_enterStand s
    | true => exact still_enterSafe s
  | stand =>
    cases trip with
    | false => exact @hunit _ s.unit.held _ hmode.symm rfl
    | true => exact still_enterSafe s

theorem haltMode_trips (hmode : s.unit.mode = .run ∨ s.unit.mode = .stand) : haltMode true s = enterSafe s := by
  unfold haltMode
  rcases hmode with h | h <;> rw [h] <;> rfl

theorem haltMode_stops (hmode : s.unit.mode = .run) : haltMode false s = enterStand s := by
  unfold haltMode
  rw [hmode]
  rfl

/-- Without an entry a HALT touches the mode unit alone. -/
theorem haltMode_stays {trip : Bool} (hrun : s.unit.mode ≠ .run) (hstand : s.unit.mode ≠ .stand ∨ trip = false) :
    (haltMode trip s).slots = s.slots ∧ (haltMode trip s).engines = s.engines
    ∧ (haltMode trip s).channels = s.channels ∧ (haltMode trip s).service = s.service := by
  unfold haltMode
  cases hmode : s.unit.mode with
  | start | learn | announce | safe | fault => exact ⟨rfl, rfl, rfl, rfl⟩
  | run => exact absurd hmode hrun
  | stand =>
    rcases hstand with h | h
    · exact absurd hmode h
    · subst h
      exact ⟨rfl, rfl, rfl, rfl⟩

theorem unforcedEngines_inClosure (s : State) (k : Fin 4) :
    (s.unforcedEngines.get k).inClosure = (s.engines.get k).inClosure := by
  unfold State.unforcedEngines
  cases s.service.forced with
  | none => rfl
  | some r =>
    dsimp only
    rw [Four.get_modify]
    split
    · cases r.output <;> rfl
    · rfl

/-- The state that the mode unit finds at a HALT: a TRIP has ended the forced run (R189). -/
def State.metByHalt (s : State) (trip : Bool) : State := if trip then endForcedRun s else s

theorem takeHalt_eq {f : Frame} {trip : Bool} (hkind : f.kind = .halt) (hlen : f.payload.length = 2)
    (hseverity : u8 f.payload 0 = if trip then 2 else 1) (s : State) :
    takeHalt f s = haltMode trip (s.metByHalt trip) := by
  have hsev : f.severity = if trip then 2 else 1 := hseverity
  unfold takeHalt Frame.isGoodHalt State.metByHalt
  rw [hsev]
  cases trip <;> simp [hkind, hlen, haltTrip]

theorem takeHalt_bad {f : Frame} (h : f.payload.length ≠ 2 ∨ (u8 f.payload 0 ≠ 1 ∧ u8 f.payload 0 ≠ 2)) (s : State) :
    takeHalt f s = s := by
  refine if_neg fun hgood => ?_
  simp only [Frame.isGoodHalt, Bool.and_eq_true, Bool.or_eq_true, decide_eq_true_eq] at hgood
  obtain ⟨⟨-, hlen⟩, hsev⟩ := hgood
  rcases h with h | ⟨h1, h2⟩
  · exact h hlen
  · exact hsev.elim h1 h2

theorem metByHalt_fields (trip : Bool) (s : State) : (s.metByHalt trip).still = s.still
    ∧ (s.metByHalt trip).slots = s.slots ∧ (trip = true → (s.metByHalt trip).service.forced = none)
    ∧ (∀ k, ((s.metByHalt trip).engines.get k).inClosure = (s.engines.get k).inClosure) := by
  cases trip with
  | false => exact ⟨rfl, rfl, nofun, fun _ => rfl⟩
  | true =>
    rw [show s.metByHalt true = endForcedRun s from rfl, endForcedRun_eq]
    exact ⟨rfl, rfl, fun _ => rfl, unforcedEngines_inClosure s⟩

theorem haltMode_unforced (h : s.service.forced = none) : (haltMode true s).service.forced = none := by
  by_cases hmode : s.unit.mode = .run ∨ s.unit.mode = .stand
  · rw [haltMode_trips hmode, enterSafe_unforced h]
    exact h
  · have hother := not_or.1 hmode
    obtain ⟨-, -, -, hservice⟩ := @haltMode_stays s true hother.1 (.inl hother.2)
    rw [hservice]
    exact h

end

/-- Settles O25: the forced run ends first, then the mode unit acts by its mode, and the slots decide at its entry. -/
theorem haltChangesTheMode : Obligations.HaltChangesTheMode := by
  unfold Obligations.HaltChangesTheMode
  intro s f rest hf
  have ⟨_, _, hkind⟩ := hf
  refine ⟨fun trip hlen hseverity => ?_, fun hbad => ?_⟩
  · let x := (s.withFrames rest).metByHalt trip
    have hexec : exec .halt s = .next (haltMode trip x) :=
      (deliver_next hf).trans (congrArg _ (takeHalt_eq hkind hlen hseverity _))
    obtain ⟨hmet, hslots, hforced, hclosure⟩ := metByHalt_fields trip (s.withFrames rest)
    have hstill := haltMode_still trip x
    obtain ⟨htracker, hunit, hreceive, hview, hsettings, -⟩ := State.still_fields hmet
    obtain ⟨htracker', hunit', hreceive', hview', -⟩ := State.still_fields hstill
    have hground := State.ground_of_still hmet
    have hground' := State.ground_of_still hstill
    have hslot := (State.still_slot hmet).1
    have hslot' := (State.still_slot hstill).1
    have hmode : x.unit.mode = s.unit.mode := by rw [hunit, State.withFrames_unit]
    have hwindow (k : Fin 4) : x.inWindow k = s.inWindow k :=
      State.inWindow_congr htracker hsettings (by rw [hunit]) k
    have hhead (k : Fin 4) : x.hasHead k = s.hasHead k :=
      State.hasHead_congr (State.profileField_congr hsettings _) k
    have hopens (k : Fin 4) : x.inWindow k = true ↔ s.discharge ≤ s.travel k ∨ s.travel k < s.intakeClose := by
      rw [hwindow]
      exact inWindow_iff s k
    refine ⟨_, hexec, hunit'.trans (congrArg (ModeUnit.halted trip) hunit), fun ht => ?_, hslot'.trans hslot, fun ht hm => ?_, ⟨fun hm ht k hk => ?_,
      fun hm ht k hk hidle hrest => ?_, fun hm => ?_⟩, hreceive'.trans hreceive, hground'.trans hground,
      htracker'.trans htracker, hview'.trans hview⟩

    · subst ht
      exact haltMode_unforced (hforced rfl)
    · subst ht
      obtain ⟨-, hengines, hchannels, -⟩ := @haltMode_stays x true (by rw [hmode, hm]; nofun) (.inl (by rw [hmode, hm]; nofun))
      rw [hengines, hchannels, show x = endForcedRun (s.withFrames rest) from rfl, endForcedRun_eq]
      exact ⟨rfl, rfl⟩
    · subst ht
      rw [haltMode_stops (hmode.trans hm)]
      obtain ⟨hopen, hstay⟩ := @enterStand_slot x k ((hhead k).trans hk)
      refine ⟨fun hidle hin => hopen hidle ((hopens k).2 hin), fun h => hstay (h.imp id fun hout => ?_)⟩
      exact Bool.eq_false_iff.2 (mt (hopens k).1 hout)
    · subst ht
      rw [haltMode_trips (by rw [hmode]; exact hm)]
      have hslotk : x.slots.get k = s.slots.get k := by rw [show x.slots = s.slots from hslots]
      obtain ⟨hopen, hstay⟩ := @enterSafe_slot x k ((hclosure k).trans hrest) (by rw [hslotk]; exact hidle)
        ((hhead k).trans hk)
      rw [hslotk] at hopen hstay
      refine ⟨fun hin => hopen ((hopens k).2 hin), fun hout => ?_⟩
      have hjar := hstay (Bool.eq_false_iff.2 (mt (hopens k).1 hout))
      exact ⟨hjar.state.trans hidle, hjar.pocket⟩
    · obtain ⟨hsame, -⟩ := @haltMode_stays x trip (by rw [hmode]; exact hm.1) (by rw [hmode]; exact hm.2)
      exact hsame.trans hslots
  · exact (deliver_next hf).trans (congrArg _ (takeHalt_bad hbad _))

end Sys2Proof.Machine

/-! PROOFS. The entry to SAFE: each closure ends by the state of its head, and its head stays as the entry left it (R105,
R126, R154). -/

namespace Sys2Proof.Machine
open Sys2Proof

/-! ## What other heads' acts leave of a head -/

/-- A head's phase but for the grant of its ask. -/
def Phase.ungranted : Phase → Phase
  | .steamAnnounced => .steamWait
  | .driveAnnounced => .driveWait
  | p => p

theorem Engine.granted_ungranted (x : Engine) : x.granted.phase.ungranted = x.phase.ungranted := by
  unfold Engine.granted
  cases hp : x.phase <;> simp [hp, Phase.ungranted]

theorem Engine.withdrawn_ungranted (asking : Bool) (x : Engine) :
    (x.withdrawn asking).phase.ungranted = x.phase.ungranted := by
  unfold Engine.withdrawn
  cases hp : x.phase <;> simp [hp, Phase.ungranted]

section
variable {s t u : State} {j k : Fin 4}

theorem Move.ungranted {w : Bool} (h : Move w s t) (k : Fin 4) :
    (t.engines.get k).phase.ungranted = (s.engines.get k).phase.ungranted := by
  cases h with
  | grant j _ _ _ _ _ =>
    by_cases hkj : k = j
    · subst hkj
      simp [Engine.granted_ungranted]
    · simp [Four.get_modify_other _ _ hkj]
  | withdraw j _ _ _ =>
    by_cases hkj : k = j
    · subst hkj
      simp [withdrawDraw, Engine.withdrawn_ungranted]
    · simp [withdrawDraw, Four.get_modify_other _ _ hkj]
  | consult | refuse | position | reannounce | offer | queued | waiting | closed => rfl

theorem Acts.ungranted (h : Acts j s t) (hkj : k ≠ j) :
    (t.engines.get k).phase.ungranted = (s.engines.get k).phase.ungranted := by
  induction h with
  | refl => rfl
  | tail _ hact ih =>
    refine Eq.trans ?_ ih
    cases hact with
    | background h => exact h.ungranted k
    | own h => rw [h.engines k hkj]
    | announce | cancel => rfl

/-- A quiet head's engine, draw and jar stay as they are, but for a close pending and the delivery of the verdict. -/
structure Rests (k : Fin 4) (s t : State) : Prop where
  engine : t.engines.get k = s.engines.get k
  draw   : (s.draws.get k).sameDraw (t.draws.get k)
  jar    : (s.slots.get k).sameJar (t.slots.get k)

theorem Rests.refl (k : Fin 4) (s : State) : Rests k s s := ⟨rfl, .refl _, .refl _⟩

theorem Rests.trans (h : Rests k s t) (h' : Rests k t u) : Rests k s u :=
  ⟨h'.engine.trans h.engine, h.draw.trans h'.draw, h.jar.trans h'.jar⟩

theorem Rests.quiet (h : Rests k s t) (hs : s.quiet k) : t.quiet k := by
  obtain ⟨p, hp⟩ := h.draw
  unfold State.quiet
  rw [hp]
  exact hs

theorem Act.rests (h : Act j s t) (hkj : k ≠ j) (hs : s.quiet k) : Rests k s t := by
  cases h with
  | background h =>
    have hundisturbed := h.undisturbed hs
    exact ⟨hundisturbed.engine, hundisturbed.draw, hundisturbed.jars k⟩
  | own h => exact ⟨h.engines k hkj, h.draws k hkj ▸ .refl _, h.slots k hkj ▸ .refl _⟩
  | announce | cancel => exact ⟨rfl, .refl _, .refl _⟩

theorem Acts.rests (h : Acts j s t) (hkj : k ≠ j) (hs : s.quiet k) : Rests k s t := by
  induction h with
  | refl => exact .refl k s
  | tail _ hact ih => exact ih.trans (hact.rests hkj (ih.quiet hs))

/-- A relation that each step at another head keeps holds across a fold over other heads. -/
theorem foldl_relates {R : State → State → Prop} {f : State → Fin 4 → State} (hrefl : ∀ s, R s s)
    (htrans : ∀ {s t u}, R s t → R t u → R s u) {p : State → Prop} (hp : ∀ {s t}, R s t → p s → p t)
    (hf : ∀ s j, k ≠ j → p s → R s (f s j)) {l : List (Fin 4)} (hk : k ∉ l) (hs : p s) : R s (l.foldl f s) := by
  induction l generalizing s with
  | nil => exact hrefl s
  | cons j l ih =>
    rw [List.mem_cons, not_or] at hk
    have hstep := hf s j hk.1 hs
    exact htrans hstep (ih hk.2 (hp hstep hs))

/-! ## The end of a closure, by the state of its head (R105) -/

theorem Slot.sameJar.onRecord {x y : Slot} {f : Record → Record} (h : x.sameJar y)
    (hf : ∀ r d v n, f { r with delivery := d, verdictPending := v, ticket := n }
      = { f r with delivery := d, verdictPending := v, ticket := n }) :
    (x.onRecord f).sameJar (y.onRecord f) := by
  obtain ⟨d, v, n, hy⟩ := h
  refine ⟨d, v, n, ?_⟩
  rw [hy, Slot.onRecord, Slot.onRecord, hf]

theorem writeRecord_onRecord {f : Record → Record} (h : (s.slots.get k).state = .bound) :
    (writeRecord k f s).slots.get k = (s.slots.get k).onRecord f := writeRecord_bound f h

/-- The record of a jar whose closure the entry ends: HALTED, and ABORTED for a flush or a drive awaited, and for a flush
in progress. -/
def Record.halted (p : Phase) (r : Record) : Record := { r with
  reasons := { r.reasons with halted := true }
  flushEnd := if p = .steamWait ∨ p = .steamAnnounced ∨ p = .flush then .aborted else r.flushEnd
  torqueEnd := if p = .driveWait ∨ p = .driveAnnounced then .aborted else r.torqueEnd }

/-- The state in which a head ends its closure: its valve off, its ask and its draw gone but in TORQUE, the record
written. -/
structure Halts (k : Fin 4) (s y : State) : Prop where
  engine   : y.engines.get k = { s.engines.get k with steam := false, asking := false }
  tracks   : y.tracks = s.tracks
  channels : y.channels = s.channels
  service  : y.service = s.service
  jar      : ((s.slots.get k).onRecord (Record.halted (s.engines.get k).phase)).sameJar (y.slots.get k)
  draw     : (s.engines.get k).phase ≠ .torque → (y.draws.get k).status = .none ∧ (y.draws.get k).ask = none
  drives   : (s.engines.get k).phase = .torque → y.draws = s.draws

/-- An ask that the entry ends is gone with its draw. -/
theorem endAsk_ends (hopen : (s.draws.get k).isOpen = false) (hlawful : (s.draws.get k).lawful = true) :
    (endAsk k s).tracks = s.tracks ∧ (endAsk k s).channels = s.channels ∧ (endAsk k s).service = s.service
    ∧ (s.slots.get k).sameJar ((endAsk k s).slots.get k) ∧ (endAsk k s).engines.get k = s.engines.get k
    ∧ ((endAsk k s).draws.get k).status = .none ∧ ((endAsk k s).draws.get k).ask = none := by
  rcases endAsk_closes hopen hlawful with ⟨hun, hstatus⟩ | hcloses
  · obtain ⟨p, hp⟩ := hun.draw
    have hdraw : (endAsk k s).draws.get k = { s.draws.get k with ask := none, closing := p } := by
      rw [hp, modDraw_draws, Four.get_modify_same]
    refine ⟨hun.tracks, hun.channels, hun.service, hun.jars k, hun.engine, ?_, ?_⟩
    · rw [hdraw]; exact hstatus
    · rw [hdraw]
  · exact ⟨hcloses.tracks, hcloses.channels, hcloses.service, hcloses.jars k, hcloses.engine, hcloses.status, hcloses.ask⟩

/-- The halted head with its jar marked. -/
def State.haltsHead (s : State) (k : Fin 4) : State :=
  addReason k .halted (modEngine k (fun x => { x with steam := false, asking := false }) s)

theorem haltsHead_engine (s : State) (k : Fin 4) :
    (s.haltsHead k).engines.get k = { s.engines.get k with steam := false, asking := false } := by
  rw [State.haltsHead, addReason_engines, modEngine_engines, Four.get_modify_same]

theorem haltsHead_slot (h : (s.slots.get k).state = .bound) :
    (s.haltsHead k).slots.get k
      = (s.slots.get k).onRecord (fun r => { r with reasons := { r.reasons with halted := true } }) :=
  writeRecord_bound _ h

theorem DrawLaw.not_open {p : Phase} {d : OwnDraw} (h : DrawLaw p d) (hp : ∀ c, p.draw ≠ some (c, true)) :
    d.isOpen = false := by
  cases hdraw : p.draw with
  | none => exact OwnDraw.isOpen_none (h.of_none hdraw)
  | some x =>
    obtain ⟨c, o⟩ := x
    cases o with
    | true => exact absurd hdraw (hp c)
    | false => exact OwnDraw.isOpen_pending (h.of_draw hdraw).2

theorem DrawLaw.no_ask {p : Phase} {d : OwnDraw} (h : DrawLaw p d) (hp : p.asks = none) : d.ask = none := by
  rcases h.asks with hn | ⟨-, hc⟩
  · exact hn
  · rw [hp] at hc
    exact Option.map_eq_none_iff.1 hc

/-- A head that neither asks nor draws, or is in TORQUE, ends its closure with the mark alone. -/
theorem halts_marked (hbound : (s.slots.get k).state = .bound)
    (hf : ∀ r, { r with reasons := { r.reasons with halted := true } } = Record.halted (s.engines.get k).phase r)
    (hdraw : (s.engines.get k).phase ≠ .torque → (s.draws.get k).status = .none ∧ (s.draws.get k).ask = none) :
    Halts k s (s.haltsHead k) := by
  refine ⟨haltsHead_engine s k, rfl, rfl, rfl, ?_, hdraw, fun _ => rfl⟩
  rw [haltsHead_slot hbound, funext hf]
  exact .refl _

/-- The jar of a halted head, its end kind written after the mark. -/
theorem haltsHead_written {f : Record → Record} (hbound : (s.slots.get k).state = .bound)
    (hf : ∀ r, f { r with reasons := { r.reasons with halted := true } } = Record.halted (s.engines.get k).phase r) :
    ((s.haltsHead k).slots.get k).onRecord f = (s.slots.get k).onRecord (Record.halted (s.engines.get k).phase) := by
  rw [haltsHead_slot hbound, ← funext hf]
  rfl

/-- A head that awaits a draw ends its ask and its grant. -/
theorem halts_asking {f : Record → Record} (h : HeadLaw s k) (hbound : (s.slots.get k).state = .bound)
    (hf : ∀ r, f { r with reasons := { r.reasons with halted := true } } = Record.halted (s.engines.get k).phase r)
    (hsame : ∀ r d v n, f { r with delivery := d, verdictPending := v, ticket := n }
      = { f r with delivery := d, verdictPending := v, ticket := n })
    (hp : ∀ c, (s.engines.get k).phase.draw ≠ some (c, true)) :
    Halts k s (writeRecord k f (endAsk k (s.haltsHead k))) := by
  have htorque : (s.engines.get k).phase ≠ .torque := fun he => hp .drive (by rw [he]; rfl)
  obtain ⟨htracks, hchannels, hservice, hjars, hsameEngine, hstatus, hask⟩ := @endAsk_ends (s.haltsHead k) k
    (h.draw.not_open hp) ((drawLaw_iff _ _).1 h.draw).1
  have hmarked : ((s.haltsHead k).slots.get k).state = .bound := by rw [haltsHead_slot hbound]; exact hbound
  refine ⟨hsameEngine.trans (haltsHead_engine s k), htracks, hchannels, hservice, ?_, fun _ => ⟨hstatus, hask⟩,
    fun he => absurd he htorque⟩
  rw [writeRecord_onRecord (hjars.state.trans hmarked), ← haltsHead_written hbound hf]
  exact hjars.onRecord hsame

/-- A head in FLUSH closes its draw. -/
theorem halts_flushing (h : HeadLaw s k) (hbound : (s.slots.get k).state = .bound)
    (hp : (s.engines.get k).phase = .flush) :
    Halts k s (closeDraw k (writeRecord k (fun r => { r with flushEnd := .aborted }) (s.haltsHead k))) := by
  obtain ⟨a, hterms, -, hopen⟩ := h.draw.opened (by rw [hp]; rfl)
  have hc := @closeDraw_closes k (writeRecord k (fun r => { r with flushEnd := .aborted }) (s.haltsHead k)) a hopen hterms
  have hjars := hc.jars k
  rw [writeRecord_onRecord (by rw [haltsHead_slot hbound]; exact hbound),
    haltsHead_written hbound (by rw [hp]; exact fun _ => rfl)] at hjars
  exact ⟨hc.engine.trans (haltsHead_engine s k), hc.tracks, hc.channels, hc.service, hjars,
    fun _ => ⟨hc.status, hc.ask⟩, fun he => absurd (he.symm.trans hp) (by decide)⟩

theorem safeEngine_eq (k : Fin 4) (s : State) : safeEngine k s = match (s.engines.get k).phase with
    | .idle | .out => s
    | .bound | .seat => toDwell k (s.haltsHead k)
    | .steamWait | .steamAnnounced =>
      toDwell k (writeRecord k (fun r => { r with flushEnd := .aborted }) (endAsk k (s.haltsHead k)))
    | .flush => toDwell k (closeDraw k (writeRecord k (fun r => { r with flushEnd := .aborted }) (s.haltsHead k)))
    | .driveWait | .driveAnnounced =>
      toDwell k (writeRecord k (fun r => { r with torqueEnd := .aborted }) (endAsk k (s.haltsHead k)))
    | .torque | .dwell => s.haltsHead k := by
  unfold safeEngine
  cases (s.engines.get k).phase <;> rfl

/-- A lawful head in TORQUE or DWELL is marked and stays. -/
theorem safeEngine_stays (h : HeadLaw s k) (hbound : (s.slots.get k).state = .bound)
    (hp : (s.engines.get k).phase = .torque ∨ (s.engines.get k).phase = .dwell) :
    ∃ y, Halts k s y ∧ safeEngine k s = y := by
  refine ⟨s.haltsHead k, ?_, ?_⟩
  · rcases hp with hp | hp
    · exact halts_marked hbound (by rw [hp]; exact fun _ => rfl) fun hne => absurd hp hne
    · exact halts_marked hbound (by rw [hp]; exact fun _ => rfl) fun _ =>
        ⟨h.draw.of_none (by rw [hp]; rfl), h.draw.no_ask (by rw [hp]; rfl)⟩
  · rw [safeEngine_eq]
    rcases hp with hp | hp <;> rw [hp]

/-- Any other lawful head in a closure comes to DWELL. -/
theorem safeEngine_dwells (h : HeadLaw s k) (hbound : (s.slots.get k).state = .bound)
    (hclosure : (s.engines.get k).inClosure = true) (htorque : (s.engines.get k).phase ≠ .torque)
    (hdwell : (s.engines.get k).phase ≠ .dwell) : ∃ y, Halts k s y ∧ safeEngine k s = toDwell k y := by
  have heq := safeEngine_eq k s
  cases hp : (s.engines.get k).phase with
  | idle | out => simp [Engine.inClosure, hp] at hclosure
  | torque => exact absurd hp htorque
  | dwell => exact absurd hp hdwell
  | bound | seat =>
    rw [hp] at heq
    exact ⟨_, halts_marked hbound (by rw [hp]; exact fun _ => rfl) fun _ =>
      ⟨h.draw.of_none (by rw [hp]; rfl), h.draw.no_ask (by rw [hp]; rfl)⟩, heq⟩
  | steamWait | steamAnnounced | driveWait | driveAnnounced =>
    rw [hp] at heq
    exact ⟨_, halts_asking h hbound (by rw [hp]; exact fun _ => rfl) (fun _ _ _ _ => rfl) (by rw [hp]; exact nofun), heq⟩
  | flush =>
    rw [hp] at heq
    exact ⟨_, halts_flushing h hbound hp, heq⟩

end

end Sys2Proof.Machine

/-! PROOFS. The entry to SAFE, head by head: the end of the closure and the trip of its channel (R105, R122, R126), and what
the station's entry by a HALT TRIP leaves. -/

namespace Sys2Proof.Machine
open Sys2Proof

section
variable {s t y : State} {k : Fin 4}

theorem toDwell_outputs (k : Fin 4) (s : State) : ((toDwell k s).engines.get k).steam = (s.engines.get k).steam
    ∧ ((toDwell k s).engines.get k).asking = (s.engines.get k).asking := by
  cases hrel : s.reached k .rel with
  | false => rw [toDwell_engine_waits hrel]; exact ⟨rfl, rfl⟩
  | true => rw [toDwell_engine_released hrel]; exact ⟨rfl, rfl⟩

theorem Halts.reached (h : Halts k s y) (x : Threshold) : y.reached k x = s.reached k x := by
  rw [State.reached, h.tracks, State.reached]

theorem Halts.slot_bound (h : Halts k s y) (hbound : (s.slots.get k).state = .bound) : (y.slots.get k).state = .bound :=
  h.jar.state.trans hbound

/-- The record of a jar whose closure the entry ends, with the figures of a torque phase in progress. -/
def Record.safeEnded (p : Phase) (ch : Channel) (r : Record) : Record :=
  if p = .torque then (r.halted p).torqueDone .aborted (ch.tauFinal .aborted) (ch.peak.getD 0) else r.halted p

theorem Record.safeEnded_ungranted (p : Phase) (ch : Channel) (r : Record) :
    Record.safeEnded p.ungranted ch r = Record.safeEnded p ch r := by
  cases p <;> rfl

theorem Record.safeEnded_fields (p : Phase) (ch : Channel) (r : Record) :
    (r.safeEnded p ch).reasons = { r.reasons with halted := true } ∧ (r.safeEnded p ch).fEff = r.fEff
    ∧ (r.safeEnded p ch).flushEnd
      = (if p = .steamWait ∨ p = .steamAnnounced ∨ p = .flush then .aborted else r.flushEnd)
    ∧ (r.safeEnded p ch).torqueEnd
      = (if p = .driveWait ∨ p = .driveAnnounced ∨ p = .torque then .aborted else r.torqueEnd)
    ∧ (p = .torque → (r.safeEnded p ch).tauFinal = ch.last.getD 0 ∧ (r.safeEnded p ch).tauPeak = ch.peak.getD 0) := by
  cases p with
  | torque => exact ⟨rfl, rfl, rfl, rfl, fun _ => ⟨rfl, rfl⟩⟩
  | idle | bound | steamWait | steamAnnounced | flush | seat | driveWait | driveAnnounced | dwell | out =>
    exact ⟨rfl, rfl, rfl, rfl, nofun⟩

/-- What the entry to SAFE leaves of a head in a closure. -/
structure SafeEnd (k : Fin 4) (s t : State) : Prop where
  steam    : (t.engines.get k).steam = false
  asking   : (t.engines.get k).asking = false
  status   : (t.draws.get k).status = .none
  ask      : (t.draws.get k).ask = none
  waits    : s.reached k .rel = false → (t.engines.get k).phase = .dwell
    ∧ (t.engines.get k).press = (s.engines.get k).press
    ∧ ((s.slots.get k).onRecord (Record.safeEnded (s.engines.get k).phase (s.channels.get k))).sameJar (t.slots.get k)
  releases : s.reached k .rel = true → (s.engines.get k).phase = .seat ∨ (s.engines.get k).phase = .bound →
    (t.engines.get k).press = false ∧ (t.engines.get k).phase = (if (s.engines.get k).out then .out else .idle)
    ∧ ((s.slots.get k).record.passed = false → (t.slots.get k).state = .settled
      ∧ (t.slots.get k).record.verdict = some .reject ∧ (t.slots.get k).record.reasons.halted = true)

/-- A trip outside a torque phase and a forced run writes the channel alone. -/
theorem tripHalt_outside (cause : TripCause) (hruns : (s.channels.get k).phaseRuns = false)
    (hforces : s.forces k .drive = false) : tripHalt cause s k = modChannel k (Channel.tripOrAdd cause) s := by
  unfold tripHalt
  rw [hruns, clearForcedDrive_unforced hforces]
  rfl

theorem tripHalt_inside (cause : TripCause) (hruns : (s.channels.get k).phaseRuns = true)
    (hforces : s.forces k .drive = false) :
    tripHalt cause s k = endPhase k .aborted false (Channel.trip cause) s := by
  unfold tripHalt
  rw [hruns, clearForcedDrive_unforced hforces]
  rfl

/-- A jar judged with HALTED among its reasons is REJECTED. -/
theorem judged_halted {rc : Recipe} {r : Record} (h : r.reasons.halted = true) :
    (judged rc r).verdict = some .reject ∧ (judged rc r).reasons.halted = true := by
  obtain ⟨v, l, u, heq⟩ := checkedReasons_eq rc r
  have hhalted : (checkedReasons rc r).halted = true := by rw [heq]; exact h
  refine ⟨congrArg some (verdictOf_reject fun hnone => ?_), hhalted⟩
  rw [hnone] at hhalted
  exact Bool.false_ne_true hhalted

/-- A head that comes to DWELL, or stays there, as the entry leaves it. -/
theorem Halts.safeEnd_dwells (h : Halts k s y) (hbound : (s.slots.get k).state = .bound)
    (hp : (s.engines.get k).phase ≠ .torque) (hengines : t.engines = (toDwell k y).engines)
    (hdraws : t.draws = y.draws) (hslots : t.slots = (toDwell k y).slots) : SafeEnd k s t := by
  obtain ⟨hstatus, hask⟩ := h.draw hp
  obtain ⟨hsteam, hasking⟩ := toDwell_outputs k y
  rw [h.engine] at hsteam hasking
  have hrecord (r : Record) : r.safeEnded (s.engines.get k).phase (s.channels.get k)
      = r.halted (s.engines.get k).phase := if_neg hp
  refine ⟨by rw [hengines]; exact hsteam, by rw [hengines]; exact hasking, by rw [hdraws]; exact hstatus,
    by rw [hdraws]; exact hask, fun hrel => ?_, fun hrel hwas => ?_⟩
  · have hwaits := (h.reached .rel).trans hrel
    rw [hengines, hslots, toDwell_engine_waits hwaits, toDwell_slots_waits hwaits, h.engine, Slot.onRecord, hrecord]
    exact ⟨rfl, rfl, h.jar⟩
  · have hreleases := (h.reached .rel).trans hrel
    rw [hengines, hslots, toDwell_engine_released hreleases, h.engine]
    refine ⟨rfl, rfl, fun hpassed => ?_⟩
    obtain ⟨d, v, n, hwritten⟩ := h.jar.record
    have hjar := toDwell_jar_released hreleases (h.slot_bound hbound) (by rw [hwritten]; exact hpassed)
    obtain ⟨_, _, _, hjudged⟩ := hjar.record
    obtain ⟨hverdict, hhalted⟩ := @judged_halted (y.boundRecipe k) (y.slots.get k).record (by rw [hwritten]; rfl)
    rw [hjudged]
    exact ⟨hjar.state, hverdict, hhalted⟩

/-- A head already in DWELL, its A_rel not reached, stays there. -/
theorem Halts.safeEnd_stays (h : Halts k s y) (hp : (s.engines.get k).phase = .dwell) (hengines : t.engines = y.engines)
    (hdraws : t.draws = y.draws) (hslots : t.slots = y.slots) : SafeEnd k s t := by
  obtain ⟨hstatus, hask⟩ := h.draw (by rw [hp]; decide)
  have hrecord (r : Record) : r.safeEnded (s.engines.get k).phase (s.channels.get k)
      = r.halted (s.engines.get k).phase := if_neg (by rw [hp]; decide)
  refine ⟨by rw [hengines, h.engine], by rw [hengines, h.engine], by rw [hdraws]; exact hstatus,
    by rw [hdraws]; exact hask, fun _ => ?_, fun _ hwas => ?_⟩
  · rw [hengines, hslots, h.engine, Slot.onRecord, hrecord]
    exact ⟨hp, rfl, h.jar⟩
  · rw [hp] at hwas
    exact absurd hwas (by decide)

/-- A head in TORQUE takes the ABORTED end that its channel's trip gives (R122). -/
theorem Halts.safeEnd_torque (h : Halts k s y) (hlaw : HeadLaw s k) (hbound : (s.slots.get k).state = .bound)
    (hp : (s.engines.get k).phase = .torque) :
    SafeEnd k s (endPhase k .aborted false (Channel.trip .safe) y) := by
  obtain ⟨u, hend, hu⟩ := @endPhase_ends k y .aborted false (Channel.trip .safe) (by rw [h.engine]; exact hp)
  obtain ⟨a, hterms, -, hopen⟩ := hlaw.draw.opened (by rw [hp]; rfl)
  have hdrives := h.drives hp
  obtain ⟨hstatus, hask⟩ := hu.draw a (by rw [hdrives]; exact hopen) (by rw [hdrives]; exact hterms)
  obtain ⟨hsteam, hasking⟩ := toDwell_outputs k u
  rw [hu.engine, h.engine] at hsteam hasking
  have hrecord (r : Record) : r.safeEnded (s.engines.get k).phase (s.channels.get k)
      = (r.halted (s.engines.get k).phase).torqueDone .aborted ((s.channels.get k).tauFinal .aborted)
        ((s.channels.get k).peak.getD 0) := if_pos hp
  rw [hend]
  refine ⟨hsteam, hasking, by rw [toDwell_draws]; exact hstatus, by rw [toDwell_draws]; exact hask, fun hrel => ?_,
    fun _ hwas => ?_⟩
  · have hwaits := (hu.reached .rel).trans ((h.reached .rel).trans hrel)
    rw [toDwell_engine_waits hwaits, toDwell_slots_waits hwaits, hu.engine, h.engine, Slot.onRecord, hrecord]
    have hwritten := @Slot.sameJar.onRecord _ _ (Record.torqueDone .aborted ((s.channels.get k).tauFinal .aborted)
      ((s.channels.get k).peak.getD 0)) h.jar fun _ _ _ _ => rfl
    have hjar := hu.jar (h.slot_bound hbound)
    rw [h.channels] at hjar
    exact ⟨rfl, rfl, hwritten.trans hjar⟩
  · rw [hp] at hwas
    exact absurd hwas (by decide)

/-- The turn of a head in a closure at the entry to SAFE. -/
theorem safeHead_ends (h : HeadsLaw s) (hclosure : (s.engines.get k).inClosure = true) :
    SafeEnd k s (safeHead s k) := by
  have hlaw := h.heads k
  have hbound := hlaw.bound hclosure
  have hforces : (safeEngine k s).forces k .drive = false := by
    have hs := h.unforced hclosure .drive
    rw [State.forces, (safeEngine_blocks k s).2]
    exact hs
  have hchannels := (safeEngine_blocks k s).1
  unfold safeHead
  by_cases htorque : (s.engines.get k).phase = .torque
  · obtain ⟨y, hy, heq⟩ := safeEngine_stays hlaw hbound (.inl htorque)
    rw [tripHalt_inside .safe (by rw [hchannels]; exact hlaw.torque.2 htorque) hforces, heq]
    exact hy.safeEnd_torque hlaw hbound htorque
  · have hrests : ((safeEngine k s).channels.get k).phaseRuns = false := by
      rw [hchannels, ← Bool.not_eq_true]
      exact fun hruns => htorque (hlaw.torque.1 hruns)
    rw [tripHalt_outside .safe hrests hforces]
    by_cases hdwell : (s.engines.get k).phase = .dwell
    · obtain ⟨y, hy, heq⟩ := safeEngine_stays hlaw hbound (.inr hdwell)
      rw [heq]
      exact hy.safeEnd_stays hdwell rfl rfl rfl
    · obtain ⟨y, hy, heq⟩ := safeEngine_dwells hlaw hbound hclosure htorque hdwell
      rw [heq]
      exact hy.safeEnd_dwells hbound htorque rfl (toDwell_draws k y) rfl

/-! ## The whole entry -/

theorem SafeEnd.rests {u : State} (h : SafeEnd k s t) (h' : Rests k t u) : SafeEnd k s u := by
  obtain ⟨p, hp⟩ := h'.draw
  refine ⟨by rw [h'.engine]; exact h.steam, by rw [h'.engine]; exact h.asking, by rw [hp]; exact h.status,
    by rw [hp]; exact h.ask, fun hrel => ?_, fun hrel hwas => ?_⟩
  · obtain ⟨hphase, hpress, hjar⟩ := h.waits hrel
    rw [h'.engine]
    exact ⟨hphase, hpress, hjar.trans h'.jar⟩
  · obtain ⟨hpress, hphase, hjudged⟩ := h.releases hrel hwas
    rw [h'.engine]
    refine ⟨hpress, hphase, fun hpassed => ?_⟩
    obtain ⟨hstate, hverdict, hhalted⟩ := hjudged hpassed
    obtain ⟨_, _, _, hrecord⟩ := h'.jar.record
    rw [hrecord]
    exact ⟨h'.jar.state.trans hstate, hverdict, hhalted⟩

/-- What the turns of other heads leave of a head that awaits its own. -/
structure Awaiting (k : Fin 4) (s t : State) : Prop extends Bystander k s t where
  ungranted : (t.engines.get k).phase.ungranted = (s.engines.get k).phase.ungranted

theorem Awaiting.ends {u : State} (h : Awaiting k s t) (h' : SafeEnd k t u) : SafeEnd k s u := by
  obtain ⟨d, v, n, hslot⟩ := h.jar
  have hrel : t.reached k .rel = s.reached k .rel := by rw [State.reached, h.track, State.reached]
  have hrecord (r : Record) : r.safeEnded (t.engines.get k).phase (t.channels.get k)
      = r.safeEnded (s.engines.get k).phase (s.channels.get k) := by
    rw [← Record.safeEnded_ungranted, h.ungranted, Record.safeEnded_ungranted, h.channel]
  refine ⟨h'.steam, h'.asking, h'.status, h'.ask, fun hr => ?_, fun hr hwas => ?_⟩
  · obtain ⟨hphase, hpress, hjar⟩ := h'.waits (hrel.trans hr)
    rw [funext hrecord] at hjar
    refine ⟨hphase, hpress.trans h.engine.press, (Slot.sameJar.onRecord h.jar fun r d v n => ?_).trans hjar⟩
    unfold Record.safeEnded
    split <;> rfl
  · have hsame : (t.engines.get k).phase = .seat ∨ (t.engines.get k).phase = .bound := by
      have hun := h.ungranted
      rcases hwas with hp | hp
      · rw [hp] at hun
        cases ht : (t.engines.get k).phase <;> simp [ht, Phase.ungranted] at hun ⊢
      · rw [hp] at hun
        cases ht : (t.engines.get k).phase <;> simp [ht, Phase.ungranted] at hun ⊢
    obtain ⟨hpress, hphase, hjudged⟩ := h'.releases (hrel.trans hr) hsame
    rw [h.engine.out] at hphase
    rw [hslot] at hjudged
    exact ⟨hpress, hphase, hjudged⟩

/-- Through the entry to SAFE every head of a lawful station that is in a closure ends it. -/
theorem safeHeads_end (h : HeadsLaw s) (hreset : s.inReset = none) (hclosure : (s.engines.get k).inClosure = true)
    {l : List (Fin 4)} (hk : k ∈ l) (hl : l.Nodup) : SafeEnd k s (l.foldl safeHead s) := by
  obtain ⟨l₁, l₂, h₁, h₂, hsplit⟩ := foldl_split safeHead hk hl s
  have hbefore : Awaiting k s (l₁.foldl safeHead s) :=
    @foldl_relates _ k (Awaiting k) safeHead (fun s => ⟨.refl k s, rfl⟩)
      (fun h h' => ⟨h.toBystander.trans h'.toBystander, h'.ungranted.trans h.ungranted⟩) (fun _ => True)
      (fun _ _ => trivial) (fun s j hkj _ =>
        ⟨(@Acts.refl j s).safeHead.bystander hkj, (@Acts.refl j s).safeHead.ungranted hkj⟩) l₁ h₁ trivial
  have hlaw : HeadsLaw (l₁.foldl safeHead s) :=
    HeadsLaw.foldl (fun s j => congrArg Still.inReset (still_safeHead s j)) (fun s j h hr => h.safeHead hr j) l₁ h hreset
  have hturn := safeHead_ends hlaw (hbefore.engine.closure.trans hclosure)
  have hafter : Rests k (safeHead (l₁.foldl safeHead s) k) (l₂.foldl safeHead (safeHead (l₁.foldl safeHead s) k)) :=
    @foldl_relates _ k (Rests k) safeHead (Rests.refl k) (fun h h' => h.trans h') (fun s => s.quiet k)
      (fun h => h.quiet) (fun s j hkj hq => (@Acts.refl j s).safeHead.rests hkj hq) l₂ h₂
      ⟨hturn.ask, by rw [hturn.status]; exact nofun⟩
  rw [hsplit]
  exact hbefore.ends (hturn.rests hafter)

theorem entersSafe_headsLaw (h : HeadsLaw s) (hreset : s.inReset = none) : HeadsLaw s.entersSafe := by
  have hmode : HeadsLaw (setMode .safe s) := by
    refine ⟨fun j => ?_, fun r hr => ⟨rfl, (h.forced r hr).2⟩, h.rests⟩
    obtain ⟨hbound, htorque, hdrives, hchannel, hdraw, hvalve⟩ := h.heads j
    exact ⟨hbound, htorque, hdrives, hchannel, hdraw, fun hs => (hvalve hs).imp id fun hf => ⟨hf.1, rfl⟩⟩
  exact (hmode.entries hreset s.heads).congr (by rw [entries_eq]; rfl) (fun _ => rfl) (by rw [entries_eq]; rfl)
    (by rw [entries_eq]; rfl) (by rw [entries_eq]; rfl) (by rw [entries_eq]; rfl) (by rw [entries_eq]; rfl)

theorem enterSafe_ends (h : HeadsLaw s) (hreset : s.inReset = none) (hclosure : (s.engines.get k).inClosure = true) :
    SafeEnd k s (enterSafe s) := by
  have hslot : s.entersSafe.slots.get k = s.slots.get k := by
    refine (entries_slot (setMode .safe s) k).2 fun hidle => ?_
    have hbound : (s.slots.get k).state = .bound := (h.heads k).bound hclosure
    exact absurd (hbound.symm.trans hidle.2.1) (by decide)
  have hturn := @safeHeads_end s.entersSafe k (entersSafe_headsLaw h hreset) hreset hclosure _ (mem_safeOrder s k)
    (nodup_safeOrder s)
  rw [← enterSafe_eq] at hturn
  obtain ⟨hsteam, hasking, hstatus, hask, hwaits, hreleases⟩ := hturn
  rw [hslot] at hwaits hreleases
  exact ⟨hsteam, hasking, hstatus, hask, hwaits, hreleases⟩

theorem HeadsLaw.running_unforced (h : HeadsLaw s) (hmode : s.unit.mode = .run ∨ s.unit.mode = .stand) :
    s.service.forced = none := by
  rw [Option.eq_none_iff_forall_ne_some]
  intro r hr
  obtain ⟨hsafe, -⟩ := h.forced r hr
  rcases hmode with hm | hm <;> cases hm.symm.trans hsafe

end

/-- Settles O26: each head of the station takes its turn, the others leaving it as it is before and after. -/
theorem safeEntryEndsTheClosures : Obligations.SafeEntryEndsTheClosures := by
  unfold Obligations.SafeEntryEndsTheClosures
  intro s f rest hf hlen hseverity hmode hlawful
  have ⟨hreset, _, hkind⟩ := hf
  have hlaw : HeadsLaw (s.withFrames rest) := ((headsLaw_iff s).2 hlawful).congr rfl (fun _ => rfl) rfl rfl rfl rfl rfl
  have hmet : (s.withFrames rest).metByHalt true = s.withFrames rest :=
    endForcedRun_none (hlaw.running_unforced hmode)
  have hexec : exec .halt s = .next (enterSafe (s.withFrames rest)) := by
    refine (deliver_next hf).trans (congrArg _ ((@takeHalt_eq f true hkind hlen hseverity _).trans ?_))
    rw [hmet]
    exact haltMode_trips hmode
  have hstill := still_enterSafe (s.withFrames rest)
  obtain ⟨htracker, hunit, hreceive, hview, -⟩ := State.still_fields hstill
  have hground := State.ground_of_still hstill
  refine ⟨_, hexec, hunit, fun k => ?_, fun k _ hclosure => ?_, hreceive, hground, htracker, hview⟩
  · have hchannel := enterSafe_channel (s.withFrames rest) k
    obtain ⟨-, hduty, hbridge, hstep, -⟩ := @Channel.halted_rests .safe _ (hlaw.heads k).channel
    rw [hchannel, Channel.halted_causes]
    exact ⟨Channel.halted_state _ _, rfl, hduty, hbridge, hstep⟩
  · have hend := enterSafe_ends hlaw hreset hclosure
    intro p r u
    refine ⟨hend.steam, hend.asking, hend.status, hend.ask, fun hrel => ?_, hend.releases⟩
    obtain ⟨hphase, hpress, hjar⟩ := hend.waits hrel
    have hbound : (s.slots.get k).state = .bound := (hlaw.heads k).bound hclosure
    obtain ⟨_, _, _, hrecord⟩ := hjar.record
    obtain ⟨hreasons, heff, hflush, htorque, htau⟩ := Record.safeEnded_fields p (s.channels.get k) r
    have hu : u = _ := hrecord
    rw [hu]
    exact ⟨hphase, hpress, hjar.state.trans hbound, hreasons, heff, hflush, htorque, htau⟩

end Sys2Proof.Machine

/-! PROOFS. A ZERO pulse in the time base step of the pulse before, and the backward slip (R4, R7, R15, R76). -/

namespace Sys2Proof.Machine
open Sys2Proof

/-! ## No time at all -/

theorem Four.map_self {α : Type} (f : Four α) {g : α → α} (hg : ∀ x, g x = x) : f.map g = f :=
  Four.ext_get _ _ fun k => (Four.get_map f k g).trans (hg _)

theorem Transmit.elapse_zero (t : Transmit) : t.elapse 0 = t := by
  unfold Transmit.elapse
  split
  · split
    · next m hbyte =>
      show { t with byte := some m } = t
      rw [← hbyte]
    · rfl
  · rfl

/-- A step of no time changes nothing, e being in range. -/
theorem elapse_zero {s : State} (he : s.tracker.e ≤ 262143) : elapse 0 s = s := by
  have htracker : s.tracker.elapse 0 = s.tracker := by
    have hsame : min eSaturated (s.tracker.e + 0) = s.tracker.e := Nat.min_eq_right he
    rw [Tracker.elapse, hsame]
  have hload (x : Option Nat) : x.map (· - 0) = x := Option.map_id'
  have hwrite (x : Option StoreWrite) : x.map (fun w => { w with left := w.left - 0 }) = x := Option.map_id'
  have hforced (x : Option ForcedRun) : x.map (fun r => { r with left := r.left - 0 }) = x := Option.map_id'
  unfold elapse
  split
  · rfl
  · have hengines : s.engines.map (fun x => { x with ms := x.ms + 0 }) = s.engines := Four.map_self _ fun _ => rfl
    have hchannels : s.channels.map (fun x => { x with ms := x.ms + 0 }) = s.channels := Four.map_self _ fun _ => rfl
    rw [htracker, Transmit.elapse_zero, hengines, hchannels, hload, hwrite, hforced]
    rfl

theorem atEdge_quiet {s : State} (he : s.tracker.e ≤ 262143) : s.atEdge 0 .quiet = consulted (setLevels .quiet s) := by
  rw [State.atEdge, elapse_zero he]
  exact takePins_calm Levels.quiet_oc

section
variable {s t : State} {k : Fin 4}

/-! ## A slip -/

theorem travels_get (s : State) (k : Fin 4) : s.travels.get k = s.travel k := by
  revert k
  exact Fin.forall_fin_succ.2 ⟨rfl, Fin.forall_fin_succ.2 ⟨rfl, Fin.forall_fin_succ.2 ⟨rfl,
    Fin.forall_fin_succ.2 ⟨rfl, nofun⟩⟩⟩⟩

/-- The state in which the heads take a slip: C corrected, the slip reported to the slots (R7, R76). -/
def State.slipped (s : State) : State := slipSlots { s with tracker := { s.tracker with c := s.expectedCount } }

theorem slip_backward (h : ¬s.slipDistance ≤ s.pocketCount / 2) :
    slip s = headIndexes.foldl (slipBackward (s.pocketCount - s.slipDistance) s.travels) s.slipped := by
  unfold slip
  exact if_neg h

theorem slipBackward_other {j : Fin 4} {b : Nat} {old : Four Nat} (s : State) (h : k ≠ j) :
    (slipBackward b old s j).tracks.get k = s.tracks.get k := by
  unfold slipBackward
  split
  · exact Four.get_modify_other _ _ h
  · rfl

theorem slipBackward_self {b : Nat} {old : Four Nat} (s : State) (k : Fin 4) :
    (slipBackward b old s k).tracks.get k = if s.travelDefined k = true ∧ old.get k < 256 * b
      then { s.tracks.get k with heldBack := true } else s.tracks.get k := by
  unfold slipBackward
  split
  · exact Four.get_modify_same _ _ _
  · rfl

theorem slipsBackward_eq {b : Nat} {old : Four Nat} (l : List (Fin 4)) (s : State) :
    l.foldl (slipBackward b old) s = { s with tracks := (l.foldl (slipBackward b old) s).tracks } := by
  have htracks (l : List (Fin 4)) : ∃ f, l.foldl (slipBackward b old) s = { s with tracks := f } := by
    induction l using list_reverse_induction with
    | nil => exact ⟨_, rfl⟩
    | append_singleton l j ih =>
      obtain ⟨f, hf⟩ := ih
      rw [List.foldl_append, hf, List.foldl_cons, List.foldl_nil]
      unfold slipBackward
      split
      · exact ⟨_, rfl⟩
      · exact ⟨_, rfl⟩
  obtain ⟨f, hf⟩ := htracks l
  rw [hf]

/-- A backward shift holds back each head that it carries across the infeed (R15). -/
theorem slipsBackward_track (b : Nat) (old : Four Nat) (s : State) (k : Fin 4) :
    (headIndexes.foldl (slipBackward b old) s).tracks.get k = if s.travelDefined k = true ∧ old.get k < 256 * b
      then { s.tracks.get k with heldBack := true } else s.tracks.get k := by
  have hothers {l : List (Fin 4)} (hk : k ∉ l) (x : State) :
      (l.foldl (slipBackward b old) x).tracks.get k = x.tracks.get k :=
    @foldl_others _ _ (slipBackward b old) (fun y => y.tracks.get k) k
      (fun x j hj => slipBackward_other x (Ne.symm hj)) l hk x
  obtain ⟨l₁, l₂, h₁, h₂, hsplit⟩ :=
    foldl_split (slipBackward b old) (mem_headIndexes k) (by decide : headIndexes.Nodup) s
  have hdefined : (l₁.foldl (slipBackward b old) s).travelDefined k = s.travelDefined k := by
    rw [slipsBackward_eq]
    rfl
  rw [hsplit, hothers h₂, slipBackward_self, hdefined, hothers h₁]

end

/-- Settles O11: the shift writes C, the reasons of bound jars and the held-back conditions, and nothing else. -/
theorem backwardSlipHoldsBack : Obligations.BackwardSlipHoldsBack := by
  unfold Obligations.BackwardSlipHoldsBack
  intro s d hreset hbegun hvalid he hd hslips hback
  have hexec := exec_zeroPulse 0 .quiet hreset hbegun
  have hzero : takeZero (s.atEdge 0 .quiet) = slip (consulted (setLevels .quiet s)) := by
    rw [atEdge_quiet he]
    exact (if_pos hvalid).trans (if_neg hslips)
  have hslip := @slip_backward (consulted (setLevels .quiet s)) (by
    show ¬minusMod s.pocketCount s.expectedCount s.tracker.c ≤ s.pocketCount / 2
    omega)
  rw [hzero, hslip, slipsBackward_eq] at hexec
  refine ⟨_, hexec, rfl, fun k => Four.get_map _ _ _, fun k => ?_, rfl, rfl, rfl, rfl, rfl, rfl, rfl, rfl, rfl⟩
  have htrack := slipsBackward_track (s.pocketCount - d) s.travels (consulted (setLevels .quiet s)).slipped k
  rw [travels_get, hd] at htrack
  rw [hd]
  exact htrack

end Sys2Proof.Machine

/-! PROOFS. The listened revolution: an empty head's IDLE slot stays as it is until the mode unit enters RUN, STAND or SAFE
(R28, R67). -/

namespace Sys2Proof.Machine
open Sys2Proof

/-- Head `k` holds no closure and its slot is IDLE, on a station that does not run. -/
structure Vacant (k : Fin 4) (p : Option Nat) (s : State) : Prop where
  mode    : s.unit.mode.running = false
  closure : (s.engines.get k).inClosure = false
  slot    : (s.slots.get k).state = .idle
  pocket  : (s.slots.get k).pocket = p

section
variable {s t : State} {j k : Fin 4} {p : Option Nat}

/-- No recipe threshold moves a head outside a closure. -/
theorem headThreshold_rests (x : Threshold) (h : (s.engines.get k).inClosure = false) : headThreshold k x s = s := by
  unfold headThreshold
  rcases Engine.rests_of_not_inClosure h with hp | hp <;> rw [hp] <;> cases x <;> rfl

/-- Before the running modes the discharge touches no slot. -/
theorem slotDischarge_halted (h : s.unit.mode.running = false) : slotDischarge k s = s :=
  if_neg (by rw [h]; exact Bool.false_ne_true)

theorem slotIntakeClose_closed (h : (s.slots.get k).state ≠ .opened) : slotIntakeClose k s = s := if_neg h

/-- The end of a phase that its head does not take writes the record and the channel alone. -/
theorem endPhase_rests (kind : TorqueEnd) (out : Bool) (f : Channel → Channel) (h : (s.engines.get k).phase ≠ .torque) :
    endPhase k kind out f s = modChannel k f (writeRecord k (Record.torqueDone kind ((s.channels.get k).tauFinal kind)
      ((s.channels.get k).peak.getD 0)) s) :=
  torqueEnded_other out h

namespace Vacant

theorem bystander (h : Vacant k p s) (hby : Bystander k s t) : Vacant k p t := by
  obtain ⟨-, hunit, -⟩ := State.still_fields hby.still
  exact ⟨by rw [hunit]; exact h.mode, hby.engine.closure.trans h.closure, hby.jar.state.trans h.slot,
    hby.jar.pocket.trans h.pocket⟩

/-- The state with other blocks changed. -/
theorem congr (h : Vacant k p s) (hmode : t.unit.mode = s.unit.mode)
    (hengine : (t.engines.get k).inClosure = (s.engines.get k).inClosure) (hslots : t.slots.get k = s.slots.get k) :
    Vacant k p t :=
  ⟨by rw [hmode]; exact h.mode, hengine.trans h.closure, by rw [hslots]; exact h.slot, by rw [hslots]; exact h.pocket⟩

theorem report (h : Vacant k p s) (x : Threshold) : Vacant k p (report k x s) := by
  have hmarked : Vacant k p (markReached k x s) := h.congr rfl rfl rfl
  unfold Machine.report
  cases x with
  | intakeClose =>
    rw [slotIntakeClose_closed (by rw [hmarked.slot]; decide)]
    exact hmarked
  | discharge =>
    rw [slotDischarge_halted hmarked.mode]
    exact hmarked
  | cap | fe | fl | fx | dl | rel =>
    rw [headThreshold_rests _ hmarked.closure]
    exact hmarked

theorem reportDue (h : Vacant k p s) (limit : Option Nat) (n : Nat) : Vacant k p (reportDue k limit n s) := by
  induction n generalizing s with
  | zero => exact h
  | succ n ih =>
    unfold Machine.reportDue
    split
    · exact h
    · exact ih (h.report _)

theorem newPass (h : Vacant k p s) : Vacant k p (newPass k s) := by
  have hpass : Vacant k p (modTrack k (fun x => { x with marks := x.marks.newPass }) (Machine.reportDue k none 8 s)) :=
    (h.reportDue none 8).congr rfl rfl rfl
  exact hpass.reportDue _ 8

theorem headAtPulse (h : Vacant k p s) (ended : Fin 4 → Bool) (j : Fin 4) : Vacant k p (headAtPulse ended s j) := by
  by_cases hkj : k = j
  · subst hkj
    unfold Machine.headAtPulse
    split
    · split
      · exact h.newPass
      · split
        · exact h
        · exact h.reportDue _ _
    · exact h
  · exact h.bystander ((headAtPulse_acts ended s j).bystander hkj)

theorem resumeHead (h : Vacant k p s) (j : Fin 4) : Vacant k p (resumeHead s j) := by
  by_cases hkj : k = j
  · subst hkj
    have hasks : s.asksAgain k = false := by
      rcases Engine.rests_of_not_inClosure h.closure with hp | hp <;> simp [State.asksAgain, hp]
    have hsame : Machine.resumeHead s k = s := if_neg (by rw [hasks]; exact Bool.false_ne_true)
    rw [hsame]
    exact h
  · exact h.bystander ((resumeHead_acts s j).bystander hkj)

/-- A trip takes an idle head OUT at most. -/
theorem tripOvercurrent (h : Vacant k p s) (j : Fin 4) : Vacant k p (tripOvercurrent j s) := by
  by_cases hkj : k = j
  · subst hkj
    have hcleared : Vacant k p (clearForcedDrive k s) :=
      h.congr (by rw [(State.still_fields (still_clearForcedDrive k s)).2.1]) (by rw [clearForcedDrive_engines])
        (by rw [clearForcedDrive_slots])
    have htripped (f : Channel → Channel) : Vacant k p (modChannel k f (clearForcedDrive k s)) :=
      hcleared.congr rfl rfl rfl
    unfold Machine.tripOvercurrent
    split
    · split
      · have hphase : ((clearForcedDrive k s).engines.get k).phase ≠ .torque := by
          rcases Engine.rests_of_not_inClosure hcleared.closure with hp | hp <;> rw [hp] <;> decide
        rw [endPhase_rests _ _ _ hphase]
        refine hcleared.congr rfl rfl ?_
        exact (Four.get_modify_same _ _ _).trans (if_neg (by rw [hcleared.slot]; decide))
      · split
        · refine (htripped Channel.overcurrent).congr rfl ?_ rfl
          rw [modEngine_engines, Four.get_modify_same]
          obtain heq | ⟨hp, heq⟩ := Engine.takenOut_cases ((modChannel k Channel.overcurrent (clearForcedDrive k s)).engines.get k)
          · rw [heq]
          · rw [heq]
            simp only [Engine.inClosure, hp]
        · exact htripped _
    · exact h
  · exact h.bystander ((@Acts.refl j s).tripOvercurrent.bystander hkj)

theorem foldl {α : Type} {f : State → α → State} (hf : ∀ s a, Vacant k p s → Vacant k p (f s a)) (l : List α)
    (h : Vacant k p s) : Vacant k p (l.foldl f s) := by
  induction l generalizing s with
  | nil => exact h
  | cons a l ih => exact ih (hf s a h)

theorem elapse (h : Vacant k p s) (n : Nat) : Vacant k p (elapse n s) := by
  obtain ⟨m, hm⟩ := elapse_engine n s k
  exact h.congr (by rw [elapse_unit]) (by rw [hm]; rfl) (by rw [elapse_slots])

theorem atEdge (h : Vacant k p s) (dt : Nat) (pins : Levels) : Vacant k p (s.atEdge dt pins) := by
  have hlevels : Vacant k p (consulted (setLevels pins (Machine.elapse dt s))) := (h.elapse dt).congr rfl rfl rfl
  exact hlevels.foldl (fun _ j h => h.tripOvercurrent j) _

theorem pulsed (h : Vacant k p s) : Vacant k p s.pulsed := by
  have hcounted : Vacant k p (countPitch s) := by
    unfold countPitch
    split
    · exact (h.elapse 1).congr rfl rfl rfl
    · exact h.congr rfl rfl rfl
  have hheads {x : State} (hx : Vacant k p x) : Vacant k p (headsAtPulse (countPitch s).endsHoldAtPulse x) :=
    Vacant.foldl (fun _ j h => h.headAtPulse _ j) _ (Vacant.congr hx rfl rfl rfl)
  have hresume {x : State} (hx : Vacant k p x) : Vacant k p (resumeHeads x) :=
    Vacant.foldl (fun _ j h => h.resumeHead j) _ (Vacant.congr hx rfl rfl rfl)
  have hholds : Vacant k p (endHolds (countPitch s).endsHoldAtPulse (countPitch s)) := hcounted.congr rfl rfl rfl
  unfold State.pulsed
  split
  · exact hheads (hresume hholds)
  · exact hheads hholds

theorem paced (h : Vacant k p s) : Vacant k p s.paced := by
  have hdraws : Vacant k p (drawPulse s.pulsed) := by
    rcases Bool.eq_false_or_eq_true s.pulsed.unit.mode.keepsView with hkeeps | hkeeps
    · have hcounted : Vacant k p { s.pulsed with
          view := s.pulsed.view.pulse s.pulsed.pocketCount, draws := s.pulsed.draws.map OwnDraw.countDown } :=
        h.pulsed.congr rfl rfl rfl
      exact hcounted.bystander ((drawPulse_moves hkeeps).bystander k)
    · rw [drawPulse_off hkeeps]
      exact h.pulsed
  exact hdraws.congr rfl rfl rfl

end Vacant

/-- The slot of an empty head once the listening is complete. -/
theorem completeListening_slot (hclosure : (s.engines.get k).inClosure = false) (hidle : (s.slots.get k).state = .idle)
    (hk : s.hasHead k = true) :
    (s.inWindow k = true → (completeListening s).slots.get k = (s.slots.get k).reopen)
    ∧ (s.inWindow k = false → (s.slots.get k).sameJar ((completeListening s).slots.get k)) := by
  unfold completeListening
  dsimp only
  split
  · rw [enterRun_eq]
    obtain ⟨hopens, hstays⟩ := entries_slot (State.rearmed { s with
      unit := { s.unit with held := .clear, listen := 0 }, announce := { s.announce with stage := .none } }) k
    refine ⟨fun hwindow => hopens hk hidle hwindow, fun hwindow => ?_⟩
    have hslot := hstays fun h => Bool.false_ne_true (hwindow.symm.trans h.2.2)
    exact hslot ▸ .refl _
  · obtain ⟨hopens, hstays⟩ := @enterStand_slot { s with
      unit := { s.unit with held := .clear, listen := 0 }, announce := { s.announce with stage := .none } } k hk
    refine ⟨fun hwindow => hopens hidle hwindow, fun hwindow => ?_⟩
    have hslot := hstays (.inr hwindow)
    exact hslot ▸ .refl _
  · exact @enterSafe_slot { s with
      unit := { s.unit with held := .clear, listen := 0 }, announce := { s.announce with stage := .none } } k hclosure
      hidle hk

theorem Act.stage_none (h : Act j s t) (hs : s.announce.stage = .none) : t.announce.stage = .none := by
  cases h with
  | background h => exact h.toMoves.stage (by decide) hs
  | own h => rw [h.announce]; exact hs
  | announce | cancel => exact hs

theorem completeListening_stage (s : State) : (completeListening s).announce.stage = .none := by
  unfold completeListening
  dsimp only
  split
  · rw [enterRun_eq]
    rfl
  · rw [enterStand_eq]
  · rw [enterSafe_eq]
    exact (Works.foldl (fun x j => (@Acts.refl j x).safeHead.works) _ _).preserve (fun _ _ _ => Act.stage_none) rfl

theorem State.travel_congr (htracker : t.tracker = s.tracker) (hsettings : t.settings = s.settings)
    (hp0 : t.unit.p0 = s.unit.p0) (k : Fin 4) : t.travel k = s.travel k := by
  simp only [State.travel, State.pocketOf, State.pocketCount, State.profileField_congr hsettings, htracker, hp0]

/-- The pulse that brings the listen count to P completes the listening of a station that the pulse has counted. -/
theorem exec_listeningComplete (dt : Nat) (pins : Levels) (hreset : s.inReset = none) (hbegun : s.tracker.begun = true)
    (hmode : s.unit.mode = .announce) (hstage : s.announce.stage = .listening)
    (hlast : s.pocketCount ≤ s.unit.listen + 1) :
    ∃ x, exec (.listeningComplete dt pins) s = .next (completeListening x)
      ∧ x.unit = { s.unit with holdOff := s.unit.holdOff - 1, listen := s.unit.listen + 1 } ∧ x.ground = s.ground
      ∧ x.receive = s.receive ∧ (∀ f, x.profileField f = s.profileField f) ∧ ∀ k p, Vacant k p s → Vacant k p x := by
  have hbefore := pulseBefore_of dt pins hreset
  have hlistens : s.listens = true := (State.listens_iff s).2 ⟨hmode, hstage⟩
  have hvacant {k : Fin 4} {p : Option Nat} (h : Vacant k p s) : Vacant k p (s.atEdge dt pins).paced :=
    (h.atEdge dt pins).paced
  have hexec := pulseRow_next dt pins hreset hbegun
    (show s.listenEnds = true by simp [State.listenEnds, hbegun, hlistens, hlast])
  rw [takePitch_eq] at hexec
  generalize (s.atEdge dt pins).paced = y at hbefore hvacant hexec
  have hoff (x : State) : (completeListening x).countsLearning = false := by
    rw [← Bool.not_eq_true, State.countsLearning_iff]
    exact fun h => completeListening_mode x h.1
  rw [listenPulse_last (hbefore.listening.trans hlistens) (by rw [hbefore.unit, hbefore.pocketCount]; exact hlast),
    learnPulse_off (hoff _)] at hexec
  exact ⟨_, hexec, by rw [hbefore.unit], hbefore.ground, hbefore.receive, hbefore.profile,
    fun k p h => (hvacant h).congr rfl rfl rfl⟩

end

/-- Settles O9: the pulse leaves an empty head's slot IDLE, and the entry decides it by the travel after the pulse. -/
theorem listeningCompletesByTheHeldMark : Obligations.ListeningCompletesByTheHeldMark := by
  unfold Obligations.ListeningCompletesByTheHeldMark
  intro dt pins s hreset hbegun hmode hstage hlast
  obtain ⟨x, hexec, hx, hground, hreceive, hprofile, hvacancy⟩ :=
    exec_listeningComplete dt pins hreset hbegun hmode hstage hlast
  have hstill := completeListening_still x
  obtain ⟨htracker, hunit, hreceive', -, hsettings, -⟩ := State.still_fields hstill
  have hground' := State.ground_of_still hstill
  have hunit' : (completeListening x).unit = { x.unit with mode := x.unit.held.mode, held := .clear, listen := 0 } := hunit
  rw [hx] at hunit'
  refine ⟨_, hexec, hunit', completeListening_stage x, hground'.trans hground, hreceive'.trans hreceive,
    fun k hk hidle hclosure => ?_⟩
  have hvacant : Vacant k (s.slots.get k).pocket x := hvacancy k _ ⟨by rw [hmode]; rfl, hclosure, hidle, rfl⟩
  have hhead : x.hasHead k = true := (State.hasHead_congr (hprofile _) k).trans hk
  obtain ⟨hopens, hstays⟩ := completeListening_slot hvacant.closure hvacant.slot hhead
  have hp0 : (completeListening x).unit.p0 = x.unit.p0 := by rw [hunit', hx]
  have htravel : (completeListening x).travel k = x.travel k := State.travel_congr htracker hsettings hp0 k
  have hwindow : x.inWindow k = true
      ↔ s.discharge ≤ (completeListening x).travel k ∨ (completeListening x).travel k < s.intakeClose := by
    rw [inWindow_iff, htravel, State.discharge, State.intakeClose, hprofile, hprofile]
    exact Iff.rfl
  refine ⟨fun h => ?_, fun h => ?_⟩
  · rw [hopens (hwindow.2 h), Slot.reopen, hvacant.pocket]
  · have hjar := hstays (Bool.eq_false_iff.2 (mt hwindow.1 h))
    exact ⟨hjar.state.trans hvacant.slot, hjar.pocket.trans hvacant.pocket⟩

end Sys2Proof.Machine

/-! PROOFS. Saturation of the elapsed time and the stall: the asks end, the flushes are cut (R2, R10, R93, R103). -/

namespace Sys2Proof.Machine
open Sys2Proof

section
variable {s t : State} {j k : Fin 4}

/-- What each step gives up, and the step at `k` always, a fold over `k` gives up. -/
theorem foldl_clears {P : State → Prop} {f : State → Fin 4 → State} (hf : ∀ s j, P (f s j) → P s ∧ j ≠ k)
    {l : List (Fin 4)} (hk : k ∈ l) (s : State) : ¬P (l.foldl f s) := by
  have hlowers (l : List (Fin 4)) (x : State) (h : P (l.foldl f x)) : P x ∧ k ∉ l := by
    induction l generalizing x with
    | nil => exact ⟨h, nofun⟩
    | cons j l ih =>
      obtain ⟨hnext, hl⟩ := ih _ h
      obtain ⟨hx, hj⟩ := hf x j hnext
      exact ⟨hx, by rw [List.mem_cons, not_or]; exact ⟨Ne.symm hj, hl⟩⟩
  exact fun h => (hlowers l s h).2 hk

theorem foldl_lowers {P : State → Prop} {f : State → Fin 4 → State} (hf : ∀ s j, P (f s j) → P s)
    (l : List (Fin 4)) {s : State} (h : P (l.foldl f s)) : P s := by
  induction l generalizing s with
  | nil => exact h
  | cons j l ih => exact hf s j (ih h)

/-! ## Asks for steam (R103) -/

/-- Head `k` asks for steam. -/
def State.asksSteam (s : State) (k : Fin 4) : Prop :=
  (s.engines.get k).phase = .steamWait ∧ (s.engines.get k).asking = true

/-- Grants give no head an ask. -/
theorem Move.asksSteam (h : Move false s t) (k : Fin 4) (ht : t.asksSteam k) : s.asksSteam k := by
  cases h with
  | grant j _ _ _ _ _ =>
    by_cases hkj : k = j
    · subst hkj
      obtain ⟨hp, -⟩ := ht
      simp only [modEngine_engines, Four.get_modify_same, modDraw_engines, enqueue_engines] at hp
      unfold Engine.granted at hp
      cases hphase : (s.engines.get k).phase <;> simp [hphase] at hp
    · simpa [State.asksSteam, Four.get_modify_other _ _ hkj] using ht
  | withdraw _ hw => exact absurd hw Bool.false_ne_true
  | consult | refuse | position | reannounce | offer | queued | waiting | closed => exact ht

theorem Moves.asksSteam (h : Moves false s t) (k : Fin 4) (ht : t.asksSteam k) : s.asksSteam k := by
  induction h with
  | refl => exact ht
  | tail _ hmove ih => exact ih (hmove.asksSteam k ht)

theorem offerClose_engines (k : Fin 4) (c : DrawClass) (s : State) : (offerClose k c s).engines = s.engines := by
  unfold offerClose
  split
  · rfl
  · split <;> rfl

/-- A close changes no engine of its own; what follows it are offers and grants. -/
theorem closeDraw_moves (k : Fin 4) (s : State) : ∃ v, v.engines = s.engines ∧ Moves false v (closeDraw k s) := by
  unfold closeDraw
  split
  · exact ⟨s, rfl, .refl⟩
  · next a _ =>
    split
    · split
      · exact ⟨modDraw k (OwnDraw.ended none) s, rfl, moves_arbiter _ _⟩
      · exact ⟨offerClose k a.cls (modDraw k (OwnDraw.ended none) s), offerClose_engines _ _ _, moves_arbiter _ _⟩
      · split
        · exact ⟨modDraw k (OwnDraw.ended none) (removeDrawOpen k s), rfl, (moves_queueRemoval _).trans (moves_arbiter _ _)⟩
        · exact ⟨offerClose k a.cls (modDraw k (OwnDraw.ended none) s), offerClose_engines _ _ _, moves_arbiter _ _⟩
    · exact ⟨s, rfl, .refl⟩

theorem stallAsk_acts (s : State) (k : Fin 4) : Acts k s (stallAsk s k) := by
  unfold stallAsk
  split
  · exact (Acts.refl.engine _).draw _
  · exact .refl

theorem stallAsk_clears (s : State) (j : Fin 4) (h : (stallAsk s j).asksSteam k) : s.asksSteam k ∧ j ≠ k := by
  unfold stallAsk at h
  split at h
  · by_cases hkj : k = j
    · subst hkj
      simp [State.asksSteam] at h
    · exact ⟨by simpa [State.asksSteam, Four.get_modify_other _ _ hkj] using h, Ne.symm hkj⟩
  · next hnot =>
    refine ⟨h, fun he => ?_⟩
    subst he
    exact hnot h

theorem endFlush_asks (kind : FlushEnd) (h : (endFlush j kind s).asksSteam k) : s.asksSteam k ∧ j ≠ k := by
  by_cases hkj : k = j
  · subst hkj
    simp [State.asksSteam, endFlush] at h
  · obtain ⟨v, hv, hmoves⟩ := closeDraw_moves j (writeRecord j (fun r => { r with flushEnd := kind })
      (modEngine j (fun x => { x with steam := false }) s))
    have hclosed : (closeDraw j (writeRecord j (fun r => { r with flushEnd := kind })
        (modEngine j (fun x => { x with steam := false }) s))).asksSteam k := by
      simpa [State.asksSteam, endFlush, Four.get_modify_other _ _ hkj] using h
    have hbefore := hmoves.asksSteam k hclosed
    exact ⟨by simpa [State.asksSteam, hv, Four.get_modify_other _ _ hkj] using hbefore, Ne.symm hkj⟩

theorem stallFlush_asks (s : State) (j : Fin 4) (h : (stallFlush s j).asksSteam k) : s.asksSteam k := by
  unfold stallFlush at h
  split at h
  · exact (endFlush_asks _ h).1
  · exact h

/-! ## Flushes (R93) -/

theorem stallFlush_acts (s : State) (k : Fin 4) : Acts k s (stallFlush s k) := by
  unfold stallFlush
  split
  · exact Acts.refl.endFlush _
  · exact .refl

theorem stallFlush_clears (s : State) (j : Fin 4) (h : ((stallFlush s j).engines.get k).phase = .flush) :
    (s.engines.get k).phase = .flush ∧ j ≠ k := by
  by_cases hkj : k = j
  · subst hkj
    unfold stallFlush at h
    split at h
    · simp [endFlush] at h
    · next hnot => exact absurd h hnot
  · exact ⟨((stallFlush_acts s j).bystander hkj).engine.flush.1 h, Ne.symm hkj⟩

theorem phaseReports_acts (s : State) (k : Fin 4) : Acts k s (phaseReports s k) := by
  unfold phaseReports
  split
  · exact Acts.refl.reportRise
  · exact .refl

/-! ## The stall -/

/-- The station once the asks have ended. -/
def State.standing (s : State) : State :=
  s.heads.foldl stallAsk { s with tracker := { s.tracker with motion := .stalled, stage := 0 } }

theorem standing_works (s : State) :
    Works { s with tracker := { s.tracker with motion := .stalled, stage := 0 } } s.standing :=
  .foldl (fun x j => (stallAsk_acts x j).works) _ _

theorem standing_hasHead (s : State) (k : Fin 4) : s.standing.hasHead k = s.hasHead k := by
  obtain ⟨-, -, -, -, hsettings, -⟩ := State.still_fields (standing_works s).still
  exact State.hasHead_congr (State.profileField_congr hsettings _) k

/-- The order in which the flushes are cut. -/
def State.cutOrder (s : State) : List (Fin 4) :=
  freely s.standing (s.standing.heads.filter (fun k => decide ((s.standing.engines.get k).phase = .flush)))

theorem enterStalled_eq (s : State) : enterStalled s = s.cutOrder.foldl stallFlush (consulted s.standing) := rfl

theorem mem_cutOrder : k ∈ s.cutOrder ↔ s.hasHead k = true ∧ (s.standing.engines.get k).phase = .flush := by
  rw [State.cutOrder, (freely_perm _ _).mem_iff, List.mem_filter, State.mem_heads, standing_hasHead, decide_eq_true_eq]

theorem nodup_cutOrder (s : State) : s.cutOrder.Nodup :=
  (freely_perm _ _).nodup_iff.2 (s.standing.nodup_heads.filter _)

theorem enterStalled_works (s : State) :
    Works { s with tracker := { s.tracker with motion := .stalled, stage := 0 } } (enterStalled s) := by
  rw [enterStalled_eq]
  exact ((standing_works s).trans (consulted_works _)).trans (.foldl (fun x j => (stallFlush_acts x j).works) _ _)

/-- No head of the station flushes while the turret stands. -/
theorem enterStalled_flush (hk : s.hasHead k = true) : ((enterStalled s).engines.get k).phase ≠ .flush := by
  rw [enterStalled_eq]
  by_cases hmem : k ∈ s.cutOrder
  · exact @foldl_clears k (fun x => (x.engines.get k).phase = .flush) stallFlush (fun x j h => stallFlush_clears x j h)
      _ hmem _
  · intro h
    have hbefore := @foldl_lowers (fun x => (x.engines.get k).phase = .flush) stallFlush
      (fun x j h => (stallFlush_clears x j h).1) _ _ h
    exact hmem (mem_cutOrder.2 ⟨hk, hbefore⟩)

theorem enterStalled_asks (hk : s.hasHead k = true) : ¬(enterStalled s).asksSteam k := by
  rw [enterStalled_eq]
  intro h
  have hbefore : s.standing.asksSteam k := @foldl_lowers (fun x => x.asksSteam k) stallFlush
    (fun x j h => stallFlush_asks x j h) s.cutOrder (consulted s.standing) h
  exact @foldl_clears k (fun x => x.asksSteam k) stallAsk (fun x j h => stallAsk_clears x j h) _
    (State.mem_heads.2 hk) _ hbefore

/-- A quiet head rests while other heads act. -/
theorem foldl_rests {f : State → Fin 4 → State} (hf : ∀ s j, Acts j s (f s j)) {l : List (Fin 4)} (hk : k ∉ l)
    (hs : s.quiet k) : Rests k s (l.foldl f s) :=
  @foldl_relates _ k (Rests k) f (Rests.refl k) (fun h h' => h.trans h') (fun s => s.quiet k) (fun h => h.quiet)
    (fun s j hkj hq => (hf s j).rests hkj hq) l hk hs

/-- What a stall leaves of a head that flushed: its flush cut, in SEAT, its draw closed. -/
structure CutShort (k : Fin 4) (s t : State) : Prop where
  phase   : (t.engines.get k).phase = .seat
  steam   : (t.engines.get k).steam = false
  press   : (t.engines.get k).press = true
  samples : (t.engines.get k).samples = 0
  status  : (t.draws.get k).status = .none
  ask     : (t.draws.get k).ask = none
  jar     : ({ s.slots.get k with record := { (s.slots.get k).record with flushEnd := .cut } } : Slot).sameJar
    (t.slots.get k)

theorem CutShort.rests {u : State} (h : CutShort k s t) (h' : Rests k t u) : CutShort k s u := by
  obtain ⟨p, hp⟩ := h'.draw
  obtain ⟨hphase, hsteam, hpress, hsamples, hstatus, hask, hjar⟩ := h
  exact ⟨by rw [h'.engine]; exact hphase, by rw [h'.engine]; exact hsteam, by rw [h'.engine]; exact hpress,
    by rw [h'.engine]; exact hsamples, by rw [hp]; exact hstatus, by rw [hp]; exact hask, hjar.trans h'.jar⟩

theorem Rests.cutShort {u : State} (h : Rests k s t) (h' : CutShort k t u) : CutShort k s u := by
  obtain ⟨hphase, hsteam, hpress, hsamples, hstatus, hask, hjar⟩ := h'
  refine ⟨hphase, hsteam, hpress, hsamples, hstatus, hask, Slot.sameJar.trans ?_ hjar⟩
  exact @Slot.sameJar.onRecord _ _ (fun r => { r with flushEnd := .cut }) h.jar fun _ _ _ _ => rfl

theorem OwnDraw.isOpen_not_pending {d : OwnDraw} (h : d.isOpen = true) : d.status ≠ .pending := by
  intro hp
  rw [OwnDraw.isOpen_pending hp] at h
  exact Bool.false_ne_true h

theorem quiet_of_open (hlawful : (s.draws.get k).lawful = true) (hopen : (s.draws.get k).isOpen = true) : s.quiet k := by
  refine ⟨?_, OwnDraw.isOpen_not_pending hopen⟩
  rw [Option.eq_none_iff_forall_ne_some]
  intro a ha
  rw [OwnDraw.isOpen_none (OwnDraw.lawful_asks hlawful ha)] at hopen
  exact Bool.false_ne_true hopen

theorem stallAsks_rest (l : List (Fin 4)) (hphase : (s.engines.get k).phase = .flush) (hquiet : s.quiet k) :
    Rests k s (l.foldl stallAsk s) := by
  induction l generalizing s with
  | nil => exact .refl k s
  | cons j l ih =>
    have hstep : Rests k s (stallAsk s j) := by
      by_cases hkj : k = j
      · subst hkj
        have hself : stallAsk s k = s := if_neg fun h => absurd (hphase.symm.trans h.1) (by decide)
        rw [hself]
        exact .refl k s
      · exact (stallAsk_acts s j).rests hkj hquiet
    exact hstep.trans (ih (by rw [hstep.engine]; exact hphase) (hstep.quiet hquiet))

theorem standing_rests (hphase : (s.engines.get k).phase = .flush) (hquiet : s.quiet k) : Rests k s s.standing := by
  have hrests := @stallAsks_rest { s with tracker := { s.tracker with motion := .stalled, stage := 0 } } k s.heads hphase
    hquiet
  exact ⟨hrests.engine, hrests.draw, hrests.jar⟩

/-- The flush of a head with a lawful open draw is cut (R93, R94, R152). -/
theorem enterStalled_cuts {a : Ask} (hk : s.hasHead k = true) (hphase : (s.engines.get k).phase = .flush)
    (hbound : (s.slots.get k).state = .bound) (hquiet : s.quiet k) (hopen : (s.draws.get k).isOpen = true)
    (hterms : (s.draws.get k).terms = some a) : CutShort k s (enterStalled s) := by
  have hstanding := standing_rests hphase hquiet
  have hconsulted : Rests k s (consulted s.standing) := ⟨hstanding.engine, hstanding.draw, hstanding.jar⟩
  have hmem : k ∈ s.cutOrder := mem_cutOrder.2 ⟨hk, by rw [hstanding.engine]; exact hphase⟩
  obtain ⟨l₁, l₂, h₁, h₂, hsplit⟩ := foldl_split stallFlush hmem (nodup_cutOrder s) (consulted s.standing)
  have hbefore : Rests k s (l₁.foldl stallFlush (consulted s.standing)) :=
    hconsulted.trans (foldl_rests stallFlush_acts h₁ (hconsulted.quiet hquiet))
  have hturn : CutShort k (l₁.foldl stallFlush (consulted s.standing))
      (stallFlush (l₁.foldl stallFlush (consulted s.standing)) k) := by
    obtain ⟨p, hp⟩ := hbefore.draw
    obtain ⟨hengine, hjar, hstatus, hask, -⟩ := @endFlush_ends k (l₁.foldl stallFlush (consulted s.standing)) a .cut
      (hbefore.jar.state.trans hbound) (by rw [hp]; exact hopen) (by rw [hp]; exact hterms)
    have hends : stallFlush (l₁.foldl stallFlush (consulted s.standing)) k
        = endFlush k .cut (l₁.foldl stallFlush (consulted s.standing)) := if_pos (by rw [hbefore.engine]; exact hphase)
    rw [hends]
    exact ⟨by rw [hengine], by rw [hengine], by rw [hengine], by rw [hengine], hstatus, hask, hjar⟩
  have hafter := @foldl_rests (stallFlush (l₁.foldl stallFlush (consulted s.standing)) k) k stallFlush stallFlush_acts l₂ h₂
    ⟨hturn.ask, by rw [hturn.status]; exact nofun⟩
  rw [enterStalled_eq, hsplit]
  exact hbefore.cutShort (hturn.rests hafter)

/-! ## What φ reaches on the way (R13) -/

theorem allPhaseReports_works (s : State) : Works s (allPhaseReports s) :=
  (consulted_works s).trans (.foldl (fun x j => (phaseReports_acts x j).works) _ _)

/-- A quiet head with nothing to report rests while the others report. -/
theorem allPhaseReports_rests (hdue : s.hasDue k = false) (hquiet : s.quiet k) : Rests k s (allPhaseReports s) := by
  have hk : k ∉ freely s (headIndexes.filter s.hasDue) := by
    rw [(freely_perm _ _).mem_iff, List.mem_filter, hdue]
    exact fun h => Bool.false_ne_true h.2
  have hrests := @foldl_rests (consulted s) k phaseReports phaseReports_acts _ hk hquiet
  exact ⟨hrests.engine, hrests.draw, hrests.jar⟩

end

/-- Settles O14: e saturates by the passing of time alone; the stall ends the asks and cuts the flushes head by head. -/
theorem saturationAndStall : Obligations.SaturationAndStall := by
  unfold Obligations.SaturationAndStall
  refine ⟨fun s hreset he => ?_, fun s hreset hbegun hturning => ?_⟩
  · have helapsed (n : Nat) : (elapse (262143 - s.tracker.e + n) s).tracker = { s.tracker with e := 262143 } := by
      have hmin : min eSaturated (s.tracker.e + (262143 - s.tracker.e + n)) = 262143 := by
        unfold eSaturated
        omega
      rw [elapse_tracker _ s hreset, Tracker.elapse, hmin]
    exact ⟨congrArg Host.Outcome.next (unlessReset_out _ s hreset), helapsed 0, fun n => by rw [helapsed]⟩
  · let x := elapse (s.stallLimit - s.tracker.e) s
    have hexec : exec .stall s = .next (enterStalled (allPhaseReports x)) := by
      have harm : exec .stall s = execStall s := rfl
      rw [harm, execStall, unlessReset_out _ s hreset, whenever_true _ _ s (by simp [hbegun, hturning])]
    have hreports := allPhaseReports_works x
    have hstalls := enterStalled_works (allPhaseReports x)
    have hsteady := elapse_steady (s.stallLimit - s.tracker.e) s
    obtain ⟨htracker, -, -, -, hsettings, -⟩ := State.still_fields hreports.still
    obtain ⟨htracker', hunit', hreceive', hview', -⟩ := State.still_fields hstalls.still
    have hground' := State.ground_of_still hstalls.still
    have helapsed := elapse_tracker (s.stallLimit - s.tracker.e) s hreset
    have hhead (k : Fin 4) (hk : s.hasHead k = true) : (allPhaseReports x).hasHead k = true :=
      (State.hasHead_congr ((State.profileField_congr hsettings _).trans (elapse_profileField s _)) k).trans hk
    refine ⟨_, hexec, ?_, fun k hk => ⟨enterStalled_flush (hhead k hk), fun hwait => ?_⟩,
      fun hlawful k a hk hphase hbound hopen hterms hdue => ?_, hunit'.trans (hreports.steady.unit.trans hsteady.unit),
      hview'.trans (hreports.steady.view.trans hsteady.view),
      hground'.trans (hreports.steady.ground.trans hsteady.ground),
      hreceive'.trans (hreports.steady.receive.trans hsteady.receive)⟩
    · rw [htracker', htracker]
      show { x.tracker with motion := Motion.stalled, stage := 0 } = _
      rw [helapsed]
      rfl
    · exact Bool.eq_false_iff.2 fun hasks => enterStalled_asks (hhead k hk) ⟨hwait, hasks⟩
    · obtain ⟨m, hengine⟩ := elapse_engine (s.stallLimit - s.tracker.e) s k
      have hdraws : x.draws = s.draws := elapse_draws _ s
      have hslots : x.slots = s.slots := elapse_slots _ s
      have hquiet : x.quiet k := by
        rw [State.quiet, hdraws]
        exact quiet_of_open (hlawful k) hopen
      have hrests := allPhaseReports_rests hdue hquiet
      obtain ⟨p, hp⟩ := hrests.draw
      have hcut := hrests.cutShort (enterStalled_cuts (hhead k hk) (by rw [hrests.engine, hengine]; exact hphase)
        (hrests.jar.state.trans (by rw [hslots]; exact hbound)) (hrests.quiet hquiet)
        (by rw [hp, hdraws]; exact hopen) (by rw [hp, hdraws]; exact hterms))
      obtain ⟨_, _, _, hrecord⟩ := hcut.jar.record
      rw [hrecord]
      refine ⟨hcut.phase, hcut.steam, hcut.press, hcut.samples, hcut.jar.state.trans (by rw [hslots]; exact hbound), rfl, ?_,
        hcut.status, hcut.ask⟩
      rw [hslots]

end Sys2Proof.Machine

/-! PROOFS. A close countdown: what a class's countdown of a head outlives, and the pulse that brings it to 0 (R139, R153). -/

namespace Sys2Proof.Machine
open Sys2Proof

theorem PerClass.get_put_other {α : Type} (p : PerClass α) {c d : DrawClass} (x : α) (h : d ≠ c) :
    (p.put d x).get c = p.get c := by
  cases c with
  | steam =>
    cases d with
    | steam => exact absurd rfl h
    | drive => rfl
  | drive =>
    cases d with
    | steam => rfl
    | drive => exact absurd rfl h

theorem PerClass.get_put_same {α : Type} (p : PerClass α) (c : DrawClass) (x : α) : (p.put c x).get c = x := by
  cases c <;> rfl

/-! ## A countdown that runs on (R153) -/

/-- A draw that neither asks nor draws in a class, whose close countdown in it stands at `n`. -/
structure OwnDraw.Counts (c : DrawClass) (n : Nat) (d : OwnDraw) : Prop where
  ask   : d.ask.map Ask.cls ≠ some c
  terms : d.terms.map Ask.cls ≠ some c
  count : d.countdown.get c = n

section
variable {s t : State} {j k : Fin 4} {c : DrawClass} {n : Nat}

theorem OwnDraw.Counts.ended {d : OwnDraw} {a : Option Ask} (h : d.Counts c n) (ha : a = none ∨ a = d.terms) :
    (OwnDraw.ended a d).Counts c n := by
  refine ⟨?_, nofun, h.count⟩
  rcases ha with ha | ha
  · rw [ha]; exact nofun
  · rw [ha]; exact h.terms

theorem OwnDraw.Counts.granted {d : OwnDraw} {a : Ask} (life : Nat) (h : d.Counts c n) (hask : d.ask = some a) :
    (OwnDraw.granted a life d).Counts c n := by
  have hcls : a.cls ≠ c := fun he => h.ask (by rw [hask, ← he]; rfl)
  exact ⟨nofun, fun he => hcls (Option.some.inj he), (PerClass.get_put_other _ _ hcls).trans h.count⟩

theorem Move.counts {w : Bool} (h : Move w s t) (hs : (s.draws.get k).Counts c n) : (t.draws.get k).Counts c n := by
  cases h with
  | closed j d =>
    by_cases hkj : k = j
    · subst hkj
      rw [modDraw_draws, Four.get_modify_same]
      exact ⟨hs.ask, hs.terms, hs.count⟩
    · rw [modDraw_draws, Four.get_modify_other _ _ hkj]
      exact hs
  | grant j a _ hask _ _ =>
    by_cases hkj : k = j
    · subst hkj
      rw [modEngine_draws, modDraw_draws, Four.get_modify_same]
      exact hs.granted _ hask
    · rw [modEngine_draws, modDraw_draws, Four.get_modify_other _ _ hkj]
      exact hs
  | withdraw j _ _ _ =>
    by_cases hkj : k = j
    · subst hkj
      rw [withdrawDraw, modEngine_draws, modDraw_draws, Four.get_modify_same]
      exact hs.ended (s.restoredAsk_cases _)
    · rw [withdrawDraw, modEngine_draws, modDraw_draws, Four.get_modify_other _ _ hkj]
      exact hs
  | consult | refuse | position | reannounce | offer | queued | waiting => exact hs

theorem Moves.counts {w : Bool} (h : Moves w s t) (hs : (s.draws.get k).Counts c n) : (t.draws.get k).Counts c n :=
  h.preserve (fun _ _ hmove => hmove.counts) hs

theorem Acts.counts (h : Acts j s t) (hkj : k ≠ j) (hs : (s.draws.get k).Counts c n) : (t.draws.get k).Counts c n := by
  induction h with
  | refl => exact hs
  | tail _ hact ih =>
    cases hact with
    | background h => exact h.counts ih
    | own h => rw [h.draws k hkj]; exact ih
    | announce | cancel => exact ih

theorem closeDraw_counts (hs : (s.draws.get k).Counts c n) : ((closeDraw k s).draws.get k).Counts c n := by
  cases hterms : (s.draws.get k).terms with
  | none => rwa [closeDraw_no_terms hterms]
  | some a =>
    rcases Bool.eq_false_or_eq_true (s.draws.get k).isOpen with hopen | hopen
    · obtain ⟨p, hp⟩ := (closeDraw_closes hopen hterms).draw
      rw [hp]
      exact ⟨nofun, nofun, hs.count⟩
    · rwa [closeDraw_idle hopen]

theorem endPhase_counts (kind : TorqueEnd) (out : Bool) (f : Channel → Channel) (hs : (s.draws.get k).Counts c n) :
    ((endPhase k kind out f s).draws.get k).Counts c n := by
  unfold endPhase torqueEnded
  split
  · rw [toDwell_draws]
    exact @closeDraw_counts (modChannel k f (writeRecord k _ s)) k c n hs
  · exact hs

theorem tripOvercurrent_counts (j : Fin 4) (hs : (s.draws.get k).Counts c n) :
    ((tripOvercurrent j s).draws.get k).Counts c n := by
  by_cases hkj : k = j
  · subst hkj
    have hcleared : ((clearForcedDrive k s).draws.get k).Counts c n := by rw [clearForcedDrive_draws]; exact hs
    unfold tripOvercurrent
    split
    · split
      · exact endPhase_counts _ _ _ hcleared
      · split <;> exact hcleared
    · exact hs
  · exact (@Acts.refl j s).tripOvercurrent.counts hkj hs

/-- A resumption asks for steam: the countdown of the other class runs on. -/
theorem resumeHead_counts (j : Fin 4) (hs : (s.draws.get k).Counts .drive n) :
    ((resumeHead s j).draws.get k).Counts .drive n := by
  by_cases hkj : k = j
  · subst hkj
    unfold resumeHead beginAsk takeAsk
    split
    · split
      · exact hs
      · split
        · refine Moves.counts (@moves_arbiter false .steam _) ?_
          rw [modDraw_draws, Four.get_modify_same]
          exact ⟨by rw [Option.map_some, State.askOf_cls]; exact nofun, hs.terms, hs.count⟩
        · exact hs
    · exact hs
  · exact (resumeHead_acts s j).counts hkj hs

theorem foldl_counts {f : State → Fin 4 → State} (hf : ∀ x j, (x.draws.get k).Counts c n → ((f x j).draws.get k).Counts c n)
    (l : List (Fin 4)) (hs : (s.draws.get k).Counts c n) : ((l.foldl f s).draws.get k).Counts c n := by
  induction l generalizing s with
  | nil => exact hs
  | cons j l ih => exact ih (hf s j hs)

/-! ## A head that reports nothing -/

/-- Head `k`'s list, its marks and the turret are the same. -/
structure SameList (k : Fin 4) (s t : State) : Prop where
  marks   : (t.tracks.get k).marks = (s.tracks.get k).marks
  recipe  : (t.engines.get k).recipe = (s.engines.get k).recipe
  tracker : t.tracker = s.tracker
  unit    : t.unit = s.unit
  ground  : t.ground = s.ground

namespace SameList

theorem refl (k : Fin 4) (s : State) : SameList k s s := ⟨rfl, rfl, rfl, rfl, rfl⟩

theorem trans {u : State} (h : SameList k s t) (h' : SameList k t u) : SameList k s u :=
  ⟨h'.marks.trans h.marks, h'.recipe.trans h.recipe, h'.tracker.trans h.tracker, h'.unit.trans h.unit,
    h'.ground.trans h.ground⟩

theorem of_bystander (h : Bystander k s t) : SameList k s t := by
  obtain ⟨htracker, hunit, -⟩ := State.still_fields h.still
  exact ⟨congrArg Track.marks h.track, h.engine.recipe, htracker, hunit, State.ground_of_still h.still⟩

theorem due (h : SameList k s t) (limit : Option Nat) : t.due k limit = s.due k limit := by
  have hvalue (y : Threshold) : t.thresholdValue k y = s.thresholdValue k y := thresholdValue_congr y h.ground h.recipe
  have hpockets : t.pocketCount = s.pocketCount := State.profileField_ground h.ground _
  have hunreached (y : Threshold) : t.unreached k y = s.unreached k y := by
    simp only [State.unreached, State.onList, State.reached, h.marks, h.recipe, hvalue, hpockets]
  simp only [State.due, hvalue, hunreached]

theorem travel (h : SameList k s t) : t.travel k = s.travel k := by
  have hpockets : t.pocketCount = s.pocketCount := State.profileField_ground h.ground _
  simp only [State.travel, State.pocketOf, hpockets, h.tracker, h.unit]

theorem passes (h : SameList k s t) : t.passes k = s.passes k := by
  unfold State.passes State.pocketOf
  rw [h.tracker, h.unit]

theorem travelDefined (h : SameList k s t) : t.travelDefined k = s.travelDefined k := by
  have hheads : t.headCount = s.headCount := State.profileField_ground h.ground _
  simp only [State.travelDefined, State.hasHead, hheads, h.unit]

theorem reportsAtPulse (h : SameList k s t) : t.reportsAtPulse k = s.reportsAtPulse k := by
  have hclose : t.intakeClose = s.intakeClose := State.profileField_ground h.ground _
  simp only [State.reportsAtPulse, h.travelDefined, h.due, h.travel, h.passes, hclose]

theorem resumeHead (s : State) (j : Fin 4) : SameList k s (resumeHead s j) := by
  by_cases hkj : k = j
  · subst hkj
    unfold Machine.resumeHead beginAsk takeAsk
    split
    · split
      · exact .refl k s
      · split
        · refine SameList.trans ?_ (of_bystander (Moves.bystander (@moves_arbiter false .steam _) k))
          exact ⟨rfl, by rw [modDraw_engines, modEngine_engines, Four.get_modify_same], rfl, rfl, rfl⟩
        · exact ⟨rfl, by rw [modEngine_engines, Four.get_modify_same], rfl, rfl, rfl⟩
    · exact .refl k s
  · exact of_bystander ((resumeHead_acts s j).bystander hkj)

end SameList

theorem due_none_empty (h : s.due k none = []) (limit : Option Nat) : s.due k limit = [] := by
  refine List.eq_nil_iff_forall_not_mem.2 fun y hy => ?_
  have hnone : y ∈ s.due k none := mem_due.2 ⟨(mem_due.1 hy).1, nofun⟩
  rw [h] at hnone
  exact List.not_mem_nil hnone

/-- Reports of the discharge alone touch no draw. -/
theorem reportDue_discharge_draws {limit : Option Nat} (m : Nat) (h : ∀ x ∈ s.due k limit, x = .discharge) :
    (reportDue k limit m s).draws = s.draws := by
  induction m generalizing s with
  | zero => rfl
  | succ m ih =>
    cases hdue : s.due k limit with
    | nil => rw [reportDue_empty _ hdue]
    | cons x rest =>
      have hx : x = .discharge := h x (by rw [hdue]; exact List.mem_cons_self)
      subst hx
      obtain ⟨-, hdraws, -⟩ := slotDischarge_rest k (markReached k .discharge s)
      have hground : (report k .discharge s).ground = s.ground := (Acts.report .discharge Acts.refl).steady.ground
      rw [reportDue_cons m hdue, ih fun y hy => h y (due_after hground (relists_report k s (by decide)) hy).1]
      exact hdraws

theorem Marks.get_newPass (m : Marks) {y : Threshold} (hc : y ≠ .intakeClose) (hd : y ≠ .discharge) :
    m.newPass.get y = m.get y := by
  cases y with
  | intakeClose => exact absurd rfl hc
  | discharge => exact absurd rfl hd
  | cap | fe | fl | fx | dl | rel => rfl

/-- The travel at the pulse that counts C to a head's pocket, where a threshold can be due at all. -/
theorem travel_at_pass (hpasses : s.passes k = true) (hphi : s.tracker.phi = 0) (hp : 0 < s.pocketCount) :
    s.travel k = 0 := by
  simp only [State.passes, Bool.and_eq_true, decide_eq_true_eq] at hpasses
  have hmod : minusMod s.pocketCount s.tracker.c (s.pocketOf k) = 0 := by
    rw [hpasses.2]
    unfold minusMod
    have hlt := Nat.mod_lt (s.pocketOf k) hp
    have hdiv := Nat.div_add_mod (s.pocketOf k) s.pocketCount
    have heq : s.pocketOf k + (s.pocketCount - s.pocketOf k % s.pocketCount)
        = s.pocketCount * (s.pocketOf k / s.pocketCount + 1) := by
      rw [Nat.mul_add]
      omega
    rw [heq]
    exact Nat.mul_mod_right _ _
  rw [State.travel, hmod, hphi]

/-- A new pass of a head that had nothing left to report reaches the discharge at most. -/
theorem newPass_draws (hdue : s.due k none = []) (hclose : s.intakeClose ≠ 0) (hpasses : s.passes k = true)
    (hphi : s.tracker.phi = 0) : (newPass k s).draws = s.draws := by
  have hpass : (modTrack k (fun x => { x with marks := x.marks.newPass }) s).draws = s.draws := rfl
  unfold newPass reportRise
  rw [reportDue_empty 8 hdue, ← hpass]
  refine reportDue_discharge_draws 8 fun y hy => ?_
  obtain ⟨hunreached, hlimit⟩ := mem_due.1 hy
  obtain ⟨hlist, hreached, hbelow⟩ := unreached_iff.1 hunreached
  have hp : 0 < s.pocketCount := by
    have hbelow' : s.thresholdValue k y < 256 * s.pocketCount := hbelow
    omega
  have hvalue : s.thresholdValue k y ≤ 0 := by
    have htravel := travel_at_pass hpasses hphi hp
    have hle := hlimit _ rfl
    exact htravel ▸ hle
  refine Classical.byContradiction fun hd => ?_
  have hc : y ≠ .intakeClose := by
    rintro rfl
    exact hclose (Nat.le_zero.1 hvalue)
  have hmark : s.reached k y = false := by
    rw [State.reached, modTrack_tracks, Four.get_modify_same, Marks.get_newPass _ hc hd] at hreached
    exact hreached
  have hmem : y ∈ s.due k none := mem_due.2 ⟨unreached_iff.2 ⟨hlist, hmark, hbelow⟩, nofun⟩
  rw [hdue] at hmem
  exact List.not_mem_nil hmem

/-- A head that reports nothing at a pulse keeps its draw through its turn. -/
theorem headAtPulse_draws (ended : Fin 4 → Bool) (hreports : s.reportsAtPulse k = false) (hphi : s.tracker.phi = 0) :
    (headAtPulse ended s k).draws = s.draws := by
  unfold headAtPulse
  split
  · next hdefined =>
    rw [State.reportsAtPulse, hdefined, Bool.true_and, Bool.or_eq_false_iff] at hreports
    obtain ⟨hdue, hclose⟩ := hreports
    rw [Bool.not_eq_false', List.isEmpty_iff] at hdue
    split
    · next hpass =>
      rw [if_pos hpass.1] at hdue
      rw [hpass.1, Bool.true_and, decide_eq_false_iff_not] at hclose
      exact newPass_draws hdue hclose hpass.1 hphi
    · split
      · rfl
      · have hnone : s.due k (some (s.travel k)) = [] := by
          split at hdue
          · exact due_none_empty hdue _
          · exact hdue
        rw [reportRise, reportDue_empty 8 hnone]
  · rfl

/-! ## The pulse -/

theorem OwnDraw.Counts.pulse {d : OwnDraw} (h : d.Counts c 1) :
    d.countDown.Counts c 0 ∧ d.countDown.closing.get c = false := by
  obtain ⟨hask, hterms, hcount⟩ := h
  cases c with
  | steam =>
    have hsteam : d.countdown.steam = 1 := hcount
    exact ⟨⟨hask, hterms, by simp [OwnDraw.countDown, PerClass.get, hsteam]⟩,
      by simp [OwnDraw.countDown, PerClass.get, hsteam]⟩
  | drive =>
    have hdrive : d.countdown.drive = 1 := hcount
    exact ⟨⟨hask, hterms, by simp [OwnDraw.countDown, PerClass.get, hdrive]⟩,
      by simp [OwnDraw.countDown, PerClass.get, hdrive]⟩

/-- No move sets a close pending. -/
theorem Move.closing {w : Bool} (h : Move w s t) (hs : (s.draws.get k).closing.get c = false) :
    (t.draws.get k).closing.get c = false := by
  cases h with
  | closed j d =>
    by_cases hkj : k = j
    · subst hkj
      rw [modDraw_draws, Four.get_modify_same]
      by_cases hd : d = c
      · subst hd
        exact PerClass.get_put_same _ _ _
      · exact (PerClass.get_put_other _ _ hd).trans hs
    · rw [modDraw_draws, Four.get_modify_other _ _ hkj]
      exact hs
  | grant j _ _ _ _ _ =>
    by_cases hkj : k = j
    · subst hkj
      rw [modEngine_draws, modDraw_draws, Four.get_modify_same]
      exact hs
    · rw [modEngine_draws, modDraw_draws, Four.get_modify_other _ _ hkj]
      exact hs
  | withdraw j _ _ _ =>
    by_cases hkj : k = j
    · subst hkj
      rw [withdrawDraw, modEngine_draws, modDraw_draws, Four.get_modify_same]
      exact hs
    · rw [withdrawDraw, modEngine_draws, modDraw_draws, Four.get_modify_other _ _ hkj]
      exact hs
  | consult | refuse | position | reannounce | offer | queued | waiting => exact hs

theorem atEdge_counts (dt : Nat) (pins : Levels) (hs : (s.draws.get k).Counts c n) :
    ((s.atEdge dt pins).draws.get k).Counts c n := by
  refine @foldl_counts (consulted (setLevels pins (elapse dt s))) k c n (fun s j => tripOvercurrent j s)
    (fun _ j h => tripOvercurrent_counts j h) _ ?_
  have hdraws : (elapse dt s).draws = s.draws := elapse_draws dt s
  show ((elapse dt s).draws.get k).Counts c n
  rw [hdraws]
  exact hs

/-- Through the turns of the heads at a pulse, a head that reports nothing keeps its countdowns. -/
theorem headsAtPulse_counts (ended : Fin 4 → Bool) (hs : (s.draws.get k).Counts c n)
    (hreports : s.reportsAtPulse k = false) (hphi : s.tracker.phi = 0) :
    ((headsAtPulse ended s).draws.get k).Counts c n := by
  have hothers {l : List (Fin 4)} (hk : k ∉ l) {x : State} (hx : (x.draws.get k).Counts c n) :
      SameList k x (l.foldl (headAtPulse ended) x) ∧ ((l.foldl (headAtPulse ended) x).draws.get k).Counts c n := by
    have hby := @foldl_relates x k (fun x y => SameList k x y ∧ ((x.draws.get k).Counts c n → (y.draws.get k).Counts c n))
      (headAtPulse ended) (fun x => ⟨.refl k x, id⟩) (fun h h' => ⟨h.1.trans h'.1, h'.2 ∘ h.2⟩) (fun _ => True)
      (fun _ _ => trivial) (fun y j hkj _ => ⟨.of_bystander ((headAtPulse_acts ended y j).bystander hkj),
        (headAtPulse_acts ended y j).counts hkj⟩) l hk trivial
    exact ⟨hby.1, hby.2 hx⟩
  obtain ⟨l₁, l₂, h₁, h₂, hsplit⟩ := foldl_split (headAtPulse ended) (mem_headOrder s s.reportsAtPulse k)
    (nodup_headOrder s _) (consulted s)
  obtain ⟨hlist, hcounts⟩ := hothers h₁ (show ((consulted s).draws.get k).Counts c n from hs)
  have hturn := headAtPulse_draws ended (hlist.reportsAtPulse.trans hreports) (by rw [hlist.tracker]; exact hphi)
  rw [← hturn] at hcounts
  rw [headsAtPulse, hsplit]
  exact (hothers h₂ hcounts).2

theorem phi_after_pulse (hreset : s.inReset = none) : (countPitch s).tracker.phi = 0 := by
  rw [countPitch_tracker hreset, Tracker.phi]
  simp

theorem SameList.endHolds (ends : Fin 4 → Bool) (s : State) (k : Fin 4) : SameList k s (endHolds ends s) := by
  refine ⟨?_, rfl, rfl, rfl, rfl⟩
  rw [endHolds_tracks_get, Track.endHold_marks]

theorem SameList.resumeHeads (s : State) (k : Fin 4) : SameList k s (resumeHeads s) := by
  have hfold (l : List (Fin 4)) (x : State) : SameList k x (l.foldl Machine.resumeHead x) := by
    induction l generalizing x with
    | nil => exact .refl k x
    | cons j l ih => exact (SameList.resumeHead x j).trans (ih _)
  have hconsulted : SameList k s (consulted s) := ⟨rfl, rfl, rfl, rfl, rfl⟩
  exact hconsulted.trans (hfold _ _)

/-- A countdown in a class in which its head reports nothing comes to 1 at the draw unit's turn of the pulse. -/
theorem pulsed_counts (hreset : s.inReset = none) (hs : (s.draws.get k).Counts c n)
    (hreports : (countPitch s).reportsAtPulse k = false) (hmotion : c = .drive ∨ s.tracker.motion ≠ .stalled) :
    (s.pulsed.draws.get k).Counts c n := by
  obtain ⟨-, -, -, -, -, hdraws, -⟩ := countPitch_blocks s
  have hphi := phi_after_pulse hreset
  let held := endHolds (countPitch s).endsHoldAtPulse (countPitch s)
  have hheld : SameList k (countPitch s) held := .endHolds _ _ k
  have hcounts : (held.draws.get k).Counts c n := by
    show ((countPitch s).draws.get k).Counts c n
    rw [hdraws]
    exact hs
  unfold State.pulsed
  split
  · next hstalled =>
    have hc : c = .drive := hmotion.resolve_right fun h => h hstalled
    subst hc
    have hall := hheld.trans (SameList.resumeHeads held k)
    exact headsAtPulse_counts _ (foldl_counts (fun _ j h => resumeHead_counts j h) _ hcounts)
      (hall.reportsAtPulse.trans hreports) (by rw [hall.tracker]; exact hphi)
  · exact headsAtPulse_counts _ hcounts (hheld.reportsAtPulse.trans hreports) (by rw [hheld.tracker]; exact hphi)

/-- After the draw unit's turn of the pulse the countdown stands at 0 with no close pending. -/
theorem drawPulse_ends (hkeeps : s.unit.mode.keepsView = true) (hs : (s.draws.get k).Counts c 1) :
    ((drawPulse s).draws.get k).closing.get c = false ∧ ((drawPulse s).draws.get k).countdown.get c = 0 := by
  have hmoves := drawPulse_moves hkeeps
  obtain ⟨hcounts, hclosing⟩ := hs.pulse
  have hdraw : ({ s with view := s.view.pulse s.pocketCount, draws := s.draws.map OwnDraw.countDown } : State).draws.get k
      = (s.draws.get k).countDown := Four.get_map _ _ _
  rw [← hdraw] at hcounts hclosing
  exact ⟨hmoves.preserve (fun _ _ hmove => hmove.closing) hclosing, (hmoves.counts hcounts).count⟩

end

/-- Settles O8: the countdown of the class runs on through the acts of all heads until the draw unit's turn, and no move
after it sets a close pending. -/
theorem closeCountdownDropsAPendingClose : Obligations.CloseCountdownDropsAPendingClose := by
  unfold Obligations.CloseCountdownDropsAPendingClose
  intro dt pins s k c hreset hbegun hrunning hreports hask hterms hmotion hclosing hcount
  have hkeeps : s.unit.mode.keepsView = true := by
    revert hrunning
    cases s.unit.mode <;> decide
  have hends : s.closeRunsOut = true := by
    have hdraw : (s.draws.get k).closeRunsOut = true := by
      cases c with
      | steam => simp [OwnDraw.closeRunsOut, show (s.draws.get k).closing.steam = true from hclosing,
          show (s.draws.get k).countdown.steam = 1 from hcount]
      | drive => simp [OwnDraw.closeRunsOut, show (s.draws.get k).closing.drive = true from hclosing,
          show (s.draws.get k).countdown.drive = 1 from hcount]
    have hany : headIndexes.any (fun j => (s.draws.get j).closeRunsOut) = true :=
      List.any_eq_true.2 ⟨k, mem_headIndexes k, hdraw⟩
    rw [State.closeRunsOut, hbegun, hkeeps, hany]
    rfl
  have hedge := atEdge_of dt pins hreset
  have hbefore := pulseBefore_of dt pins hreset
  have hcounted := atEdge_counts dt pins (⟨hask, hterms, hcount⟩ : (s.draws.get k).Counts c 1)
  have hstill : (s.atEdge dt pins).tracker.motion = s.tracker.motion := by rw [hedge.tracker]; rfl
  have hpulsed := pulsed_counts hedge.reset hcounted hreports (by rw [hstill]; exact hmotion)
  have hmode : (s.atEdge dt pins).pulsed.unit.mode.keepsView = true := by
    have hunit : (s.atEdge dt pins).pulsed.unit = (s.atEdge dt pins).unit :=
      (State.still_fields (pulsed_works (s.atEdge dt pins)).still).2.1.trans (countPitch_steady _).unit
    rw [hunit, hedge.unit]
    exact hkeeps
  obtain ⟨hclosed, hzero⟩ := drawPulse_ends hmode hpulsed
  have hlistens : s.listens = false := by
    rw [← Bool.not_eq_true, State.listens_iff]
    rintro ⟨hm, -⟩
    rw [hm] at hrunning
    exact Bool.false_ne_true hrunning
  have hlearns : s.countsLearning = false := by
    rw [← Bool.not_eq_true, State.countsLearning_iff]
    rintro ⟨hm, -⟩
    rw [hm] at hrunning
    exact Bool.false_ne_true hrunning
  have hpulse : takePitch (s.atEdge dt pins) = (s.atEdge dt pins).paced := by
    rw [takePitch_eq, listenPulse_off (hbefore.listening.trans hlistens), learnPulse_off (hbefore.counts.trans hlearns)]
  have hexec := pulseRow_next dt pins hreset hbegun hends
  rw [hpulse] at hexec
  exact ⟨_, hexec, hclosed, hzero, by rw [hbefore.unit], hbefore.ground, hbefore.receive⟩

end Sys2Proof.Machine

/-! PROOFS. A new pass: what its reports leave of the profile's marks, and the PITCH pulse at the infeed (R13, R15, R68). -/

namespace Sys2Proof.Machine
open Sys2Proof

section
variable {s t : State} {j k : Fin 4} {limit : Option Nat}

/-! ## Reports run until none is due (R13) -/

theorem nodup_due (k : Fin 4) (limit : Option Nat) (s : State) : (s.due k limit).Nodup :=
  (sortBy_perm _ _).nodup_iff.2 (List.Pairwise.filter _ (by decide))

/-- No more thresholds are due than those not excluded. -/
theorem due_length {l : List Threshold} (h : ∀ y ∈ s.due k limit, y ∈ l) : (s.due k limit).length ≤ l.length :=
  (nodup_due k limit s).length_le_of_subset h

theorem report_ground (k : Fin 4) (x : Threshold) (s : State) : (report k x s).ground = s.ground :=
  (Acts.report x Acts.refl).steady.ground

/-- A marked threshold is due no more. -/
theorem not_due_of_reached {x : Threshold} (h : s.reached k x = true) : x ∉ s.due k limit := by
  intro hx
  obtain ⟨-, hreached, -⟩ := unreached_iff.1 (mem_due.1 hx).1
  exact Bool.false_ne_true (hreached.symm.trans h)

/-- Without intake close among them, the due thresholds are all reported. -/
theorem reportDue_exhausts {n : Nat} (hclose : Threshold.intakeClose ∉ s.due k limit)
    (hn : (s.due k limit).length ≤ n) : (reportDue k limit n s).due k limit = [] := by
  induction n generalizing s with
  | zero => exact List.length_eq_zero_iff.1 (Nat.le_zero.1 hn)
  | succ n ih =>
    cases hdue : s.due k limit with
    | nil => rwa [reportDue_empty _ hdue]
    | cons x rest =>
      rw [hdue] at hclose hn
      have hx : x ≠ .intakeClose := fun h => hclose (h ▸ List.mem_cons_self)
      have hafter (y : Threshold) (hy : y ∈ (report k x s).due k limit) : y ∈ rest := by
        obtain ⟨hbefore, hne⟩ := due_after (report_ground k x s) (relists_report k s hx) hy
        rw [hdue] at hbefore
        exact (List.mem_cons.1 hbefore).resolve_left hne
      rw [reportDue_cons n hdue]
      refine ih (fun h => hclose (List.mem_cons_of_mem _ (hafter _ h))) ?_
      exact Nat.le_trans (due_length hafter) (Nat.le_of_succ_le_succ hn)

/-- After intake close at most the seven others are due, and six with the discharge marked too. -/
theorem report_intakeClose_exhausts {n : Nat} (hn : 7 ≤ n ∨ 6 ≤ n ∧ s.reached k .discharge = true) :
    (reportDue k limit n (report k .intakeClose s)).due k limit = [] := by
  have hmarks {y : Threshold} (hy : y.isProfile = true) := report_profile k .intakeClose s hy
  have hclose : (report k .intakeClose s).reached k .intakeClose = true := by
    rw [hmarks rfl, decide_eq_true rfl, Bool.or_true]
  refine reportDue_exhausts (not_due_of_reached hclose) ?_
  rcases hn with hn | ⟨hn, hdischarge⟩
  · refine Nat.le_trans (@due_length _ _ _ [.cap, .fe, .fl, .fx, .dl, .rel, .discharge] fun y hy => ?_) hn
    cases y with
    | intakeClose => exact absurd hy (not_due_of_reached hclose)
    | discharge | cap | fe | fl | fx | dl | rel => decide
  · have hmarked : (report k .intakeClose s).reached k .discharge = true := by
      rw [hmarks rfl, hdischarge, Bool.true_or]
    refine Nat.le_trans (@due_length _ _ _ [.cap, .fe, .fl, .fx, .dl, .rel] fun y hy => ?_) hn
    cases y with
    | intakeClose => exact absurd hy (not_due_of_reached hclose)
    | discharge => exact absurd hy (not_due_of_reached hmarked)
    | cap | fe | fl | fx | dl | rel => decide

/-- Eight reports leave nothing due where the profile's thresholds alone were: a binding among them adds its six. -/
theorem reportDue_profile_exhausts (h : ∀ y ∈ s.due k limit, y.isProfile = true) :
    (reportDue k limit 8 s).due k limit = [] := by
  cases hdue : s.due k limit with
  | nil => rwa [reportDue_empty 8 hdue]
  | cons x rest =>
    have hx := h x (by rw [hdue]; exact List.mem_cons_self)
    rw [reportDue_cons 7 hdue]
    cases x with
    | intakeClose => exact report_intakeClose_exhausts (.inl (by decide))
    | discharge =>
      cases hnext : (report k .discharge s).due k limit with
      | nil => rwa [reportDue_empty 7 hnext]
      | cons y rest' =>
        have hmem : y ∈ (report k .discharge s).due k limit := by rw [hnext]; exact List.mem_cons_self
        obtain ⟨hbefore, hne⟩ := due_after (report_ground k _ s) (relists_report k s (by decide)) hmem
        have hy := h y hbefore
        have hmark : (report k .discharge s).reached k .discharge = true := by
          rw [report_profile k _ s rfl, decide_eq_true rfl, Bool.or_true]
        rw [reportDue_cons 6 hnext]
        cases y with
        | intakeClose => exact report_intakeClose_exhausts (.inr ⟨by decide, hmark⟩)
        | discharge => exact absurd rfl hne
        | cap | fe | fl | fx | dl | rel => cases hy
    | cap | fe | fl | fx | dl | rel => cases hx

/-- A threshold beyond the limit is not reported. -/
theorem reportDue_beyond {n m : Nat} {y : Threshold} (hy : y.isProfile = true) (hmark : s.reached k y = false)
    (hbeyond : n < s.thresholdValue k y) : (reportDue k (some n) m s).reached k y = false := by
  induction m generalizing s with
  | zero => exact hmark
  | succ m ih =>
    cases hdue : s.due k (some n) with
    | nil => rwa [reportDue_empty _ hdue]
    | cons x rest =>
      have hx : s.thresholdValue k x ≤ n := (mem_due.1 (hdue ▸ List.mem_cons_self)).2 n rfl
      have hne : y ≠ x := fun h => absurd (h ▸ hx) (Nat.not_le.2 hbeyond)
      rw [reportDue_cons m hdue]
      refine ih ?_ ?_
      · rw [report_profile k x s hy, hmark, decide_eq_false hne]
        rfl
      · rw [thresholdValue_profile (report_ground k x s) hy]
        exact hbeyond

/-! ## A new pass (R13, R14) -/

theorem Tracker.phi_le (x : Tracker) : x.phi ≤ 255 := by
  unfold Tracker.phi
  split
  · exact Nat.min_le_left _ _
  · exact Nat.zero_le _

theorem State.travel_below (hp : 0 < s.pocketCount) (k : Fin 4) : s.travel k < 256 * s.pocketCount := by
  have hphi := s.tracker.phi_le
  have hmod : minusMod s.pocketCount s.tracker.c (s.pocketOf k) < s.pocketCount := Nat.mod_lt _ hp
  unfold State.travel
  omega

/-- The profile's marks of a new pass, in which nothing of the ending one was left: those at or below the travel. -/
theorem newPass_profile (hdue : s.due k none = []) (hp : 0 < s.pocketCount) {y : Threshold} (hy : y.isProfile = true) :
    (newPass k s).reached k y = decide (s.thresholdValue k y ≤ s.travel k) := by
  let passed := modTrack k (fun x => { x with marks := x.marks.newPass }) s
  have hnew : newPass k s = reportDue k (some (s.travel k)) 8 passed := by
    rw [newPass, reportDue_empty 8 hdue]
    rfl
  have hcleared {y : Threshold} (hy : y.isProfile = true) : passed.reached k y = false := by
    rw [State.reached, modTrack_tracks, Four.get_modify_same]
    cases y with
    | intakeClose | discharge => rfl
    | cap | fe | fl | fx | dl | rel => cases hy
  have hprofile (y : Threshold) (hmem : y ∈ passed.due k (some (s.travel k))) : y.isProfile = true := by
    obtain ⟨hlist, hreached, hbelow⟩ := unreached_iff.1 (mem_due.1 hmem).1
    refine Classical.byContradiction fun hy => ?_
    have hmark : s.reached k y = false := by
      rw [State.reached, modTrack_tracks, Four.get_modify_same,
        Marks.get_newPass _ (by rintro rfl; exact hy rfl) (by rintro rfl; exact hy rfl)] at hreached
      exact hreached
    have hbefore : y ∈ s.due k none := mem_due.2 ⟨unreached_iff.2 ⟨hlist, hmark, hbelow⟩, nofun⟩
    rw [hdue] at hbefore
    exact List.not_mem_nil hbefore
  rw [hnew]
  by_cases hvalue : s.thresholdValue k y ≤ s.travel k
  · rw [decide_eq_true hvalue]
    refine Classical.byContradiction fun hmark => ?_
    have hground : (reportDue k (some (s.travel k)) 8 passed).ground = s.ground :=
      (@Acts.reportDue k passed passed (some (s.travel k)) 8 .refl).steady.ground
    have hsame := @thresholdValue_profile k _ _ y hground hy
    have hmem : y ∈ (reportDue k (some (s.travel k)) 8 passed).due k (some (s.travel k)) := by
      refine mem_due.2 ⟨unreached_iff.2 ⟨by rw [State.onList, hy, Bool.true_or], Bool.eq_false_iff.2 hmark, ?_⟩,
        fun n hn => Option.some.inj hn ▸ hsame ▸ hvalue⟩
      rw [hsame, show State.pocketCount _ = s.pocketCount from State.profileField_ground hground _]
      exact Nat.lt_of_le_of_lt hvalue (State.travel_below hp k)
    rw [reportDue_profile_exhausts hprofile] at hmem
    exact List.not_mem_nil hmem
  · rw [decide_eq_false hvalue]
    exact reportDue_beyond hy (hcleared hy) (Nat.not_le.1 hvalue)

/-- A discharge that the ending pass had not reached is reported first; the pass begins as without it. -/
theorem newPass_discharge (hdue : s.due k none = [.discharge]) :
    newPass k s = newPass k (report k .discharge s) ∧ (report k .discharge s).due k none = [] := by
  have hafter := due_alone (by decide) hdue
  refine ⟨?_, hafter⟩
  rw [newPass, newPass, reportDue_cons 7 hdue, reportDue_empty 7 hafter, reportDue_empty 8 hafter]

/-! ## What a pulse leaves of a pass -/

/-- Head `k`'s held-back condition and its marks of the profile's thresholds are the same. -/
structure SamePass (k : Fin 4) (s t : State) : Prop where
  held  : (t.tracks.get k).heldBack = (s.tracks.get k).heldBack
  marks : ∀ y, y.isProfile = true → t.reached k y = s.reached k y

namespace SamePass

theorem trans {u : State} (h : SamePass k s t) (h' : SamePass k t u) : SamePass k s u :=
  ⟨h'.held.trans h.held, fun y hy => (h'.marks y hy).trans (h.marks y hy)⟩

theorem of_track (h : t.tracks.get k = s.tracks.get k) : SamePass k s t :=
  ⟨congrArg Track.heldBack h, fun _ _ => by rw [State.reached, h, State.reached]⟩

theorem refl (k : Fin 4) (s : State) : SamePass k s s := of_track rfl

theorem of_relists (h : Relists k s t) : SamePass k s t := by
  refine ⟨?_, fun y hy => h.reached_profile hy⟩
  rcases h with ⟨htrack, -⟩ | ⟨htrack, -⟩ <;> rw [htrack]

end SamePass

theorem Act.heldBack (h : Act j s t) (k : Fin 4) : (t.tracks.get k).heldBack = (s.tracks.get k).heldBack := by
  cases h with
  | background h => rw [h.backdrop.tracks]
  | own h =>
    by_cases hkj : k = j
    · exact hkj ▸ h.heldBack
    · rw [h.tracks k hkj]
  | announce | cancel => rfl

theorem Acts.heldBack (h : Acts j s t) (k : Fin 4) : (t.tracks.get k).heldBack = (s.tracks.get k).heldBack := by
  induction h with
  | refl => rfl
  | tail _ hact ih => exact (hact.heldBack k).trans ih

theorem Relists.endAsk (h : Relists k s t) : Relists k s (endAsk k t) := by
  unfold Machine.endAsk
  split
  · next a _ _ =>
    split
    · have hremoved : Relists k t (modDraw k (OwnDraw.ended none) (removeDrawOpen k t)) := .same rfl rfl
      exact (h.trans hremoved).moves ((@moves_queueRemoval true _).trans (moves_arbiter a.cls _))
    · have hended : Relists k t (offerClose k a.cls (modDraw k (OwnDraw.ended none) t)) := by
        have hcloses := (Closes.ended k t).offered a.cls
        exact .same (by rw [hcloses.tracks]) (by rw [hcloses.engine])
      exact (h.trans hended).moves (@moves_arbiter true a.cls _)
  · exact h.trans (.same rfl rfl)

theorem Relists.safeEngine (h : Relists k s t) : Relists k s (safeEngine k t) := by
  have hhalted : Relists k s (addReason k .halted (modEngine k (fun x => { x with steam := false, asking := false }) t)) :=
    (h.engine _).record _
  unfold Machine.safeEngine
  dsimp only
  split
  · exact h
  · exact h
  · exact hhalted.toDwell
  · exact hhalted.toDwell
  · exact (hhalted.endAsk.record _).toDwell
  · exact (hhalted.endAsk.record _).toDwell
  · exact (hhalted.record _).closeDraw.toDwell
  · exact (hhalted.endAsk.record _).toDwell
  · exact (hhalted.endAsk.record _).toDwell
  · exact hhalted
  · exact hhalted

theorem Relists.safeHead (h : Relists k s t) : Relists k s (safeHead t k) := by
  have hcleared : Relists k s (clearForcedDrive k (Machine.safeEngine k t)) :=
    h.safeEngine.trans (.same (by rw [clearForcedDrive_tracks]) (by rw [clearForcedDrive_engines]))
  unfold Machine.safeHead tripHalt
  split
  · exact hcleared.endPhase _ _ _
  · exact hcleared.channel _

namespace SamePass

theorem enterSafe (k : Fin 4) (s : State) : SamePass k s (enterSafe s) := by
  have hfold (l : List (Fin 4)) (x : State) : SamePass k x (l.foldl safeHead x) := by
    induction l generalizing x with
    | nil => exact .refl k x
    | cons j l ih =>
      refine SamePass.trans ?_ (ih _)
      by_cases hkj : k = j
      · subst hkj
        exact .of_relists Relists.refl.safeHead
      · exact .of_track ((@Acts.refl j x).safeHead.bystander hkj).track
  have hentered : SamePass k s s.entersSafe := .of_track rfl
  rw [enterSafe_eq]
  exact hentered.trans (hfold _ _)

theorem completeListening (k : Fin 4) (s : State) : SamePass k s (completeListening s) := by
  unfold Machine.completeListening
  dsimp only
  split
  · refine .of_track ?_
    rw [enterRun_eq]
    rfl
  · refine .of_track ?_
    rw [enterStand, entries_eq]
    rfl
  · refine SamePass.trans ?_ (SamePass.enterSafe k _)
    exact .of_track rfl

theorem enterFault (k : Fin 4) (code : FaultCode) (s : State) : SamePass k s (enterFault code s) := by
  by_cases hmode : s.unit.mode = .fault
  · rw [enterFault_in_fault code s hmode]
    exact .refl k s
  · obtain ⟨held, x, n, heq, -⟩ := enterFault_eq code hmode
    rw [heq]
    have hforced : (endForcedRun s).tracks = s.tracks := by
      rw [endForcedRun_eq]
    have htrack : ((faultBlocks { endForcedRun s with unit := s.unit.faulted code held, transmit := x, free := n }).tracks.get k)
        = { s.tracks.get k with marks := (s.tracks.get k).marks.withoutRecipe } := by
      rw [← hforced]
      exact Four.get_map _ _ _
    refine ⟨by rw [htrack], fun y hy => ?_⟩
    rw [State.reached, htrack]
    exact Marks.get_withoutRecipe _ hy

theorem listenPulse (k : Fin 4) (s : State) : SamePass k s (listenPulse s) := by
  unfold Machine.listenPulse
  split
  · dsimp only
    split
    · refine SamePass.trans ?_ (SamePass.completeListening k _)
      exact .of_track rfl
    · exact .of_track rfl
  · exact .refl k s

theorem learnPulse (k : Fin 4) (s : State) : SamePass k s (learnPulse s) := by
  unfold Machine.learnPulse
  split
  · dsimp only
    split
    · refine SamePass.trans ?_ (SamePass.enterFault k .noMark _)
      exact .of_track rfl
    · exact .of_track rfl
  · exact .refl k s

theorem drawPulse (k : Fin 4) (s : State) : SamePass k s (drawPulse s) := by
  rcases Bool.eq_false_or_eq_true s.unit.mode.keepsView with hkeeps | hkeeps
  · have hcounted : SamePass k s { s with
        view := s.view.pulse s.pocketCount, draws := s.draws.map OwnDraw.countDown } := .of_track rfl
    exact hcounted.trans (.of_track (by rw [(drawPulse_moves hkeeps).backdrop.tracks]))
  · rw [drawPulse_off hkeeps]
    exact .refl k s

end SamePass

/-! ## A head's own turn among the others -/

/-- Acts on other heads alone: head `k` stands by, and its record stays where no verdict waits. -/
structure Beside (k : Fin 4) (s t : State) : Prop extends Bystander k s t where
  recorded  : (s.slots.get k).record.delivery ≠ .waiting → t.slots.get k = s.slots.get k
  ungranted : (t.engines.get k).phase.ungranted = (s.engines.get k).phase.ungranted

theorem Beside.refl (k : Fin 4) (s : State) : Beside k s s := ⟨.refl k s, fun _ => rfl, rfl⟩

theorem Beside.trans {u : State} (h : Beside k s t) (h' : Beside k t u) : Beside k s u :=
  ⟨h.toBystander.trans h'.toBystander, fun hd => by
    have hfirst := h.recorded hd
    rw [h'.recorded (by rw [hfirst]; exact hd), hfirst], h'.ungranted.trans h.ungranted⟩

theorem Acts.beside (h : Acts j s t) (hkj : k ≠ j) : Beside k s t := ⟨h.bystander hkj, h.recorded hkj, h.ungranted hkj⟩

/-- Where the heads take their turns one by one, all but head `k`'s own are acts on other heads. -/
theorem foldl_turn {f : State → Fin 4 → State} {l : List (Fin 4)} (hf : ∀ x j, Acts j x (f x j)) (hk : k ∈ l)
    (hl : l.Nodup) (s : State) : ∃ u, Beside k s u ∧ Beside k (f u k) (l.foldl f s) := by
  have hothers {l : List (Fin 4)} (hk : k ∉ l) (x : State) : Beside k x (l.foldl f x) :=
    @foldl_relates x k (Beside k) f (Beside.refl k) Beside.trans (fun _ => True) (fun _ _ => trivial)
      (fun y j hkj _ => (hf y j).beside hkj) l hk trivial
  obtain ⟨l₁, l₂, h₁, h₂, hsplit⟩ := foldl_split f hk hl s
  exact ⟨_, hothers h₁ s, hsplit ▸ hothers h₂ _⟩

theorem headsAtPulse_turn (ended : Fin 4 → Bool) (s : State) (k : Fin 4) :
    ∃ u, Beside k (consulted s) u ∧ Beside k (headAtPulse ended u k) (headsAtPulse ended s) :=
  foldl_turn (headAtPulse_acts ended) (mem_headOrder _ _ k) (nodup_headOrder _ _) _

/-! ## The pulse that counts C to a head's pocket -/

/-- The head's own turn at the pulse that counts C to its pocket: held back until it, it takes up its thresholds again;
else it begins a new pass. -/
theorem headAtPulse_pass {ended : Fin 4 → Bool} (hdefined : s.travelDefined k = true) (hpass : s.passes k = true)
    (hheld : (s.tracks.get k).heldBack = false) :
    headAtPulse ended s k = if ended k = true then reportRise k s else newPass k s := by
  rw [headAtPulse, if_pos hdefined, hpass, hheld]
  cases ended k <;> rfl

/-- The pulse as a head with a travel finds it, C at its pocket and the turret turning. -/
structure AtInfeed (k : Fin 4) (s : State) : Prop where
  defined : s.travelDefined k = true
  passes  : s.passes k = true
  phi     : s.tracker.phi = 0
  pockets : 0 < s.pocketCount

theorem AtInfeed.of_still (h : AtInfeed k s) (htracker : t.tracker = s.tracker) (hunit : t.unit = s.unit)
    (hground : t.ground = s.ground) : AtInfeed k t := by
  have hheads : t.headCount = s.headCount := State.profileField_ground hground _
  have hpockets : t.pocketCount = s.pocketCount := State.profileField_ground hground _
  refine ⟨?_, ?_, by rw [htracker]; exact h.phi, by rw [hpockets]; exact h.pockets⟩
  · have hdefined := h.defined
    rwa [State.travelDefined, State.hasHead, ← hheads, ← hunit] at hdefined
  · have hpass := h.passes
    rwa [State.passes, State.pocketOf, ← htracker, ← hunit] at hpass

theorem AtInfeed.travel (h : AtInfeed k s) : s.travel k = 0 := travel_at_pass h.passes h.phi h.pockets

/-- A new pass at the infeed, with no threshold of the ending one left but the discharge: the profile's thresholds of
value 0 are reached again. -/
theorem AtInfeed.newPass (h : AtInfeed k s) (hdue : s.due k none = [] ∨ s.due k none = [.discharge]) {y : Threshold}
    (hy : y.isProfile = true) : (newPass k s).reached k y = decide (s.thresholdValue k y = 0) := by
  have hclean {x : State} (hx : AtInfeed k x) (hdue : x.due k none = []) :
      (Machine.newPass k x).reached k y = decide (x.thresholdValue k y = 0) := by
    rw [newPass_profile hdue hx.pockets hy, hx.travel]
    simp only [Nat.le_zero]
  rcases hdue with hdue | hdue
  · exact hclean h hdue
  · obtain ⟨heq, hafter⟩ := newPass_discharge hdue
    have hreport := (Acts.report Threshold.discharge (@Acts.refl k s))
    obtain ⟨htracker, hunit, -⟩ := State.still_fields hreport.still
    have hground := report_ground k .discharge s
    have hafter' := h.of_still htracker hunit hground
    rw [heq, hclean hafter' hafter, thresholdValue_profile hground hy]

/-- A new pass at the infeed with neither threshold of the profile at 0: the discharge left of the ending pass is the one
report. -/
theorem AtInfeed.newPass_slots (h : AtInfeed k s) (hdue : s.due k none = [.discharge]) (hclose : 0 < s.intakeClose)
    (hdischarge : 0 < s.discharge) : (Machine.newPass k s).slots = (slotDischarge k (markReached k .discharge s)).slots := by
  obtain ⟨heq, hafter⟩ := newPass_discharge hdue
  have hreport := Acts.report Threshold.discharge (@Acts.refl k s)
  obtain ⟨htracker, hunit, -⟩ := State.still_fields hreport.still
  have hground := report_ground k .discharge s
  have hafter' := h.of_still htracker hunit hground
  have hnone : (modTrack k (fun x => { x with marks := x.marks.newPass }) (report k .discharge s)).due k (some 0) = [] := by
    refine List.eq_nil_iff_forall_not_mem.2 fun y hy => ?_
    obtain ⟨hunreached, hlimit⟩ := mem_due.1 hy
    obtain ⟨hlist, hreached, hbelow⟩ := unreached_iff.1 hunreached
    have hvalue : (report k .discharge s).thresholdValue k y ≤ 0 := hlimit 0 rfl
    cases hprofile : y.isProfile with
    | true =>
      rw [thresholdValue_profile hground hprofile] at hvalue
      cases y with
      | intakeClose => exact absurd hvalue (Nat.not_le.2 hclose)
      | discharge => exact absurd hvalue (Nat.not_le.2 hdischarge)
      | cap | fe | fl | fx | dl | rel => cases hprofile
    | false =>
      have hother {x : Threshold} (hx : x.isProfile = true) : y ≠ x := fun h =>
        Bool.false_ne_true (hprofile.symm.trans (h ▸ hx))
      rw [State.reached, modTrack_tracks, Four.get_modify_same, Marks.get_newPass _ (hother rfl) (hother rfl)] at hreached
      have hmem : y ∈ (report k .discharge s).due k none := mem_due.2 ⟨unreached_iff.2 ⟨hlist, hreached, hbelow⟩, nofun⟩
      rw [hafter] at hmem
      exact List.not_mem_nil hmem
  have htravel : (modTrack k (fun x => { x with marks := x.marks.newPass }) (report k .discharge s)).travel k = 0 :=
    hafter'.travel
  rw [heq, Machine.newPass, reportDue_empty 8 hafter, reportRise, htravel, reportDue_empty 8 hnone]
  rfl

theorem State.pulsed_turning (h : s.tracker.motion ≠ .stalled) : s.pulsed = headsAtPulse (countPitch s).endsHoldAtPulse
    (endHolds (countPitch s).endsHoldAtPulse (countPitch s)) := by
  rw [State.pulsed, if_neg h]

theorem SamePass.paced (k : Fin 4) (s : State) : SamePass k s.pulsed (takePitch s) := by
  have hpaced : SamePass k s.pulsed s.paced := (SamePass.drawPulse k s.pulsed).trans (.of_track rfl)
  exact (hpaced.trans (.listenPulse k _)).trans (.learnPulse k _)

/-- In a running mode nothing follows the heads' turns but the draw unit's and the hold-off's. -/
theorem takePitch_slot (h : s.unit.mode.running = true) (k : Fin 4) :
    (s.pulsed.slots.get k).sameJar ((takePitch s).slots.get k)
    ∧ ((s.pulsed.slots.get k).record.delivery ≠ .waiting → (takePitch s).slots.get k = s.pulsed.slots.get k) := by
  have hmode : s.paced.unit.mode.running = true := by
    rw [(paced_of s).unit]
    exact h
  have hlistens : s.paced.listens = false := by
    rw [← Bool.not_eq_true, State.listens_iff]
    rintro ⟨hm, -⟩
    rw [hm] at hmode
    exact Bool.false_ne_true hmode
  have hlearns : s.paced.countsLearning = false := by
    rw [← Bool.not_eq_true, State.countsLearning_iff]
    rintro ⟨hm, -⟩
    rw [hm] at hmode
    exact Bool.false_ne_true hmode
  rw [takePitch_eq, listenPulse_off hlistens, learnPulse_off hlearns]
  show _ ∧ (_ → (drawPulse s.pulsed).slots.get k = _)
  rcases Bool.eq_false_or_eq_true s.pulsed.unit.mode.keepsView with hkeeps | hkeeps
  · have hback := (drawPulse_moves hkeeps).backdrop
    exact ⟨hback.jars k, hback.recorded k⟩
  · rw [drawPulse_off hkeeps]
    exact ⟨drawPulse_off hkeeps ▸ .refl _, fun _ => rfl⟩

/-- The turn of a head whose pocket C has been counted to: before it and after it, acts on other heads alone. -/
theorem pulsed_turn (hmotion : s.tracker.motion ≠ .stalled) (h : AtInfeed k (countPitch s)) :
    ∃ u, SameList k (countPitch s) u ∧ u.tracks.get k = { s.tracks.get k with heldBack := false }
      ∧ (s.slots.get k).sameJar (u.slots.get k)
      ∧ Beside k (if (s.tracks.get k).heldBack = true then reportRise k u else newPass k u) s.pulsed := by
  obtain ⟨-, -, -, -, hslots, -, htracks⟩ := countPitch_blocks s
  have hended : (countPitch s).endsHoldAtPulse k = (s.tracks.get k).heldBack := by
    rw [State.endsHoldAtPulse, h.defined, h.passes, htracks]
    rfl
  obtain ⟨u, hu, hafter⟩ := headsAtPulse_turn (countPitch s).endsHoldAtPulse
    (endHolds (countPitch s).endsHoldAtPulse (countPitch s)) k
  have hlist : SameList k (countPitch s) u := by
    have hheld := SameList.endHolds (countPitch s).endsHoldAtPulse (countPitch s) k
    have hconsulted : SameList k (countPitch s) (consulted (endHolds (countPitch s).endsHoldAtPulse (countPitch s))) :=
      ⟨hheld.marks, hheld.recipe, hheld.tracker, hheld.unit, hheld.ground⟩
    exact hconsulted.trans (.of_bystander hu.toBystander)
  have htrack : u.tracks.get k = { s.tracks.get k with heldBack := false } := by
    rw [hu.track]
    refine (endHolds_tracks_get _ _ k).trans ?_
    rw [hended, htracks]
    cases hheld : (s.tracks.get k).heldBack with
    | true => rfl
    | false =>
      show s.tracks.get k = ⟨(s.tracks.get k).marks, false⟩
      rw [← hheld]
  have hinfeed : AtInfeed k u := h.of_still hlist.tracker hlist.unit hlist.ground
  refine ⟨u, hlist, htrack, hslots ▸ hu.jar, ?_⟩
  rwa [headAtPulse_pass hinfeed.defined hinfeed.passes (by rw [htrack]), hended, ← State.pulsed_turning hmotion] at hafter

end

/-- Settles O13: the head's own turn decides its marks and its slot, and no later act of the pulse touches them. -/
theorem pitchPulseBeginsANewPass : Obligations.PitchPulseBeginsANewPass := by
  unfold Obligations.PitchPulseBeginsANewPass
  intro dt s k hreset hlawful hbegun hturns counted hdefined hvalid hcount
  have hedge := atEdge_of dt .quiet hreset
  have hbefore := pulseBefore_of dt .quiet hreset
  have hcalm : s.atEdge dt .quiet = consulted (setLevels .quiet (elapse dt s)) := takePins_calm Levels.quiet_oc
  have htracks : (s.atEdge dt .quiet).tracks = s.tracks := by
    rw [hcalm]
    exact elapse_tracks dt s
  have hslots : (s.atEdge dt .quiet).slots = s.slots := by
    rw [hcalm]
    exact elapse_slots dt s
  have hunit : counted.unit = s.unit := (countPitch_steady (s.atEdge dt .quiet)).unit.trans hedge.unit
  have hground : counted.ground = s.ground := (countPitch_steady (s.atEdge dt .quiet)).ground.trans hedge.ground
  have hpockets : 0 < s.pocketCount := by
    simp only [State.trackLawful, hbegun, Bool.not_true, Bool.false_or, Bool.and_eq_true] at hlawful
    obtain ⟨⟨⟨⟨⟨⟨hgood, -⟩, hfields⟩, -⟩, -⟩, -⟩, -⟩ := hlawful
    exact State.pocketCount_pos hgood hfields
  have hinfeed : AtInfeed k counted := by
    refine ⟨?_, ?_, phi_after_pulse hedge.reset, ?_⟩
    · have hheads : counted.headCount = s.headCount := State.profileField_ground hground _
      rw [State.travelDefined, State.hasHead, hheads, hunit]
      exact hdefined
    · have hvalid' : counted.tracker.valid = true := by
        show (countPitch (s.atEdge dt .quiet)).tracker.valid = true
        rw [countPitch_tracker hedge.reset, hedge.tracker]
        exact hvalid
      rw [State.passes, hvalid', hcount, State.pocketOf, State.pocketOf, hunit]
      simp
    · rw [show counted.pocketCount = s.pocketCount from State.profileField_ground hground _]
      exact hpockets
  have hmotion : (s.atEdge dt .quiet).tracker.motion ≠ .stalled := by
    rw [hedge.tracker]
    exact hturns
  obtain ⟨u, hlist, htrack, hjar, hturn⟩ := pulsed_turn hmotion hinfeed
  rw [htracks] at htrack hturn
  rw [hslots] at hjar
  have hinfeed' : AtInfeed k u := hinfeed.of_still hlist.tracker hlist.unit hlist.ground
  have hend := (SamePass.of_track hturn.track).trans (SamePass.paced k (s.atEdge dt .quiet))
  have hcounted := (listenPulse_counted (s.atEdge dt .quiet).paced).1.trans (learnPulse_counted _)
  rw [← takePitch_eq] at hcounted
  refine ⟨_, exec_pitchPulse dt .quiet hreset hbegun, ?_, fun hheld y hy hmark => ?_, fun hheld hdue y hy => ?_,
    fun hheld hdue hrunning hclose hdischarge => ?_, hcounted.ground.trans hbefore.ground,
    hcounted.receive.trans hbefore.receive⟩
  · rw [hend.held]
    split
    · rw [(@Acts.refl k u).reportRise.heldBack k, htrack]
    · rw [(@Acts.refl k u).newPass.heldBack k, htrack]
  · rw [if_pos hheld] at hend
    have hbefore' : u.reached k y = true := by
      rw [State.reached, htrack]
      exact hmark
    exact (hend.marks y hy).trans (reportDue_profile 8 hy hbefore')
  · rw [hheld, if_neg Bool.false_ne_true] at hend
    have hvalue : u.thresholdValue k y = s.thresholdValue k y :=
      thresholdValue_profile (hlist.ground.trans hground) hy
    rw [← hvalue, ← hinfeed'.newPass (by rwa [hlist.due]) hy]
    exact hend.marks y hy
  · rw [hheld, if_neg Bool.false_ne_true] at hturn
    have hfield (f : Profile → Nat) : u.profileField f = s.profileField f :=
      State.profileField_ground (hlist.ground.trans hground) f
    have hslot := hinfeed'.newPass_slots (by rw [hlist.due]; exact hdue) (by rw [State.intakeClose, hfield]; exact hclose)
      (by rw [State.discharge, hfield]; exact hdischarge)
    have hmode : u.unit.mode = s.unit.mode := congrArg ModeUnit.mode (hlist.unit.trans hunit)
    rw [slotDischarge_slots, if_neg (by show ¬u.unit.mode.running = false; rw [hmode, hrunning]; exact nofun)] at hslot
    have hown : (newPass k u).slots.get k = if (s.slots.get k).state = .bound
        then { u.slots.get k with record := { (u.slots.get k).record with passed := true } }
        else ⟨.opened, (s.slots.get k).pocket, {}⟩ := by
      rw [hslot, Four.get_modify_same, ← hjar.state, ← hjar.pocket]
      rfl
    obtain ⟨hlast, hlastSame⟩ := @takePitch_slot (s.atEdge dt .quiet) (by rw [hedge.unit]; exact hrunning) k
    refine ⟨fun hempty => ?_, fun hbound => ?_⟩
    · rw [if_neg hempty] at hown
      have hreopened := hturn.recorded (by rw [hown]; exact nofun)
      rw [hown] at hreopened
      rw [hlastSame (by rw [hreopened]; exact nofun), hreopened]
    · rw [if_pos hbound] at hown
      have hkept := hturn.jar.trans hlast
      rw [hown] at hkept
      obtain ⟨d, v, n, hrecord⟩ := hkept.record
      exact ⟨hkept.state.trans (hjar.state.trans hbound), by rw [hrecord]⟩

end Sys2Proof.Machine

/-! PROOFS. The forward slip: the travels it moves on, and the head's own turn in it (R7, R14, R15, R76, R106). -/

namespace Sys2Proof.Machine
open Sys2Proof

section
variable {s t : State} {k : Fin 4} {d : Nat} {old : Four Nat} {ended : Fin 4 → Bool}

/-! ## The travel moved on -/

theorem mod_below_twice {x p : Nat} (h : x < 2 * p) : x < p ∧ x % p = x ∨ p ≤ x ∧ x % p = x - p := by
  by_cases hx : x < p
  · exact .inl ⟨hx, Nat.mod_eq_of_lt hx⟩
  · exact .inr ⟨Nat.not_lt.1 hx, by rw [Nat.mod_eq_sub_mod (Nat.not_lt.1 hx), Nat.mod_eq_of_lt (by omega)]⟩

/-- A count corrected by `d` pitches moves a distance round the turret by `d`, once round at most (R7, R12). -/
theorem minusMod_shift {p a c q : Nat} (ha : a < p) (hc : c < p) :
    minusMod p a q = if p ≤ minusMod p c q + minusMod p a c then minusMod p c q + minusMod p a c - p
      else minusMod p c q + minusMod p a c := by
  have hq : q % p < p := Nat.mod_lt q (by omega)
  have hmoved := @mod_below_twice (a + (p - q % p)) p (by omega)
  have hwas := @mod_below_twice (c + (p - q % p)) p (by omega)
  have hshift := @mod_below_twice (a + (p - c)) p (by omega)
  unfold minusMod
  rw [Nat.mod_eq_of_lt hc]
  split <;> omega

/-- The state whose count the slip has corrected (R7). -/
def State.corrected (s : State) : State := { s with tracker := { s.tracker with c := s.expectedCount } }

/-- The travel after the correction: 256 for each pitch of the slip, and once round from the infeed (R12, R14). -/
theorem State.corrected_travel (hc : s.tracker.c < s.pocketCount) (k : Fin 4) : s.corrected.travel k
    = if 256 * s.pocketCount ≤ s.travel k + 256 * s.slipDistance
      then s.travel k + 256 * s.slipDistance - 256 * s.pocketCount else s.travel k + 256 * s.slipDistance := by
  have hphi := s.tracker.phi_le
  have hexpected : s.expectedCount < s.pocketCount := State.expectedCount_lt (by omega)
  have hshift := @minusMod_shift _ _ _ (s.pocketOf k) hexpected hc
  have hmoved : s.corrected.travel k
      = 256 * minusMod s.pocketCount s.expectedCount (s.pocketOf k) + s.tracker.phi := rfl
  rw [hmoved, hshift, State.travel, State.slipDistance]
  split <;> split <;> omega

/-! ## The head's own turn -/

theorem carries_travels (hdefined : s.travelDefined k = true) (hpockets : s.pocketCount = t.pocketCount) :
    s.carries d t.travels k = decide (256 * t.pocketCount ≤ t.travel k + 256 * d) := by
  rw [State.carries, hdefined, travels_get, hpockets, Bool.true_and]

/-- The slip ends head `k`'s held-back condition: it carries the head across the infeed (R14, R15). -/
def State.slipEndsHold (s : State) (k : Fin 4) : Bool :=
  s.slipped.carries s.slipDistance s.travels k && (s.slipped.tracks.get k).heldBack

theorem slip_forward (h : s.slipDistance ≤ s.pocketCount / 2) :
    slip s = (s.slipped.headOrder s.slipped.travelDefined).foldl (slipForward s.slipDistance s.travels s.slipEndsHold)
      (consulted (endHolds s.slipEndsHold s.slipped)) := by
  unfold slip
  exact if_pos h

/-- The head's own turn in a forward shift: carried across the infeed it begins a new pass, but where that ends its
held-back condition; held back still, it reports nothing. -/
theorem slipForward_turn (hdefined : s.travelDefined k = true) : slipForward d old ended s k
    = if s.carries d old k = true ∧ ended k = false then newPass k s
      else if (s.tracks.get k).heldBack = true then s else reportRise k s := by
  rw [slipForward, if_pos hdefined]

/-- The turn of a head in a forward slip: before it and after it, acts on other heads alone. -/
theorem slip_turn (hforward : s.slipDistance ≤ s.pocketCount / 2) (hdefined : s.travelDefined k = true) :
    ∃ u, SameList k s.corrected u
      ∧ u.tracks.get k = (s.tracks.get k).endHold
        (decide (256 * s.pocketCount ≤ s.travel k + 256 * s.slipDistance) && (s.tracks.get k).heldBack)
      ∧ ((s.slots.get k).write (fun r => { r with reasons := r.reasons.add .position })).sameJar (u.slots.get k)
      ∧ (u.engines.get k).phase.ungranted = (s.engines.get k).phase.ungranted
      ∧ Beside k (if 256 * s.pocketCount ≤ s.travel k + 256 * s.slipDistance ∧ (s.tracks.get k).heldBack = false
        then newPass k u else if (u.tracks.get k).heldBack = true then u else reportRise k u) (slip s) := by
  have hended : s.slipEndsHold k
      = (decide (256 * s.pocketCount ≤ s.travel k + 256 * s.slipDistance) && (s.tracks.get k).heldBack) := by
    have hcarries := @carries_travels s.slipped s k s.slipDistance hdefined rfl
    rw [State.slipEndsHold, hcarries]
    rfl
  obtain ⟨u, hu, hafter⟩ := foldl_turn (slipForward_acts s.slipDistance s.travels s.slipEndsHold)
    (mem_headOrder s.slipped s.slipped.travelDefined k) (nodup_headOrder _ _)
    (consulted (endHolds s.slipEndsHold s.slipped))
  rw [← slip_forward hforward] at hafter
  have hlist : SameList k s.corrected u := by
    have hheld := SameList.endHolds s.slipEndsHold s.slipped k
    have hconsulted : SameList k s.corrected (consulted (endHolds s.slipEndsHold s.slipped)) :=
      ⟨hheld.marks, rfl, rfl, rfl, rfl⟩
    exact hconsulted.trans (.of_bystander hu.toBystander)
  have hdefined' : u.travelDefined k = true := hlist.travelDefined.trans hdefined
  refine ⟨u, hlist, ?_, ?_, hu.ungranted, ?_⟩
  · rw [hu.track, ← hended]
    exact endHolds_tracks_get s.slipEndsHold s.slipped k
  · have hslot : s.slipped.slots.get k = (s.slots.get k).write (fun r => { r with reasons := r.reasons.add .position }) :=
      Four.get_map _ _ _
    rw [← hslot]
    exact hu.jar
  · rw [slipForward_turn hdefined', @carries_travels u s k s.slipDistance hdefined' (State.profileField_ground hlist.ground _), hended] at hafter
    by_cases hcross : 256 * s.pocketCount ≤ s.travel k + 256 * s.slipDistance
    · simp only [hcross, decide_true, Bool.true_and, true_and] at hafter ⊢
      exact hafter
    · simp only [hcross, decide_false, Bool.false_eq_true, false_and] at hafter ⊢
      exact hafter

/-- A jar released before its discharge with POSITION among its reasons is REJECTED. -/
theorem judged_position {rc : Recipe} {r : Record} (h : r.reasons.position = true) :
    (judged rc r).verdict = some .reject ∧ (judged rc r).reasons.position = true := by
  obtain ⟨v, l, u, heq⟩ := checkedReasons_eq rc r
  have hposition : (checkedReasons rc r).position = true := by rw [heq]; exact h
  refine ⟨congrArg some (verdictOf_reject fun hnone => ?_), hposition⟩
  rw [hnone] at hposition
  exact Bool.false_ne_true hposition

theorem Phase.of_ungranted_dwell {p : Phase} (h : p.ungranted = .dwell) : p = .dwell := by
  cases p <;> cases h
  rfl

/-- A_rel reached alone by a head in DWELL after the slip report: the jar is released before its discharge, REJECTED. -/
theorem reportRise_released (hdue : s.due k (some (s.travel k)) = [.rel]) (hphase : (s.engines.get k).phase = .dwell)
    (hbound : (s.slots.get k).state = .bound) (hpassed : (s.slots.get k).record.passed = false)
    (hposition : (s.slots.get k).record.reasons.position = true) :
    ((reportRise k s).slots.get k).state = .settled ∧ ((reportRise k s).slots.get k).record.verdict = some .reject
    ∧ ((reportRise k s).slots.get k).record.reasons.position = true
    ∧ ((reportRise k s).engines.get k).press = false ∧ ((reportRise k s).engines.get k).recipe = none := by
  have hreleased : reportRise k s = release k (markReached k .rel s) := by
    rw [reportRise_alone (by decide) hdue]
    show headThreshold k .rel (markReached k .rel s) = _
    have hdwell : ((markReached k .rel s).engines.get k).phase = .dwell := hphase
    simp only [headThreshold, hdwell]
  have hjar := @release_jar k (markReached k .rel s) hbound hpassed
  obtain ⟨_, _, _, hrecord⟩ := hjar.record
  obtain ⟨hverdict, hkept⟩ := @judged_position ((markReached k .rel s).boundRecipe k) (s.slots.get k).record hposition
  rw [hreleased, release_engine]
  refine ⟨hjar.state, ?_, ?_, rfl, rfl⟩
  · rw [hrecord]
    exact hverdict
  · rw [hrecord]
    exact hkept

end

/-- Settles O12: the head's own turn decides its marks, and, with the jar's reasons written by the slip report before it,
its verdict; no other turn touches them. -/
theorem forwardSlipCarriesHeadsOn : Obligations.ForwardSlipCarriesHeadsOn := by
  unfold Obligations.ForwardSlipCarriesHeadsOn
  intro s d hreset hbegun hvalid he hc hd hslips hforward moved
  let x := consulted (setLevels .quiet s)
  have hexec := exec_zeroPulse 0 .quiet hreset hbegun
  have hzero : takeZero (s.atEdge 0 .quiet) = slip x := by
    rw [atEdge_quiet he]
    exact (if_pos hvalid).trans (if_neg hslips)
  rw [hzero] at hexec
  have hdistance : x.slipDistance = d := hd.symm
  obtain ⟨htracker, hunit, hreceive, hview, -⟩ := State.still_fields (still_slip x)
  have hground := State.ground_of_still (still_slip x)
  refine ⟨_, hexec, htracker, ?_, hunit, hview, hground, hreceive⟩
  intro k hdefined crosses due
  have hshift := @State.corrected_travel x hc k
  obtain ⟨u, hlist, htrack, hjar, hungranted, hturn⟩ := @slip_turn x k (by rw [hdistance]; exact hforward) hdefined
  rw [hdistance] at hshift htrack hturn
  have htravel : (slip x).travel k = x.corrected.travel k := by
    have hpockets : (slip x).pocketCount = x.corrected.pocketCount := State.profileField_ground hground _
    rw [State.travel, State.travel, State.pocketOf, State.pocketOf, htracker, hunit, hpockets]
    rfl
  have hlast := SamePass.of_track hturn.track
  have hmarks (y : Threshold) : u.reached k y = (s.tracks.get k).marks.get y := by
    rw [State.reached, hlist.marks]
    rfl
  refine ⟨fun hnot => ?_, fun hcross => ?_, fun hnot hheld => ?_, fun hcross => ?_, fun hcross hheld y hy hmark => ?_,
    fun hcross hheld hdue y hy => ?_, fun hnot hheld => ?_⟩
  · rw [htravel, hshift]
    exact if_neg hnot
  · rw [htravel, hshift]
    exact if_pos hcross
  · have hsame : u.tracks.get k = s.tracks.get k := by
      rw [htrack, decide_eq_false (by exact hnot), Bool.false_and]
      rfl
    rw [if_neg fun h => hnot h.1, hsame, if_pos hheld] at hturn
    exact hturn.track.trans hsame
  · have hended : (u.tracks.get k).heldBack = false := by
      rw [htrack, Track.endHold_heldBack, decide_eq_true (by exact hcross)]
      cases (x.tracks.get k).heldBack <;> rfl
    rw [hlast.held]
    split
    · exact ((@Acts.refl k u).newPass.heldBack k).trans hended
    · rw [hended, if_neg Bool.false_ne_true, (@Acts.refl k u).reportRise.heldBack k, hended]
  · have hended : (u.tracks.get k).heldBack = false := by
      rw [htrack, Track.endHold_heldBack, decide_eq_true (by exact hcross)]
      cases (x.tracks.get k).heldBack <;> rfl
    rw [if_neg fun h => Bool.false_ne_true (h.2.symm.trans hheld), hended, if_neg Bool.false_ne_true] at hlast
    exact (hlast.marks y hy).trans (reportDue_profile 8 hy ((hmarks y).trans hmark))
  · rw [if_pos ⟨hcross, hheld⟩] at hlast
    have hpockets : u.pocketCount = s.pocketCount := State.profileField_ground hlist.ground _
    have hvalue : u.thresholdValue k y = s.thresholdValue k y := thresholdValue_profile hlist.ground hy
    have hnew := newPass_profile ((hlist.due none).trans hdue) (by omega) hy
    rw [hvalue, hlist.travel, ← htravel] at hnew
    exact (hlast.marks y hy).trans hnew
  · have hstill : (u.tracks.get k).heldBack = false := by
      rw [htrack, decide_eq_false (by exact hnot), Bool.false_and]
      exact hheld
    rw [if_neg fun h => hnot h.1, hstill, if_neg Bool.false_ne_true] at hturn hlast
    have hdueOf : u.due k (some (u.travel k)) = due := by
      rw [hlist.travel, hlist.due]
      rfl
    refine ⟨fun y rest hdue hy => ?_, fun hdue hbound => ?_, fun hdue hbound hdwell hpassed => ?_⟩
    · have hmark : (report k y u).reached k y = true := by
        rw [report_profile k y u hy, decide_eq_true rfl, Bool.or_true]
      have hrise : reportRise k u = reportDue k (some (u.travel k)) 7 (report k y u) :=
        reportDue_cons 7 (hdueOf.trans hdue)
      refine (hlast.marks y hy).trans ?_
      rw [hrise]
      exact reportDue_profile 7 hy hmark
    · have hkept := hturn.jar
      rw [reportRise, reportDue_empty 8 (hdueOf.trans hdue)] at hkept
      have hall := hjar.trans hkept
      rw [Slot.write, if_pos (by exact hbound)] at hall
      obtain ⟨_, _, _, hrecord⟩ := hall.record
      refine ⟨hall.state.trans hbound, ?_⟩
      rw [hrecord]
      rfl
    · rw [Slot.write, if_pos (by exact hbound)] at hjar
      obtain ⟨_, _, _, hrecord⟩ := hjar.record
      have hdwell' : (u.engines.get k).phase = .dwell :=
        Phase.of_ungranted_dwell (hungranted.trans (congrArg Phase.ungranted hdwell))
      obtain ⟨hsettled, hreject, hposition, hpress, hrecipe⟩ := reportRise_released (hdueOf.trans hdue)
        hdwell' (hjar.state.trans hbound) (by rw [hrecord]; exact hpassed) (by rw [hrecord]; rfl)
      obtain ⟨_, _, _, hrecord'⟩ := hturn.jar.record
      refine ⟨hturn.jar.state.trans hsettled, ?_, ?_, hturn.engine.press.trans hpress, hturn.engine.recipe.trans hrecipe⟩
      · rw [hrecord']
        exact hreject
      · rw [hrecord']
        exact hposition

end Sys2Proof.Machine

/-! PROOFS. A run of the arbiter: the order of the asking heads, what a grant adds to the figures of its class, and what a
run leaves of the heads that it does not grant (R142, R144 to R146). -/

namespace Sys2Proof.Machine
open Sys2Proof

/-! ## A sorted list -/

section
variable {α : Type} {before : α → α → Bool} {tie : α → α → Prop}

/-- `a` comes before `b`: by the order, or where it ranks both alike, by the place they had. -/
def Precedes (before : α → α → Bool) (tie : α → α → Prop) (a b : α) : Prop :=
  before a b = true ∧ (before b a = true → tie a b)

theorem mem_insertBy {x y : α} {l : List α} (h : y ∈ insertBy before x l) : y = x ∨ y ∈ l :=
  List.mem_cons.1 ((insertBy_perm before x l).mem_iff.1 h)

theorem insertBy_precedes (htrans : ∀ a b c, before a b = true → before b c = true → before a c = true)
    (htotal : ∀ a b, before a b = false → before b a = true) {x : α} {l : List α} (hx : ∀ y ∈ l, tie x y)
    (hl : l.Pairwise (Precedes before tie)) : (insertBy before x l).Pairwise (Precedes before tie) := by
  induction l with
  | nil => exact List.pairwise_singleton _ _
  | cons y ys ih =>
    obtain ⟨hy, hys⟩ := List.pairwise_cons.1 hl
    unfold insertBy
    split
    · next hbefore =>
      refine List.pairwise_cons.2 ⟨fun z hz => ⟨?_, fun _ => hx z hz⟩, hl⟩
      rcases List.mem_cons.1 hz with rfl | hz
      · exact hbefore
      · exact htrans x y z hbefore (hy z hz).1
    · next hbefore =>
      rw [Bool.not_eq_true] at hbefore
      refine List.pairwise_cons.2 ⟨fun z hz => ?_, ih (fun z hz => hx z (List.mem_cons_of_mem y hz)) hys⟩
      rcases mem_insertBy hz with rfl | hz
      · exact ⟨htotal _ _ hbefore, fun h => absurd h (Bool.eq_false_iff.1 hbefore)⟩
      · exact hy z hz

/-- A list sorted by a total order: in that order, and elements ranked alike in the order they had. -/
theorem sortBy_precedes (htrans : ∀ a b c, before a b = true → before b c = true → before a c = true)
    (htotal : ∀ a b, before a b = false → before b a = true) {l : List α} (hl : l.Pairwise tie) :
    (sortBy before l).Pairwise (Precedes before tie) := by
  induction l with
  | nil => exact List.Pairwise.nil
  | cons x xs ih =>
    obtain ⟨hx, hxs⟩ := List.pairwise_cons.1 hl
    exact insertBy_precedes htrans htotal (fun y hy => hx y ((sortBy_perm before xs).mem_iff.1 hy)) (ih hxs)

end

section
variable {s t : State} {j k : Fin 4} {c : DrawClass} {a : Ask}

theorem mem_arbiterOrder (s : State) (c : DrawClass) (k : Fin 4) :
    k ∈ s.arbiterOrder c ↔ s.hasHead k = true ∧ s.asks c k = true := by
  unfold State.arbiterOrder
  rw [(sortBy_perm _ _).mem_iff, List.mem_filter, State.mem_heads]

theorem nodup_arbiterOrder (s : State) (c : DrawClass) : (s.arbiterOrder c).Nodup :=
  (sortBy_perm _ _).nodup_iff.2 (List.Pairwise.filter _ s.nodup_heads)

/-- The asking heads in ascending order of slack, of equal slack in ascending order of index (R145). -/
theorem arbiterOrder_precedes (s : State) (c : DrawClass) : (s.arbiterOrder c).Pairwise
    (Precedes (fun x y => decide (s.slack x ≤ s.slack y)) (· < ·)) := by
  refine sortBy_precedes (fun x y z hxy hyz => ?_) (fun x y hxy => ?_) ?_
  · rw [decide_eq_true_eq] at hxy hyz ⊢
    exact Nat.le_trans hxy hyz
  · rw [decide_eq_false_iff_not] at hxy
    rw [decide_eq_true_eq]
    exact Nat.le_of_lt (Nat.not_le.1 hxy)
  · exact List.Pairwise.filter _ (List.Pairwise.filter _ (by decide))

theorem State.asks_iff (s : State) (c : DrawClass) (k : Fin 4) :
    s.asks c k = true ↔ ∃ a, (s.draws.get k).ask = some a ∧ a.cls = c := by
  unfold State.asks
  cases (s.draws.get k).ask with
  | none => simp
  | some a => simp

/-! ## Background moves and the figures of a class (R142) -/

theorem OwnDraw.pendingUnits_idle {d : OwnDraw} (c : DrawClass) (h : d.status ≠ .pending) : d.pendingUnits c = 0 := if_neg h

theorem Steady.roomOf (h : Steady s t) (c : DrawClass) : t.roomOf c = s.roomOf c := by
  have hcapacity : t.capacity c = s.capacity c := by
    cases c <;> exact State.profileField_ground h.ground _
  rw [State.roomOf, State.roomOf, hcapacity, h.view]

/-- Of a class, a background move without a withdrawal keeps what is PENDING, or adds to it within Room. -/
theorem Move.pendOf (h : Move false s t) (hlawful : ∀ j, (s.draws.get j).lawful = true) (c : DrawClass) :
    t.pendOf c = s.pendOf c ∨ s.pendOf c ≤ t.pendOf c ∧ s.shareOf c + t.pendOf c ≤ s.roomOf c := by
  cases h with
  | consult | refuse | position | reannounce | offer | queued | waiting => exact .inl rfl
  | closed j d =>
    refine .inl (congrArg sumHeads (funext fun k => ?_))
    by_cases hkj : k = j
    · subst hkj
      rw [modDraw_draws, Four.get_modify_same]
      rfl
    · rw [modDraw_draws, Four.get_modify_other _ _ hkj]
  | grant j a hmode hask hfits haccepts =>
    have hnone := OwnDraw.lawful_asks (hlawful j) hask
    have hzero : (s.draws.get j).pendingUnits c = 0 := OwnDraw.pendingUnits_idle c (by rw [hnone]; exact nofun)
    have hadds : State.pendOf (modEngine j Engine.granted (modDraw j (OwnDraw.granted a (s.lifeOf j a))
        (enqueue .drawOpen (openPayload j a (s.lifeOf j a)) s))) c
        = s.pendOf c + if a.cls = c then a.units else 0 := by
      refine sumHeads_add j _ ?_ fun k hkj => ?_
      · rw [modEngine_draws, modDraw_draws, Four.get_modify_same, hzero, Nat.zero_add]
        rfl
      · rw [modEngine_draws, modDraw_draws, Four.get_modify_other _ _ hkj]
        rfl
    rw [hadds]
    by_cases hcls : a.cls = c
    · subst hcls
      rw [if_pos rfl]
      have hroom : s.shareOf a.cls + s.pendOf a.cls + a.units ≤ s.roomOf a.cls := of_decide_eq_true hfits
      exact .inr ⟨by omega, by omega⟩
    · rw [if_neg hcls]
      exact .inl rfl
  | withdraw k hw => exact absurd hw Bool.false_ne_true

theorem Moves.lawfulDraws (h : Moves false s t) (hlawful : ∀ j, (s.draws.get j).lawful = true) (j : Fin 4) :
    (t.draws.get j).lawful = true := by
  have hshares : SameShares s t := h.preserve (fun _ _ hmove => hmove.shares) fun j => ⟨hlawful j, fun _ => rfl⟩
  exact (hshares j).1

/-- Grants raise what is PENDING, and never beyond Room. -/
theorem Moves.pendOf (h : Moves false s t) (hlawful : ∀ j, (s.draws.get j).lawful = true) (c : DrawClass) :
    s.pendOf c ≤ t.pendOf c
    ∧ (s.shareOf c + s.pendOf c ≤ s.roomOf c → t.shareOf c + t.pendOf c ≤ t.roomOf c) := by
  induction h with
  | refl => exact ⟨Nat.le_refl _, id⟩
  | tail hmoves hmove ih =>
    obtain ⟨hle, hwithin⟩ := ih
    have hbefore := Moves.lawfulDraws hmoves hlawful
    rw [hmove.toMoves.shareOf hbefore c, hmove.toMoves.steady.roomOf]
    rcases hmove.pendOf hbefore c with hsame | ⟨hmore, hroom⟩
    · rw [hsame]
      exact ⟨hle, hwithin⟩
    · exact ⟨Nat.le_trans hle hmore, fun _ => hroom⟩

theorem State.accepts_drawOpen_iff (s : State) (p : List Byte) : s.accepts .drawOpen p = true
    ↔ s.transmit.silenced = false ∧ s.unit.mode ≠ .fault ∧ s.transmit.normalCount < normalBound
      ∧ ∀ x ∈ s.transmit.normal, ¬(x.frame.kind = .drawOpen ∧ u8 x.frame.payload 0 = u8 p 0) := by
  simp [State.accepts, and_assoc]

/-- The queue that refuses a DRAW-OPEN goes on refusing it, nothing leaving it. -/
theorem Moves.refuses {p : List Byte} (h : Moves false s t) (hs : s.accepts .drawOpen p = false) :
    t.accepts .drawOpen p = false := by
  rw [← Bool.not_eq_true] at hs ⊢
  refine mt (fun ht => ?_) hs
  obtain ⟨l, hl⟩ := h.queue_grows
  have hline : t.transmit.onLine = s.transmit.onLine := congrArg Still.onLine h.still
  rw [State.accepts_drawOpen_iff] at ht ⊢
  obtain ⟨hsilenced, hmode, hcount, hnone⟩ := ht
  refine ⟨(State.still_slot h.still).2 ▸ hsilenced, h.steady.unit ▸ hmode, ?_, fun x hx => hnone x ?_⟩
  · rw [Transmit.normalCount, hline, ← hl, List.length_append] at hcount
    rw [Transmit.normalCount]
    omega
  · rw [← hl]
    exact List.mem_append_left l hx

/-- The travels and the marks outlive background work, and the distances with them (R141). -/
theorem Moves.distance {w : Bool} (h : Moves w s t) (k : Fin 4) (x : Nat) : t.distance k x = s.distance k x := by
  have hpockets : t.pocketCount = s.pocketCount := State.profileField_ground h.steady.ground _
  have htracker := (State.still_fields h.still).1
  simp only [State.distance, State.travel, State.pocketOf, h.backdrop.tracks, hpockets, htracker, h.steady.unit]

/-! ## The arbiter's decision on one head (R145, R146) -/

/-- Head `k` has the draw and the engine of a grant of `a` that it had in `s` for the asking, and its DRAW-OPEN is in the
queue. -/
structure Granted (s : State) (k : Fin 4) (a : Ask) (t : State) : Prop where
  draw   : t.draws.get k = OwnDraw.granted a (s.lifeOf k a) (s.draws.get k)
  engine : t.engines.get k = (s.engines.get k).granted
  frame  : ∃ x ∈ t.transmit.normal, x.frame = ⟨s.unit.node, .drawOpen, openPayload k a (s.lifeOf k a)⟩

theorem grantOne_fits (hask : (s.draws.get k).ask = some a) (hfits : s.fits a.cls a.units = true)
    (haccepts : s.accepts .drawOpen [byte k.val] = true) :
    grantOne s k = modEngine k Engine.granted (modDraw k (OwnDraw.granted a (s.lifeOf k a))
      (enqueue .drawOpen (openPayload k a (s.lifeOf k a)) s)) := by
  have haccepts' : s.accepts .drawOpen (openPayload k a (s.lifeOf k a)) = true := haccepts
  simp only [grantOne, hask, hfits, haccepts', if_true]

theorem grantOne_refused (hask : (s.draws.get k).ask = some a) (hfits : s.fits a.cls a.units = true)
    (haccepts : s.accepts .drawOpen [byte k.val] = false) :
    grantOne s k = { s with refused := s.refused.put a.cls true } := by
  have haccepts' : s.accepts .drawOpen (openPayload k a (s.lifeOf k a)) = false := haccepts
  simp only [grantOne, hask, hfits, haccepts', if_true, Bool.false_eq_true, if_false]

theorem grantOne_unfit (hask : (s.draws.get k).ask = some a) (hfits : s.fits a.cls a.units = false) :
    grantOne s k = s := by
  simp only [grantOne, hask, hfits, Bool.false_eq_true, if_false]

theorem granted_grantOne (hask : (s.draws.get k).ask = some a) (hfits : s.fits a.cls a.units = true)
    (haccepts : s.accepts .drawOpen [byte k.val] = true) : Granted s k a (grantOne s k) := by
  rw [grantOne_fits hask hfits haccepts]
  refine ⟨?_, ?_, ⟨⟨s.unit.node, .drawOpen, openPayload k a (s.lifeOf k a)⟩, 0, s.transmit.ticket⟩, ?_, rfl⟩
  · rw [modEngine_draws, modDraw_draws, Four.get_modify_same]
    rfl
  · rw [modEngine_engines, Four.get_modify_same]
    rfl
  · exact List.mem_append_right _ List.mem_cons_self

theorem grantOne_other (s : State) (h : k ≠ j) :
    (grantOne s j).draws.get k = s.draws.get k ∧ (grantOne s j).engines.get k = s.engines.get k := by
  unfold grantOne
  split
  · exact ⟨rfl, rfl⟩
  · split
    · split
      · rw [modEngine_draws, modDraw_draws, modEngine_engines, Four.get_modify_other _ _ h, Four.get_modify_other _ _ h]
        exact ⟨rfl, rfl⟩
      · exact ⟨rfl, rfl⟩
    · exact ⟨rfl, rfl⟩

theorem grantOne_refusals (s : State) (j : Fin 4) (h : s.refused.get c = true) : (grantOne s j).refused.get c = true := by
  unfold grantOne
  split
  · exact h
  · next a _ =>
    split
    · split
      · exact h
      · show (s.refused.put a.cls true).get c = true
        by_cases hcls : a.cls = c
        · rw [hcls, PerClass.get_put_same]
        · rw [PerClass.get_put_other _ _ hcls, h]
    · exact h

/-! ## The run (R144, R145) -/

theorem grants_others {l : List (Fin 4)} (h : k ∉ l) (s : State) :
    (l.foldl grantOne s).draws.get k = s.draws.get k ∧ (l.foldl grantOne s).engines.get k = s.engines.get k :=
  ⟨@foldl_others _ _ grantOne (fun x => x.draws.get k) k (fun x _ hj => (grantOne_other x hj.symm).1) l h s,
    @foldl_others _ _ grantOne (fun x => x.engines.get k) k (fun x _ hj => (grantOne_other x hj.symm).2) l h s⟩

theorem moves_grants (l : List (Fin 4)) (h : s.unit.mode.keepsView = true) : Moves false s (l.foldl grantOne s) := by
  induction l generalizing s with
  | nil => exact .refl
  | cons j l ih =>
    have hunit := (@moves_grantOne false s j h).steady.unit
    exact (moves_grantOne s j h).trans (ih (by rw [hunit]; exact h))

theorem grants_refusals (l : List (Fin 4)) (h : s.refused.get c = true) : (l.foldl grantOne s).refused.get c = true := by
  induction l generalizing s with
  | nil => exact h
  | cons j l ih => exact ih (grantOne_refusals s j h)

/-- A grant outlives the decisions on the other heads. -/
theorem Granted.later {l : List (Fin 4)} (h : Granted s k a t) (hk : k ∉ l) (hmode : t.unit.mode.keepsView = true) :
    Granted s k a (l.foldl grantOne t) := by
  obtain ⟨hdraw, hengine⟩ := grants_others hk t
  obtain ⟨x, hx, hframe⟩ := h.frame
  exact ⟨hdraw.trans h.draw, hengine.trans h.engine, x, (moves_grants l hmode).queue_grows.subset hx, hframe⟩

/-- Before its own turn nothing of a head's grant has changed. -/
theorem Granted.earlier {u : State} (h : Granted u k a t) (hmoves : Moves false s u)
    (hdraw : u.draws.get k = s.draws.get k) (hengine : u.engines.get k = s.engines.get k) : Granted s k a t := by
  have hlife : u.lifeOf k a = s.lifeOf k a := by rw [State.lifeOf, State.lifeOf, hmoves.distance]
  obtain ⟨hd, he, x, hx, hframe⟩ := h
  rw [hlife, hdraw] at hd
  rw [hengine] at he
  rw [hlife, hmoves.steady.unit] at hframe
  exact ⟨hd, he, x, hx, hframe⟩

/-- An asking head that a run leaves as it was: it fits no more, or its frame was refused and it waits for a removal. -/
structure LeftAsking (c : DrawClass) (s : State) (k : Fin 4) (a : Ask) (t : State) : Prop where
  draw   : t.draws.get k = s.draws.get k
  engine : t.engines.get k = s.engines.get k
  why    : t.roomOf c < t.shareOf c + t.pendOf c + a.units
    ∨ t.accepts .drawOpen [byte k.val] = false ∧ t.refused.get c = true

/-- Each asking head is granted, within Room, or left asking. -/
theorem grants_decide {l : List (Fin 4)} (hmode : s.unit.mode.keepsView = true)
    (hlawful : ∀ j, (s.draws.get j).lawful = true) (hk : k ∈ l) (hl : l.Nodup) (hask : (s.draws.get k).ask = some a)
    (hcls : a.cls = c) : Granted s k a (l.foldl grantOne s)
        ∧ (l.foldl grantOne s).shareOf c + (l.foldl grantOne s).pendOf c ≤ (l.foldl grantOne s).roomOf c
      ∨ LeftAsking c s k a (l.foldl grantOne s) := by
  obtain ⟨l₁, l₂, h₁, h₂, hsplit⟩ := foldl_split grantOne hk hl s
  obtain ⟨hdraw, hengine⟩ := grants_others h₁ s
  have hbefore : Moves false s (l₁.foldl grantOne s) := moves_grants l₁ hmode
  have hlawful₁ := hbefore.lawfulDraws hlawful
  rw [hsplit]
  generalize l₁.foldl grantOne s = u at hdraw hengine hbefore hlawful₁
  have hmode₁ : u.unit.mode.keepsView = true := by rw [hbefore.steady.unit]; exact hmode
  have hturn : Moves false u (grantOne u k) := moves_grantOne u k hmode₁
  have hmode₂ : (grantOne u k).unit.mode.keepsView = true := by rw [hturn.steady.unit]; exact hmode₁
  have hafter : Moves false (grantOne u k) (l₂.foldl grantOne (grantOne u k)) := moves_grants l₂ hmode₂
  obtain ⟨hpend, hwithin⟩ := hafter.pendOf (hturn.lawfulDraws hlawful₁) c
  have hshare := hafter.shareOf (hturn.lawfulDraws hlawful₁) c
  obtain ⟨hdraw₂, hengine₂⟩ := grants_others h₂ (grantOne u k)
  have hask₁ : (u.draws.get k).ask = some a := by rw [hdraw]; exact hask
  subst hcls
  cases hfits : u.fits a.cls a.units with
  | false =>
    have hsame := grantOne_unfit hask₁ hfits
    rw [hsame] at hafter hpend hshare hdraw₂ hengine₂ ⊢
    refine .inr ⟨hdraw₂.trans hdraw, hengine₂.trans hengine, .inl ?_⟩
    have hover : u.roomOf a.cls < u.shareOf a.cls + u.pendOf a.cls + a.units := Nat.not_le.1 (of_decide_eq_false hfits)
    rw [hafter.steady.roomOf, hshare]
    omega
  | true =>
    cases haccepts : u.accepts .drawOpen [byte k.val] with
    | false =>
      have hrefused := grantOne_refused hask₁ hfits haccepts
      rw [hrefused] at hafter hdraw₂ hengine₂ ⊢
      refine .inr ⟨hdraw₂.trans hdraw, hengine₂.trans hengine, .inr ⟨hafter.refuses haccepts, grants_refusals l₂ ?_⟩⟩
      exact PerClass.get_put_same _ _ _
    | true =>
      refine .inl ⟨((granted_grantOne hask₁ hfits haccepts).later h₂ hmode₂).earlier hbefore hdraw hengine, hwithin ?_⟩
      have hroom : u.shareOf a.cls + u.pendOf a.cls + a.units ≤ u.roomOf a.cls := of_decide_eq_true hfits
      exact (hturn.pendOf hlawful₁ _).2 (by omega)

/-- Heads that do not fit are passed over without a change. -/
theorem grants_unfit {l : List (Fin 4)}
    (h : ∀ j ∈ l, ∃ b, (s.draws.get j).ask = some b ∧ s.fits b.cls b.units = false) : l.foldl grantOne s = s := by
  induction l with
  | nil => rfl
  | cons j l ih =>
    obtain ⟨b, hask, hfits⟩ := h j List.mem_cons_self
    rw [List.foldl_cons, grantOne_unfit hask hfits]
    exact ih fun i hi => h i (List.mem_cons_of_mem j hi)

/-- The first fitting head in the order is granted where the queue takes its frame (R145). -/
theorem arbiter_first (hmode : s.unit.mode.keepsView = true) (hask : (s.draws.get k).ask = some a) (hcls : a.cls = c)
    (hk : s.hasHead k = true) (hfits : s.fits c a.units = true) (haccepts : s.accepts .drawOpen [byte k.val] = true)
    (hleast : ∀ j b, (s.draws.get j).ask = some b → b.cls = c → s.hasHead j = true → s.fits c b.units = true →
      s.slack k < s.slack j ∨ s.slack k = s.slack j ∧ k ≤ j) : Granted s k a (arbiter c s) := by
  have hmem : k ∈ s.arbiterOrder c := (mem_arbiterOrder s c k).2 ⟨hk, (s.asks_iff c k).2 ⟨a, hask, hcls⟩⟩
  have hnodup := nodup_arbiterOrder s c
  have hsorted := arbiterOrder_precedes s c
  obtain ⟨l₁, l₂, horder⟩ := List.append_of_mem hmem
  have hunfit (j : Fin 4) (hj : j ∈ l₁) : ∃ b, (s.draws.get j).ask = some b ∧ s.fits b.cls b.units = false := by
    have hjmem : j ∈ s.arbiterOrder c := by rw [horder]; exact List.mem_append_left _ hj
    obtain ⟨hhead, hasks⟩ := (mem_arbiterOrder s c j).1 hjmem
    obtain ⟨b, hb, hbcls⟩ := (s.asks_iff c j).1 hasks
    refine ⟨b, hb, ?_⟩
    rw [hbcls]
    refine Bool.eq_false_iff.2 fun hfit => ?_
    rw [horder] at hsorted
    obtain ⟨hle, htie⟩ := (List.pairwise_append.1 hsorted).2.2 j hj k List.mem_cons_self
    rw [decide_eq_true_eq] at hle htie
    rcases hleast j b hb hbcls hhead hfit with hless | ⟨heq, hkj⟩
    · omega
    · exact absurd (htie (Nat.le_of_eq heq)) (Nat.not_lt.2 hkj)
  rw [horder] at hnodup
  have hk₂ : k ∉ l₂ := (List.nodup_cons.1 (List.nodup_append.1 hnodup).2.1).1
  subst hcls
  rw [arbiter, if_pos hmode, horder, List.foldl_append, grants_unfit hunfit, List.foldl_cons]
  refine (granted_grantOne hask hfits haccepts).later hk₂ ?_
  rw [(@moves_grantOne false s k hmode).steady.unit]
  exact hmode

/-- A run where one head alone asks is the decision on that head. -/
theorem arbiter_sole (hmode : s.unit.mode.keepsView = true) (hask : (s.draws.get k).ask = some a) (hcls : a.cls = c)
    (hk : s.hasHead k = true) (hsole : ∀ j, j ≠ k → s.asks c j = false) : arbiter c s = grantOne s k := by
  have hmem : k ∈ s.arbiterOrder c := (mem_arbiterOrder s c k).2 ⟨hk, (s.asks_iff c k).2 ⟨a, hask, hcls⟩⟩
  have honly (j : Fin 4) (hj : j ∈ s.arbiterOrder c) : j = k := by
    refine Classical.byContradiction fun hne => ?_
    exact Bool.false_ne_true ((hsole j hne).symm.trans ((mem_arbiterOrder s c j).1 hj).2)
  have horder : s.arbiterOrder c = [k] :=
    eq_singleton_of_nodup (nodup_arbiterOrder s c) hmem honly
  rw [arbiter, if_pos hmode, horder]
  rfl

/-! ## A check that finds the class within Room (R147) -/

theorem withdrawals_within (h : s.overRoom c = false) : withdrawals c s = s := by
  have hfold (l : List (Fin 4)) : l.foldl (withdrawOne c) s = s := by
    induction l with
    | nil => rfl
    | cons j l ih =>
      have hkept : withdrawOne c s j = s := if_neg (by rw [h]; exact Bool.false_ne_true)
      rw [List.foldl_cons, hkept, ih]
  exact hfold _

theorem checkAndRun_within (h : s.overRoom c = false) : checkAndRun c s = arbiter c s := by
  rw [checkAndRun, withdrawalCheck, withdrawals_within h, Nat.sub_self]
  rfl

end

/-- Settles O23: each head is decided once, in the order of slack; the runs of the other heads keep what its grant gave, or
why it had none. -/
theorem arbiterGrantsByLeastSlack : Obligations.ArbiterGrantsByLeastSlack := by
  unfold Obligations.ArbiterGrantsByLeastSlack
  refine ⟨?_, ?_⟩
  · intro s c hmode hlawful t life granted
    have hmoves : Moves false s t := moves_arbiter c s
    have hrun : t = (s.arbiterOrder c).foldl grantOne s := if_pos hmode
    have hgranted (k : Fin 4) (a : Ask) (hcls : a.cls = c) (h : Granted s k a t) : granted k a := by
      subst hcls
      refine ⟨h.draw, ?_, h.frame⟩
      rw [h.engine, Engine.granted]
      cases (s.engines.get k).phase <;> rfl
    have hunasked (k : Fin 4) (h : ¬(s.hasHead k = true ∧ s.asks c k = true)) :
        t.draws.get k = s.draws.get k ∧ t.engines.get k = s.engines.get k := by
      rw [hrun]
      exact grants_others (mt (mem_arbiterOrder s c k).1 h) s
    refine ⟨fun k hk => hunasked k fun h => Bool.false_ne_true (hk.symm.trans h.2), fun k a hask hcls => ?_,
      fun k a hask hcls hk hfits haccepts hleast => ?_, hmoves.shareOf hlawful c, hmoves.queue_grows, arbiter_slots c s,
      hmoves.backdrop.channels, hmoves.steady.unit, hmoves.steady.view, hmoves.steady.receive, hmoves.steady.ground⟩
    · by_cases hk : s.hasHead k = true
      · have hmem := (mem_arbiterOrder s c k).2 ⟨hk, (s.asks_iff c k).2 ⟨a, hask, hcls⟩⟩
        have hdecided := grants_decide hmode hlawful hmem (nodup_arbiterOrder s c) hask hcls
        rw [← hrun] at hdecided
        rcases hdecided with ⟨hgrant, hroom⟩ | hleft
        · exact .inl ⟨hgranted k a hcls hgrant, hk, hroom⟩
        · exact .inr ⟨hleft.draw, hleft.engine, fun _ => hleft.why⟩
      · obtain ⟨hdraw, hengine⟩ := hunasked k fun h => hk h.1
        exact .inr ⟨hdraw, hengine, fun h => absurd h hk⟩
    · refine hgranted k a hcls (arbiter_first hmode hask hcls hk (decide_eq_true hfits) haccepts ?_)
      exact fun j b hb hbcls hj hfit => hleast j b hb hbcls hj (of_decide_eq_true hfit)
  · intro s f rest c k a hdel hlen hmode hnode hgroup hcls hknown after hask hacls hk hsole hroom hfits haccepts
    have hhears : (s.withFrames rest).hearsClose f := ⟨hmode, hnode, hgroup⟩
    let x : State := { s.withFrames rest with view := after.view }
    have hremoved : removeEntry f.source (u8 f.payload 0) c (s.withFrames rest) = checkAndRun c x := by
      obtain ⟨e, he, hkey⟩ := hknown
      exact if_pos (List.any_eq_true.2 ⟨e, he, (ViewEntry.hasKey_iff _ _ _ e).2 hkey⟩)
    have hroom' : x.overRoom c = false := hroom
    have hgrant : checkAndRun c x = grantOne x k :=
      (checkAndRun_within hroom').trans (arbiter_sole hmode hask hacls hk hsole)
    have hexec := exec_drawClose hdel
    rw [needing_length 2 _ f _ hlen, takeDrawClose_heard hhears hcls, hremoved, hgrant] at hexec
    subst hacls
    have hgranted := @granted_grantOne x k a hask (decide_eq_true hfits) haccepts
    have hsteady := (@moves_grantOne false x k hmode).steady
    refine ⟨_, hexec, hsteady.view, by rw [hgranted.draw]; rfl, by rw [hgranted.draw]; rfl, by rw [hgranted.draw]; rfl,
      by rw [hgranted.draw]; rfl, ?_, hsteady.unit, hsteady.receive, hsteady.ground⟩
    rw [@grantOne_fits x k a hask (decide_eq_true hfits) haccepts]
    rfl

end Sys2Proof.Machine

/-! PROOFS. The withdrawal check: whose draws it takes back, in what order and how far, and what it leaves in the queue
(R44, R147, R148). -/

namespace Sys2Proof.Machine
open Sys2Proof

section
variable {s t u : State} {j k : Fin 4} {c : DrawClass} {a : Ask} {l m : List (Fin 4)}

/-! ## The frames of a withdrawal (R44) -/

theorem Frame.isDrawOpenOf_other {f : Frame} (h : f.isDrawOpenOf j = true) (hkj : k ≠ j) : f.isDrawOpenOf k = false := by
  simp only [Frame.isDrawOpenOf, Bool.and_eq_true, decide_eq_true_eq] at h
  have hother : ¬j.val = k.val := fun heq => hkj (Fin.ext heq.symm)
  rw [Frame.isDrawOpenOf, h.1, h.2, decide_eq_false hother, Bool.and_false]

theorem any_removed (hkj : k ≠ j) (q : List TxFrame) :
    (q.filter (fun g => !g.frame.isDrawOpenOf j)).any (fun g => g.frame.isDrawOpenOf k)
      = q.any (fun g => g.frame.isDrawOpenOf k) := by
  rw [Bool.eq_iff_iff, List.any_eq_true, List.any_eq_true]
  refine ⟨fun ⟨x, hx, hopen⟩ => ⟨x, (List.mem_filter.1 hx).1, hopen⟩, fun ⟨x, hx, hopen⟩ => ⟨x, ?_, hopen⟩⟩
  exact List.mem_filter.2 ⟨hx, by rw [Frame.isDrawOpenOf_other hopen hkj.symm]; rfl⟩

/-- A withdrawal takes no other head's frame, and the frame in transmission stays where it is. -/
theorem withdrawable_removed (hkj : k ≠ j) (hj : s.withdrawable j = true) :
    (removeDrawOpen j s).withdrawable k = s.withdrawable k := by
  unfold State.withdrawable at hj ⊢
  unfold removeDrawOpen
  dsimp only
  cases hline : s.transmit.onLine with
  | normal =>
    rw [hline] at hj
    cases hnormal : s.transmit.normal with
    | nil => rfl
    | cons f rest =>
      rw [hnormal] at hj
      simp only [Bool.and_eq_true, Bool.not_eq_true'] at hj
      simp only [List.filter_cons, hj.1, Bool.not_false, if_true, any_removed hkj]
  | none | halt | orphan => exact any_removed hkj _

/-! ## The turn of one draw (R147, R148) -/

theorem withdrawDraw_withdrawable (hkj : k ≠ j) (hj : s.withdrawable j = true) :
    (withdrawDraw j s).withdrawable k = s.withdrawable k := withdrawable_removed hkj hj

theorem withdrawOne_passes (h : (s.overRoom c && s.withdrawable k) = false) : withdrawOne c s k = s :=
  if_neg (by rw [h]; exact Bool.false_ne_true)

theorem withdrawOne_takes (hover : s.overRoom c = true) (hw : s.withdrawable k = true) :
    withdrawOne c s k = withdrawDraw k s := if_pos (by rw [hover, hw]; rfl)

/-- Another head's turn leaves head `k`'s draw, engine and frame. -/
theorem withdrawOne_other (c : DrawClass) (s : State) (h : k ≠ j) :
    (withdrawOne c s j).draws.get k = s.draws.get k ∧ (withdrawOne c s j).engines.get k = s.engines.get k
    ∧ (withdrawOne c s j).withdrawable k = s.withdrawable k := by
  unfold withdrawOne
  split
  · next hact =>
    rw [Bool.and_eq_true] at hact
    exact ⟨Four.get_modify_other _ _ h, Four.get_modify_other _ _ h, withdrawDraw_withdrawable h hact.2⟩
  · exact ⟨rfl, rfl, rfl⟩

theorem withdrawOnes_other (c : DrawClass) (h : k ∉ l) (s : State) :
    (l.foldl (withdrawOne c) s).draws.get k = s.draws.get k
    ∧ (l.foldl (withdrawOne c) s).engines.get k = s.engines.get k
    ∧ (l.foldl (withdrawOne c) s).withdrawable k = s.withdrawable k := by
  have hall := @foldl_others _ _ (withdrawOne c)
    (fun x => (x.draws.get k, x.engines.get k, x.withdrawable k)) k (fun x j hj => by
      obtain ⟨hdraw, hengine, hw⟩ := withdrawOne_other c x hj.symm
      rw [hdraw, hengine, hw]) l h s
  simpa only [Prod.mk.injEq] using hall

theorem withdrawOnes_within (h : s.overRoom c = false) (l : List (Fin 4)) : l.foldl (withdrawOne c) s = s := by
  induction l with
  | nil => rfl
  | cons j l ih => rw [List.foldl_cons, withdrawOne_passes (by rw [h, Bool.false_and]), ih]

/-- Nothing but draws, engines and the normal part of the queue changes. -/
theorem withdrawOnes_rest (c : DrawClass) (l : List (Fin 4)) (s : State) :
    (l.foldl (withdrawOne c) s).slots = s.slots ∧ (l.foldl (withdrawOne c) s).channels = s.channels
    ∧ (l.foldl (withdrawOne c) s).still = s.still := by
  induction l generalizing s with
  | nil => exact ⟨rfl, rfl, rfl⟩
  | cons j l ih =>
    obtain ⟨hslots, hchannels, hstill⟩ := ih (withdrawOne c s j)
    have hone : (withdrawOne c s j).slots = s.slots ∧ (withdrawOne c s j).channels = s.channels
        ∧ (withdrawOne c s j).still = s.still := by
      unfold withdrawOne
      split <;> exact ⟨rfl, rfl, rfl⟩
    exact ⟨hslots.trans hone.1, hchannels.trans hone.2.1, hstill.trans hone.2.2⟩

/-- Head `k` has lost the draw of terms `a` that it had in `s`, its ask restored but for STEAM on a stalled turret, and
waits again (R148). -/
structure Withdrawn (s : State) (k : Fin 4) (a : Ask) (t : State) : Prop where
  draw   : t.draws.get k = OwnDraw.ended (if a.cls = .steam ∧ s.tracker.motion = .stalled then none else some a) (s.draws.get k)
  engine : t.engines.get k = (s.engines.get k).withdrawn (decide ¬(a.cls = .steam ∧ s.tracker.motion = .stalled))

theorem withdrawn_withdrawDraw (hterms : (s.draws.get k).terms = some a) : Withdrawn s k a (withdrawDraw k s) := by
  have hrestored : s.restoredAsk (s.draws.get k)
      = if a.cls = .steam ∧ s.tracker.motion = .stalled then none else some a := by
    rw [State.restoredAsk, hterms]
  have hasks : (s.restoredAsk (s.draws.get k)).isSome = decide ¬(a.cls = .steam ∧ s.tracker.motion = .stalled) := by
    rw [hrestored]
    split
    · next h => rw [decide_eq_false (Classical.not_not.2 h)]; rfl
    · next h => rw [decide_eq_true h]; rfl
  refine ⟨?_, ?_⟩
  · rw [← hrestored]
    exact Four.get_modify_same _ _ _
  · rw [← hasks]
    exact Four.get_modify_same _ _ _

/-- An announced head waits again in its class, asking where the ask is restored. -/
theorem Engine.withdrawn_waits {x : Engine} (h : x.phase = if c = .steam then .steamAnnounced else .driveAnnounced)
    (asking : Bool) : (x.withdrawn asking).phase = (if c = .steam then .steamWait else .driveWait)
      ∧ (x.withdrawn asking).asking = asking := by
  unfold Engine.withdrawn
  cases c with
  | steam =>
    rw [if_pos rfl] at h
    rw [h]
    exact ⟨rfl, rfl⟩
  | drive =>
    rw [if_neg nofun] at h
    rw [h]
    exact ⟨rfl, rfl⟩

/-- The turns before a head's own, its own, and those after it. -/
theorem withdrawals_turn (hk : k ∈ s.withdrawalOrder c) : ∃ l₁ l₂, s.withdrawalOrder c = l₁ ++ k :: l₂ ∧ k ∉ l₁ ∧ k ∉ l₂ := by
  obtain ⟨l₁, l₂, horder⟩ := List.append_of_mem hk
  have hnodup := nodup_withdrawalOrder s c
  rw [horder, List.nodup_append, List.nodup_cons] at hnodup
  obtain ⟨-, ⟨h₂, -⟩, hdisjoint⟩ := hnodup
  exact ⟨l₁, l₂, horder, fun h₁ => hdisjoint k h₁ k List.mem_cons_self rfl, h₂⟩

/-- In descending order of slack, of equal slack in descending order of index (R147). -/
theorem withdrawalOrder_precedes (s : State) (c : DrawClass) : (s.withdrawalOrder c).Pairwise
    (Precedes (fun x y => decide (s.slack y ≤ s.slack x)) (fun x y => y < x)) := by
  refine sortBy_precedes (fun x y z hxy hyz => ?_) (fun x y hxy => ?_) (List.Pairwise.filter _ (by decide))
  · rw [decide_eq_true_eq] at hxy hyz ⊢
    exact Nat.le_trans hyz hxy
  · rw [decide_eq_false_iff_not] at hxy
    rw [decide_eq_true_eq]
    exact Nat.le_of_lt (Nat.not_le.1 hxy)

/-! ## The withdrawals of a check (R147, R148) -/

/-- A head in the order loses its draw, or keeps it: its frame was out of reach, or the class was within Room, and there
the check ends. -/
theorem withdrawals_decide (horder : s.withdrawalOrder c = l ++ k :: m) (h₁ : k ∉ l) (h₂ : k ∉ m)
    (hterms : (s.draws.get k).terms = some a) : Withdrawn s k a (withdrawals c s) ∧ s.withdrawable k = true
      ∨ ((withdrawals c s).draws.get k = s.draws.get k ∧ (withdrawals c s).engines.get k = s.engines.get k
        ∧ (withdrawals c s).withdrawable k = s.withdrawable k
        ∧ (s.withdrawable k = false ∨ withdrawals c s = l.foldl (withdrawOne c) s
          ∧ (withdrawals c s).overRoom c = false)) := by
  have hsplit : withdrawals c s = m.foldl (withdrawOne c) (withdrawOne c (l.foldl (withdrawOne c) s) k) := by
    rw [withdrawals, horder, List.foldl_append, List.foldl_cons]
  obtain ⟨hdraw, hengine, hw⟩ := withdrawOnes_other c h₁ s
  obtain ⟨-, -, hstill⟩ := withdrawOnes_rest c l s
  rw [hsplit]
  generalize l.foldl (withdrawOne c) s = u at hdraw hengine hw hstill
  obtain ⟨hdraw₂, hengine₂, hw₂⟩ := withdrawOnes_other c h₂ (withdrawOne c u k)
  by_cases htakes : u.overRoom c = true ∧ u.withdrawable k = true
  · refine .inl ⟨?_, hw.symm.trans htakes.2⟩
    have hwithdrawn := withdrawn_withdrawDraw (hdraw ▸ hterms)
    rw [withdrawOne_takes htakes.1 htakes.2] at hdraw₂ hengine₂ ⊢
    have htracker := (State.still_fields hstill).1
    have hd := hdraw₂.trans hwithdrawn.draw
    have he := hengine₂.trans hwithdrawn.engine
    rw [hdraw, htracker] at hd
    rw [hengine, htracker] at he
    exact ⟨hd, he⟩
  · have hpasses : (u.overRoom c && u.withdrawable k) = false := by
      rw [← Bool.not_eq_true, Bool.and_eq_true]
      exact htakes
    rw [withdrawOne_passes hpasses] at hdraw₂ hengine₂ hw₂ ⊢
    refine .inr ⟨hdraw₂.trans hdraw, hengine₂.trans hengine, hw₂.trans hw, ?_⟩
    cases hreach : u.withdrawable k with
    | false => exact .inl (hw.symm.trans hreach)
    | true =>
      rw [hreach, Bool.and_true] at hpasses
      rw [withdrawOnes_within hpasses m]
      exact .inr ⟨rfl, hpasses⟩

theorem withdrawals_unlisted (hk : k ∉ s.withdrawalOrder c) :
    (withdrawals c s).draws.get k = s.draws.get k ∧ (withdrawals c s).engines.get k = s.engines.get k := by
  obtain ⟨hdraw, hengine, -⟩ := withdrawOnes_other c hk s
  exact ⟨hdraw, hengine⟩

/-- Where nothing else is said, a head keeps its draw and its engine. -/
theorem withdrawals_each (k : Fin 4) : (∃ a, (s.draws.get k).status = .pending ∧ (s.draws.get k).terms = some a ∧ a.cls = c
      ∧ s.withdrawable k = true ∧ Withdrawn s k a (withdrawals c s))
    ∨ (withdrawals c s).draws.get k = s.draws.get k ∧ (withdrawals c s).engines.get k = s.engines.get k := by
  by_cases hk : k ∈ s.withdrawalOrder c
  · obtain ⟨hstatus, hcls⟩ := mem_withdrawalOrder.1 hk
    obtain ⟨a, hterms, hacls⟩ := Option.map_eq_some_iff.1 hcls
    obtain ⟨l₁, l₂, horder, h₁, h₂⟩ := withdrawals_turn hk
    rcases withdrawals_decide horder h₁ h₂ hterms with ⟨hwithdrawn, hw⟩ | ⟨hdraw, hengine, -⟩
    · exact .inl ⟨a, hstatus, hterms, hacls, hw, hwithdrawn⟩
    · exact .inr ⟨hdraw, hengine⟩
  · exact .inr (withdrawals_unlisted hk)

/-- A draw taken back goes before a draw in reach that is left: it has more slack, or the same and the higher index. -/
theorem withdrawals_ordered (hj : j ∈ s.withdrawalOrder c) (hk : k ∈ s.withdrawalOrder c)
    (hgone : ((withdrawals c s).draws.get j).status = .none) (hkept : ((withdrawals c s).draws.get k).status = .pending)
    (hw : s.withdrawable k = true) : s.slack k < s.slack j ∨ s.slack k = s.slack j ∧ k < j := by
  have hjk : j ≠ k := by
    rintro rfl
    cases hgone.symm.trans hkept
  obtain ⟨hstatus, hcls⟩ := mem_withdrawalOrder.1 hk
  obtain ⟨a, hterms, -⟩ := Option.map_eq_some_iff.1 hcls
  obtain ⟨l₁, l₂, horder, h₁, h₂⟩ := withdrawals_turn hk
  have hsorted := withdrawalOrder_precedes s c
  rw [horder] at hj hsorted
  rcases withdrawals_decide horder h₁ h₂ hterms with ⟨hwithdrawn, -⟩ | ⟨-, -, -, hout | ⟨hstops, -⟩⟩
  · rw [hwithdrawn.draw] at hkept
    cases hkept
  · exact absurd (hout.symm.trans hw) Bool.false_ne_true
  · have hj₁ : j ∈ l₁ := by
      refine Classical.byContradiction fun hj₁ => ?_
      obtain ⟨hdraw, -⟩ := withdrawOnes_other c hj₁ s
      have hmem : j ∈ s.withdrawalOrder c := by rw [horder]; exact hj
      rw [hstops, hdraw, (mem_withdrawalOrder.1 hmem).1] at hgone
      cases hgone
    obtain ⟨hle, htie⟩ := (List.pairwise_append.1 hsorted).2.2 j hj₁ k List.mem_cons_self
    rw [decide_eq_true_eq] at hle htie
    rcases Nat.lt_or_eq_of_le hle with hless | heq
    · exact .inl hless
    · exact .inr ⟨heq, htie (Nat.le_of_eq heq.symm)⟩

/-- The check ends within Room, or with no draw of the class in reach. -/
theorem withdrawals_end (hover : (withdrawals c s).overRoom c = true)
    (hpending : ((withdrawals c s).draws.get k).status = .pending)
    (hterms : ((withdrawals c s).draws.get k).terms = some a) (hcls : a.cls = c) :
    (withdrawals c s).withdrawable k = false := by
  have hsame : (withdrawals c s).draws.get k = s.draws.get k := by
    rcases @withdrawals_each s c k with ⟨b, -, -, -, -, hwithdrawn⟩ | ⟨hdraw, -⟩
    · rw [hwithdrawn.draw] at hpending
      cases hpending
    · exact hdraw
  rw [hsame] at hpending hterms
  have hk : k ∈ s.withdrawalOrder c := mem_withdrawalOrder.2 ⟨hpending, by rw [hterms, Option.map_some, hcls]⟩
  obtain ⟨l₁, l₂, horder, h₁, h₂⟩ := withdrawals_turn hk
  rcases withdrawals_decide horder h₁ h₂ hterms with ⟨hwithdrawn, -⟩ | ⟨-, -, hw, hout | ⟨-, hwithin⟩⟩
  · rw [hwithdrawn.draw] at hsame
    rw [← hsame] at hpending
    cases hpending
  · exact hw.trans hout
  · exact absurd (hwithin.symm.trans hover) Bool.false_ne_true

/-- The frames that the loss of draws takes from the queue. -/
def keptFrame (s t : State) (f : Frame) : Bool :=
  headIndexes.all fun k => !(f.isDrawOpenOf k && decide ((s.draws.get k).status = .pending)
    && decide ((t.draws.get k).status = .none))

theorem keptFrame_iff (s t : State) (f : Frame) : keptFrame s t f = true
    ↔ ∀ k, f.isDrawOpenOf k = true → (s.draws.get k).status = .pending → (t.draws.get k).status ≠ .none := by
  simp only [keptFrame, List.all_eq_true, Bool.not_eq_true', ← Bool.not_eq_true, Bool.and_eq_true, decide_eq_true_eq]
  exact ⟨fun h k hopen hwas hgone => h k (mem_headIndexes k) ⟨⟨hopen, hwas⟩, hgone⟩,
    fun h k _ ⟨⟨hopen, hwas⟩, hgone⟩ => h k hopen hwas hgone⟩

/-- The turns take from the queue the frames of the draws that they take back, and keep the others in their order. -/
theorem withdrawOnes_normal (hl : l.Nodup) (hpending : ∀ j ∈ l, (s.draws.get j).status = .pending) :
    (l.foldl (withdrawOne c) s).transmit.normal
      = s.transmit.normal.filter (fun x => keptFrame s (l.foldl (withdrawOne c) s) x.frame) := by
  induction l using list_reverse_induction with
  | nil =>
    refine (List.filter_eq_self.2 fun x _ => (keptFrame_iff s s x.frame).2 fun k _ hstatus => ?_).symm
    rw [hstatus]
    exact nofun
  | append_singleton l j ih =>
    rw [List.nodup_append] at hl
    obtain ⟨hl, -, hdisjoint⟩ := hl
    have hj : j ∉ l := fun h => hdisjoint j h j List.mem_cons_self rfl
    obtain ⟨hdraw, -⟩ := withdrawOnes_other c hj s
    have hstatus := hpending j (List.mem_append_right l List.mem_cons_self)
    have hnormal := ih hl fun i hi => hpending i (List.mem_append_left _ hi)
    rw [List.foldl_append, List.foldl_cons, List.foldl_nil]
    generalize l.foldl (withdrawOne c) s = u at hdraw hnormal
    unfold withdrawOne
    split
    · have htaken : (withdrawDraw j u).transmit.normal = u.transmit.normal.filter (fun g => !g.frame.isDrawOpenOf j) := rfl
      rw [htaken, hnormal, List.filter_filter]
      refine List.filter_congr fun x _ => ?_
      rw [Bool.eq_iff_iff, Bool.and_eq_true, keptFrame_iff, keptFrame_iff, Bool.not_eq_true']
      have hown : ((withdrawDraw j u).draws.get j).status = .none := by
        rw [withdrawDraw, modEngine_draws, modDraw_draws, Four.get_modify_same]
        rfl
      refine ⟨fun ⟨hnot, hkept⟩ k hopen hwas => ?_, fun hkept => ⟨?_, fun k hopen hwas => ?_⟩⟩
      · have hkj : k ≠ j := fun h => Bool.false_ne_true (hnot.symm.trans (h ▸ hopen))
        rw [withdrawDraw_draws_other u hkj]
        exact hkept k hopen hwas
      · rw [← Bool.not_eq_true]
        exact fun hopen => hkept j hopen hstatus hown
      · by_cases hkj : k = j
        · subst hkj
          exact absurd hown (hkept k hopen hwas)
        · have hafter := hkept k hopen hwas
          rwa [withdrawDraw_draws_other u hkj] at hafter
    · exact hnormal

/-! ## After a withdrawal: the draw taken back is not granted again (R144, R145) -/

/-- Through offers and grants from `s` on, head `k` keeps its draw and its engine, and no DRAW-OPEN of it is queued. -/
structure StaysOut (k : Fin 4) (s t : State) : Prop where
  engine : t.engines.get k = s.engines.get k
  draw   : (s.draws.get k).sameDraw (t.draws.get k)
  frames : ∀ x ∈ t.transmit.normal, x.frame.isDrawOpenOf k = false

theorem openPayload_other (h : k ≠ j) (a : Ask) (life node : Nat) :
    (⟨node, .drawOpen, openPayload j a life⟩ : Frame).isDrawOpenOf k = false := by
  have hhead : (byte j.val).toNat = j.val := by
    rw [byte, BitVec.toNat_ofNat]
    omega
  refine Frame.isDrawOpenOf_other ?_ h
  have hown : u8 (openPayload j a life) 0 = j.val := hhead
  rw [Frame.isDrawOpenOf, hown, decide_eq_true rfl, decide_eq_true rfl]
  rfl

/-- An asking head that cannot fit, whatever else is granted, stays as it is. -/
theorem Moves.staysOut (h : Moves false s t) (hlawful : ∀ j, (s.draws.get j).lawful = true)
    (hask : (s.draws.get k).ask = some a) (hunfit : s.roomOf a.cls < s.shareOf a.cls + a.units)
    (hframes : ∀ x ∈ s.transmit.normal, x.frame.isDrawOpenOf k = false) : StaysOut k s t := by
  induction h with
  | refl => exact ⟨rfl, .refl _, hframes⟩
  | @tail u v hmoves hmove ih =>
    obtain ⟨hengine, hdraw, hqueue⟩ := ih
    cases hmove with
    | consult | refuse | position | reannounce | queued | waiting => exact ⟨hengine, hdraw, hqueue⟩
    | offer kind p hhalt hopen haccepts =>
      refine ⟨hengine, hdraw, fun x hx => ?_⟩
      rcases List.mem_append.1 hx with hx | hx
      · exact hqueue x hx
      · rw [List.mem_singleton.1 hx, Frame.isDrawOpenOf, decide_eq_false hopen, Bool.false_and]
    | closed j d =>
      refine ⟨hengine, hdraw.trans ?_, hqueue⟩
      by_cases hkj : k = j
      · subst hkj
        rw [modDraw_draws, Four.get_modify_same]
        exact ⟨_, rfl⟩
      · rw [modDraw_draws, Four.get_modify_other _ _ hkj]
        exact .refl _
    | grant j b hmode hasks hfits haccepts =>
      have hkj : k ≠ j := by
        rintro rfl
        obtain ⟨p, hp⟩ := hdraw
        obtain rfl : a = b := Option.some.inj (hask.symm.trans (by rw [hp] at hasks; exact hasks))
        have hroom : u.shareOf a.cls + u.pendOf a.cls + a.units ≤ u.roomOf a.cls := of_decide_eq_true hfits
        rw [Moves.shareOf hmoves hlawful, (Moves.steady hmoves).roomOf] at hroom
        omega
      refine ⟨?_, hdraw.trans ?_, fun x hx => ?_⟩
      · rw [modEngine_engines, Four.get_modify_other _ _ hkj]
        exact hengine
      · rw [modEngine_draws, modDraw_draws, Four.get_modify_other _ _ hkj]
        exact .refl _
      · rcases List.mem_append.1 hx with hx | hx
        · exact hqueue x hx
        · rw [List.mem_singleton.1 hx]
          exact openPayload_other hkj b _ _
    | withdraw j hw => exact absurd hw Bool.false_ne_true

/-- A withdrawal touches the units in use of no class, and leaves every draw lawful. -/
theorem withdrawDraw_shares (hlawful : ∀ j, (s.draws.get j).lawful = true) (hstatus : (s.draws.get k).status = .pending) :
    SameShares s (withdrawDraw k s) := by
  intro j
  by_cases hjk : j = k
  · subst hjk
    have hended : (withdrawDraw j s).draws.get j = OwnDraw.ended (s.restoredAsk (s.draws.get j)) (s.draws.get j) :=
      Four.get_modify_same _ _ _
    rw [hended]
    refine ⟨by simp [OwnDraw.lawful, OwnDraw.ended], fun c => ?_⟩
    rw [OwnDraw.openUnits_idle c (OwnDraw.isOpen_pending hstatus)]
    exact OwnDraw.openUnits_idle c (OwnDraw.isOpen_none rfl)
  · rw [withdrawDraw_draws_other s hjk]
    exact ⟨hlawful j, fun _ => rfl⟩

theorem SameShares.shareOf (h : SameShares s t) (hview : t.view = s.view) (c : DrawClass) : t.shareOf c = s.shareOf c := by
  have hunits : (fun k => (t.draws.get k).openUnits c) = fun k => (s.draws.get k).openUnits c :=
    funext fun j => (h j).2 c
  rw [State.shareOf, State.shareOf, hview, hunits]

theorem pendOf_sole (hstatus : (s.draws.get k).status = .pending) (hterms : (s.draws.get k).terms = some a)
    (hsole : ∀ j, j ≠ k → (s.draws.get j).status ≠ .pending) : s.pendOf a.cls = a.units := by
  have hnone : sumHeads (fun _ => 0) = 0 := rfl
  have hadds := @sumHeads_add (fun _ => 0) (fun j => (s.draws.get j).pendingUnits a.cls) k a.units
    (by rw [OwnDraw.pendingUnits, if_pos hstatus, OwnDraw.unitsOf, hterms]; simp)
    fun j hj => OwnDraw.pendingUnits_idle _ (hsole j hj)
  rwa [hnone, Nat.zero_add] at hadds

/-- The check that finds the class over Room, and head `k`'s draw its only PENDING one, takes it back, and nothing that
follows grants it again. -/
theorem checkAndRun_sole (hlawful : ∀ j, (s.draws.get j).lawful = true) (hstatus : (s.draws.get k).status = .pending)
    (hterms : (s.draws.get k).terms = some a) (hsole : ∀ j, j ≠ k → (s.draws.get j).status ≠ .pending)
    (hw : s.withdrawable k = true) (hover : s.overRoom a.cls = true)
    (hmotion : a.cls = .drive ∨ s.tracker.motion ≠ .stalled) :
    StaysOut k (withdrawDraw k s) (checkAndRun a.cls s) := by
  have hmem : k ∈ s.withdrawalOrder a.cls := mem_withdrawalOrder.2 ⟨hstatus, by rw [hterms]; rfl⟩
  have horder : s.withdrawalOrder a.cls = [k] := by
    refine eq_singleton_of_nodup (nodup_withdrawalOrder s _) hmem fun j hj => ?_
    refine Classical.byContradiction fun hne => hsole j hne (mem_withdrawalOrder.1 hj).1
  have htaken : withdrawals a.cls s = withdrawDraw k s := by
    rw [withdrawals, horder, List.foldl_cons, List.foldl_nil, withdrawOne_takes hover hw]
  have hmoves : Moves false (withdrawDraw k s) (checkAndRun a.cls s) := by
    rw [checkAndRun, withdrawalCheck, htaken]
    exact (moves_queueRemovals _ _).trans (moves_arbiter _ _)
  have hshares := withdrawDraw_shares hlawful hstatus
  have hask : ((withdrawDraw k s).draws.get k).ask = some a := by
    rw [(withdrawn_withdrawDraw hterms).draw]
    refine if_neg fun h => ?_
    rcases hmotion with hdrive | hturns
    · cases hdrive.symm.trans h.1
    · exact hturns h.2
  have hunfit : s.roomOf a.cls < s.shareOf a.cls + a.units := by
    have hbeyond : s.roomOf a.cls < s.shareOf a.cls + s.pendOf a.cls := of_decide_eq_true hover
    rwa [pendOf_sole hstatus hterms hsole] at hbeyond
  refine hmoves.staysOut (fun j => (hshares j).1) hask ?_ fun x hx => ?_
  · rw [hshares.shareOf rfl]
    exact hunfit
  · have hkept := (List.mem_filter.1 hx).2
    rwa [Bool.not_eq_true'] at hkept

end

/-- Settles O24: each draw of the class has one turn, in the order of slack, and the check stops acting within Room; what
follows a check grants no draw that has become too large. -/
theorem withdrawalCheckTakesBackGrants : Obligations.WithdrawalCheckTakesBackGrants := by
  unfold Obligations.WithdrawalCheckTakesBackGrants
  refine ⟨?_, ?_⟩
  · intro s c hlawful t back pends
    obtain ⟨hslots, hchannels, hstill⟩ := withdrawOnes_rest c (s.withdrawalOrder c) s
    have hsteady : Steady s t := .of_still hstill
    have hpending (j : Fin 4) (hj : j ∈ s.withdrawalOrder c) : (s.draws.get j).status = .pending :=
      (mem_withdrawalOrder.1 hj).1
    have hlisted {k : Fin 4} {a : Ask} (h : pends s k a) : k ∈ s.withdrawalOrder c := by
      obtain ⟨hstatus, hterms, hcls⟩ := h
      exact mem_withdrawalOrder.2 ⟨hstatus, by rw [hterms, Option.map_some, hcls]⟩
    refine ⟨fun hwithin => ?_, fun k => ?_, fun j k a b hj hk hgone hkept hw => ?_, ?_, ?_, hslots, hchannels,
      hsteady.unit, hsteady.view, hsteady.receive, hsteady.ground⟩
    · exact withdrawals_within (decide_eq_false (Nat.not_lt.2 hwithin))
    · rcases @withdrawals_each s c k with ⟨a, hstatus, hterms, hcls, hw, hwithdrawn⟩ | hsame
      · refine .inr ⟨a, ⟨hstatus, hterms, hcls⟩, hw, ?_⟩
        subst hcls
        refine ⟨hwithdrawn.draw, hwithdrawn.engine.trans ?_⟩
        rw [Engine.withdrawn]
        cases (s.engines.get k).phase <;> rfl
      · exact .inl hsame
    · exact withdrawals_ordered (hlisted hj) (hlisted hk) hgone hkept hw
    · cases hover : t.overRoom c with
      | false => exact .inl (Nat.not_lt.1 (of_decide_eq_false hover))
      | true => exact .inr fun k a ⟨hstatus, hterms, hcls⟩ => withdrawals_end hover hstatus hterms hcls
    · exact withdrawOnes_normal (nodup_withdrawalOrder s c) hpending
  · intro s f rest c k a hdel hlen hmode hnode hgroup hhead hcls hunits hlawful hnew hroom after hstatus hterms hacls hask
      hsole hw hover hmotion hphase
    subst hacls
    let x : State := { s.withFrames rest with view := after.view }
    have hrecorded : takeDrawOpen f (s.withFrames rest) = checkAndRun a.cls x := by
      have htest : takeDrawOpen f (s.withFrames rest) = testOpen f (s.withFrames rest) := if_pos hmode
      have hnew' : ¬(entryOf f a.cls).knownIn (s.withFrames rest).view.entries := fun ⟨e, he, hkey⟩ => hnew e he hkey
      have hopen := @testOpen_recorded (s.withFrames rest) f a.cls hnode hgroup hhead hcls hunits
      rw [htest, hopen, recordDraw_new hnew' hroom]
      rfl
    have harm : exec .drawOpen s = execDrawOpen s := rfl
    have hstays := @checkAndRun_sole x k a hlawful hstatus hterms hsole hw hover hmotion
    have hwithdrawn := @withdrawn_withdrawDraw x k a hterms
    have hsteady := (moves_checkAndRun a.cls x).steady
    have hasks : ¬(a.cls = .steam ∧ x.tracker.motion = .stalled) := fun h =>
      hmotion.elim (fun hdrive => by cases hdrive.symm.trans h.1) fun hturns => hturns h.2
    obtain ⟨hdraw, hengine⟩ := hwithdrawn
    rw [if_neg hasks] at hdraw
    rw [decide_eq_true hasks] at hengine
    obtain ⟨p, hlast⟩ := hstays.draw
    rw [hdraw] at hlast
    have hphase' : (x.engines.get k).phase = if a.cls = .steam then .steamAnnounced else .driveAnnounced := hphase
    obtain ⟨hwaits, hasking⟩ := Engine.withdrawn_waits hphase' true
    rw [harm, execDrawOpen, needing_next hdel hlen, hrecorded]
    refine ⟨_, rfl, hsteady.view, by rw [hlast]; rfl, by rw [hlast]; rfl, by rw [hlast]; rfl, by rw [hlast]; rfl, ?_, ?_,
      hstays.frames, hsteady.unit, hsteady.receive, hsteady.ground⟩
    · rw [hstays.engine, hengine]
      exact hwaits
    · rw [hstays.engine, hengine]
      exact hasking

end Sys2Proof.Machine
